-- ==== Sys2Proof/Word.lean ====
section
/-! DEFINITION. Word.lean: the plain widths of the CF-408 and the fixed tables its blocks are made of.
Figures with a range but no wrap (volumes, timers, counts) are `Nat` or `Int`; the 32-bit counts that wrap
(site time, shift number, sequence number, epoch; R179, R180, R159, R181) are `Word32`. -/

namespace Sys2Proof

/-- One byte of a serial line (R187). -/
abbrev Byte := BitVec 8

/-- A 32-bit count or code that wraps, or that is compared as bits (R179, R4: enrolled tag). -/
abbrev Word32 := BitVec 32

/-- A fixed number of like things (the eight meters, the four tanks, ...), indexed from 0. -/
abbrev Tab (α : Type) (n : Nat) := Vector α n

/-- The entry at an index. -/
abbrev Tab.read {α : Type} {n : Nat} (v : Tab α n) (i : Fin n) : α := v[i.val]

/-- The table with one entry replaced. -/
abbrev Tab.write {α : Type} {n : Nat} (v : Tab α n) (i : Fin n) (x : α) : Tab α n := v.set i.val x i.isLt

/-- Every entry passed through a function of its index and itself. -/
def Tab.mapWith {α β : Type} {n : Nat} (f : Fin n → α → β) (v : Tab α n) : Tab β n :=
  Vector.ofFn (fun i => f i v[i.val])

/-- The same entry everywhere. -/
abbrev Tab.all {α : Type} (n : Nat) (x : α) : Tab α n := Vector.replicate n x

/-- Ports A to D are 0 to 3 (R189: ports are encoded as 0 to 3 for A to D). -/
abbrev Port := Fin 4
/-- Nozzles 1 to 8, and the meters of the same number, held as 0 to 7. -/
abbrev NozzleId := Fin 8
/-- Tanks T1 to T4, and their pumps, held as 0 to 3. -/
abbrev TankId := Fin 4
/-- Products 1 to 4 held as 0 to 3. -/
abbrev ProductId := Fin 4
/-- Machine classes 0 to 7. -/
abbrev ClassId := Fin 8
/-- Probe channels 0 to 15 (section 2.2). -/
abbrev ChannelId := Fin 16
/-- Record cache lines 0 to 15 (R7). -/
abbrev LineId := Fin 16
/-- Record store slots 0 to 511 (R2). -/
abbrev SlotId := Fin 512
/-- Park slots 1 to 4 held as 0 to 3 (R125). -/
abbrev ParkId := Fin 4

/-- The number a master writes for a nozzle, tank, product or park slot held from 0. -/
abbrev number {n : Nat} (i : Fin n) : Nat := i.val + 1

/-- 2^32 - 1, the saturation figure of 32-bit fields (R44, R103). -/
abbrev maxWord : Nat := 4294967295

/-- The largest delivery, machine tank capacity, allowance or grant: 2,500,000 cL. -/
abbrev maxDelivery : Nat := 2500000

end Sys2Proof
end

