-- ==== Sys2Proof/Syntax.lean ====
section
/-! DEFINITION. Syntax.lean: the 72 commands of spec/opcode_table.json, one constructor of `Instr` each, and the
data their operands carry: machine records (R4, R5), the stored configuration (R182), step lists (R190) and what
the record store reports (R12, R3, R185).

Operands of requests are the figures as the frame carries them (R189): plain numbers that may lie outside the range
a rule gives the field, because the refusal of such a figure is part of the command's meaning. -/

namespace Sys2Proof

/-! ### The machine record (section 1.2) -/

/-- What a service line counts (R5). -/
inductive Basis where
  | hours | fuel
  deriving DecidableEq, Repr, Inhabited

/-- The state of a service line (R5, R138). -/
inductive LineState where
  | current | dueSoon | due | overdue
  deriving DecidableEq, Repr, Inhabited

/-- One service line of a record (R5). -/
structure ServiceLine where
  number    : Nat
  basis     : Basis
  interval  : Nat
  lastDone  : Nat
  warn      : Nat
  grace     : Nat
  enforcing : Bool
  waiver    : Option Nat
  state     : LineState
  deriving DecidableEq, Repr, Inhabited

/-- The last post stamp of a record (R142): clock epoch and site time. -/
structure Stamp where
  epoch : Word32
  time  : Word32
  deriving DecidableEq, Repr, Inhabited

/-- The machine record (R4). `stoodDown` is the machine state: ACTIVE or STOOD_DOWN. -/
structure MachineRecord where
  fleet        : Nat
  cls          : ClassId
  stoodDown    : Bool
  product      : ProductId
  capacity     : Nat
  tag          : Word32
  allowance    : Nat
  used         : Nat
  usageShift   : Word32
  lifetimeFuel : Nat
  reading      : Nat
  offset       : Nat
  stamp        : Option Stamp
  lines        : List ServiceLine
  restricted   : Bool
  openTicket   : Option Nat
  deriving DecidableEq, Repr, Inhabited

/-! ### The stored configuration (R182) -/

/-- A port's role (R166, R170). -/
inductive Role where
  | island | fleet | workshop | monitor
  deriving DecidableEq, Repr, Inhabited

/-- A port's stored role and baud rate (R166). -/
structure PortConfig where
  role : Role
  baud : Nat
  deriving DecidableEq, Repr, Inhabited

/-- A nozzle's static configuration (R79). -/
structure NozzleConfig where
  owner   : Port
  tank    : TankId
  channel : Fin 8
  km      : Nat
  enabled : Bool
  deriving DecidableEq, Repr, Inhabited

/-- The delivery settings group (R182). -/
structure DeliverySettings where
  prestop     : Nat
  stall       : Nat
  drainSettle : Nat
  hold        : Nat
  park        : Nat
  strayLimit  : Nat
  creepWindow : Nat
  creepLimit  : Nat
  deriving DecidableEq, Repr, Inhabited

/-- A product: expansion coefficient and default temperature (R48, R52). -/
structure ProductConfig where
  alpha       : Nat
  defaultTemp : Int
  deriving DecidableEq, Repr, Inhabited

/-- A class record (R107). -/
structure ClassConfig where
  name             : Tab Byte 4
  essential        : Bool
  grantEligible    : Bool
  ration           : Nat
  defaultAllowance : Nat
  deriving DecidableEq, Repr, Inhabited

/-- What a grant wait does at its expiry (R108, R120). -/
inductive GrantPolicy where
  | partialIssue | refuse
  deriving DecidableEq, Repr, Inhabited

/-- The authorisation group (R108). -/
structure AuthSettings where
  tier1         : Nat
  tier2         : Nat
  minIssue      : Nat
  grantsEnabled : Bool
  grantTimer    : Nat
  policy        : GrantPolicy
  deriving DecidableEq, Repr, Inhabited

/-- A point of a strapping list: level in mm, volume in litres (R55). -/
structure StrapPoint where
  level  : Nat
  litres : Nat
  deriving DecidableEq, Repr, Inhabited

/-- The static part of a tank record (R60). -/
structure TankConfig where
  product    : ProductId
  enabled    : Bool
  capacity   : Nat
  strapping  : List StrapPoint
  floor      : Nat
  tier1      : Nat
  tier2      : Nat
  reserve    : Nat
  hysteresis : Nat
  tolerance  : Nat
  startDelay : Nat
  runOn      : Nat
  deriving DecidableEq, Repr, Inhabited

/-- The span of a probe channel (R34). -/
structure Span where
  low  : Int
  high : Int
  deriving DecidableEq, Repr, Inhabited

/-- The probes group (R34, R36). -/
structure ProbeConfig where
  spans     : Tab Span 16
  divisor   : Nat
  holdLimit : Nat
  deriving DecidableEq, Repr, Inhabited

/-- The service and journal group (R145, R164). -/
structure ServiceConfig where
  hourTolerance    : Nat
  journalThreshold : Nat
  deriving DecidableEq, Repr, Inhabited

/-- The time group (R180, R181). -/
structure TimeConfig where
  shiftLength : Nat
  epoch       : Word32
  deriving DecidableEq, Repr, Inhabited

/-- The configuration image (R182). -/
structure Configuration where
  ports         : Tab PortConfig 4
  nozzles       : Tab NozzleConfig 8
  delivery      : DeliverySettings
  products      : Tab ProductConfig 4
  classes       : Tab ClassConfig 8
  authorisation : AuthSettings
  tanks         : Tab TankConfig 4
  probes        : ProbeConfig
  service       : ServiceConfig
  time          : TimeConfig
  deriving DecidableEq, Repr, Inhabited

/-! ### CONFIG_SET: one group, new values for any of its fields (R183). An absent field is left as it is;
flags, roles and policies are the code figures of R189. -/

structure PortPatch where
  role : Option Nat
  baud : Option Nat
  deriving DecidableEq, Repr, Inhabited

structure NozzlePatch where
  owner   : Option Nat
  tank    : Option Nat
  channel : Option Nat
  km      : Option Nat
  enabled : Option Nat
  deriving DecidableEq, Repr, Inhabited

structure DeliveryPatch where
  prestop     : Option Nat
  stall       : Option Nat
  drainSettle : Option Nat
  hold        : Option Nat
  park        : Option Nat
  strayLimit  : Option Nat
  creepWindow : Option Nat
  creepLimit  : Option Nat
  deriving DecidableEq, Repr, Inhabited

structure ProductPatch where
  alpha       : Option Nat
  defaultTemp : Option Int
  deriving DecidableEq, Repr, Inhabited

structure ClassPatch where
  name             : Option (Tab Byte 4)
  essential        : Option Nat
  grantEligible    : Option Nat
  ration           : Option Nat
  defaultAllowance : Option Nat
  deriving DecidableEq, Repr, Inhabited

structure AuthPatch where
  tier1         : Option Nat
  tier2         : Option Nat
  minIssue      : Option Nat
  grantsEnabled : Option Nat
  grantTimer    : Option Nat
  policy        : Option Nat
  deriving DecidableEq, Repr, Inhabited

structure TankPatch where
  product    : Option Nat
  enabled    : Option Nat
  capacity   : Option Nat
  strapping  : Option (List StrapPoint)
  floor      : Option Nat
  tier1      : Option Nat
  tier2      : Option Nat
  reserve    : Option Nat
  hysteresis : Option Nat
  tolerance  : Option Nat
  startDelay : Option Nat
  runOn      : Option Nat
  deriving DecidableEq, Repr, Inhabited

structure SpanPatch where
  low  : Option Int
  high : Option Int
  deriving DecidableEq, Repr, Inhabited

structure ProbePatch where
  spans     : Tab SpanPatch 16
  divisor   : Option Nat
  holdLimit : Option Nat
  deriving DecidableEq, Repr, Inhabited

structure ServicePatch where
  hourTolerance    : Option Nat
  journalThreshold : Option Nat
  deriving DecidableEq, Repr, Inhabited

structure TimePatch where
  shiftLength : Option Nat
  epoch       : Option Nat
  deriving DecidableEq, Repr, Inhabited

/-- The fields of a CONFIG_SET, by group (R182, R183). -/
inductive ConfigChange where
  | ports (c : Tab PortPatch 4)
  | nozzles (c : Tab NozzlePatch 8)
  | delivery (c : DeliveryPatch)
  | products (c : Tab ProductPatch 4)
  | classes (c : Tab ClassPatch 8)
  | authorisation (c : AuthPatch)
  | tanks (c : Tab TankPatch 4)
  | probes (c : ProbePatch)
  | service (c : ServicePatch)
  | time (c : TimePatch)
  deriving DecidableEq, Repr, Inhabited

/-! ### Fields of the other requests -/

/-- One step of a STEPS request as its bytes give it (R190, R191). `other` is a kind byte outside 0x01 to 0x05. -/
inductive RawStep where
  | ident (fleet : Nat) (tag : Word32) (verify : Nat)
  | auth (amount : Nat)
  | run (amount : Nat)
  | hold
  | finish
  | other (kind : Nat)
  deriving DecidableEq, Repr, Inhabited

/-- The fields of ENROL (R17). -/
structure EnrolFields where
  fleet     : Nat
  cls       : Nat
  product   : Nat
  capacity  : Nat
  tag       : Word32
  allowance : Option Nat
  reading   : Nat
  deriving DecidableEq, Repr, Inhabited

/-- A service line as REBUILD carries it: without state and due point (R21, R195). -/
structure RebuildLine where
  number    : Nat
  basis     : Nat
  interval  : Nat
  lastDone  : Nat
  warn      : Nat
  grace     : Nat
  enforcing : Nat
  waiver    : Option Nat
  deriving DecidableEq, Repr, Inhabited

/-- The fields of REBUILD (R21). `state` is the machine state's code, ACTIVE 0 and STOOD_DOWN 1. -/
structure RebuildFields where
  fleet        : Nat
  cls          : Nat
  product      : Nat
  capacity     : Nat
  tag          : Word32
  allowance    : Nat
  reading      : Nat
  used         : Nat
  lifetimeFuel : Nat
  offset       : Nat
  lines        : List RebuildLine
  state        : Nat
  deriving DecidableEq, Repr, Inhabited

/-- The fields of MACHINE_SET after the fleet number: each one present or absent (R19). -/
structure MachinePatch where
  cls       : Option Nat
  product   : Option Nat
  capacity  : Option Nat
  tag       : Option Word32
  allowance : Option Nat
  deriving DecidableEq, Repr, Inhabited

/-- A service line as SET_LINE carries it: without waiver, state and due point (R151, R195). -/
structure LineFields where
  number    : Nat
  basis     : Nat
  interval  : Nat
  lastDone  : Nat
  warn      : Nat
  grace     : Nat
  enforcing : Nat
  deriving DecidableEq, Repr, Inhabited

/-! ### What the record store reports (R12) -/

/-- The end of a FETCH (R13, R14): a record that passed its check word, a record that failed it, or a store failure. -/
inductive FetchResult where
  | record (r : MachineRecord)
  | badCheck
  | failed
  deriving DecidableEq, Repr, Inhabited

/-- The end of a HEADER_READ (R3). -/
inductive HeaderResult where
  | free
  | fleet (n : Nat)
  | failed
  deriving DecidableEq, Repr, Inhabited

/-- The end of a CONFIG_READ (R185). -/
inductive ConfigResult where
  | image (c : Configuration)
  | badCheck
  | failed
  deriving DecidableEq, Repr, Inhabited

/-! ### The commands -/

/-- One constructor per row of spec/opcode_table.json. A request names the port its frame arrived at and its master
tag, then its fields; the frame is complete, its CRC matches and its length is the one its code calls for (log 5). -/
inductive Instr where
  -- ISLAND requests
  | steps (p : Port) (tag : Byte) (nozzle : Nat) (list : List RawStep)
  | start (p : Port) (tag : Byte) (nozzle : Nat)
  | continueList (p : Port) (tag : Byte) (nozzle : Nat)
  | stop (p : Port) (tag : Byte) (nozzle : Nat)
  | abort (p : Port) (tag : Byte) (nozzle : Nat)
  | park (p : Port) (tag : Byte) (nozzle : Nat)
  | resume (p : Port) (tag : Byte) (ticket nozzle : Nat)
  | meterClear (p : Port) (tag : Byte) (nozzle : Nat)
  -- FLEET requests
  | hours (p : Port) (tag : Byte) (fleet reading : Nat)
  | grant (p : Port) (tag : Byte) (ticket extra : Nat)
  | journalFetch (p : Port) (tag : Byte)
  | journalRelease (p : Port) (tag : Byte) (seq : Word32)
  -- WORKSHOP requests
  | enrol (p : Port) (tag : Byte) (fields : EnrolFields)
  | withdraw (p : Port) (tag : Byte) (fleet : Nat)
  | machineSet (p : Port) (tag : Byte) (fleet : Nat) (patch : MachinePatch)
  | standDown (p : Port) (tag : Byte) (fleet : Nat)
  | returnMachine (p : Port) (tag : Byte) (fleet : Nat)
  | rebuild (p : Port) (tag : Byte) (fields : RebuildFields)
  | setLine (p : Port) (tag : Byte) (fleet : Nat) (line : LineFields)
  | setLineRemove (p : Port) (tag : Byte) (fleet line : Nat)
  | serviceDone (p : Port) (tag : Byte) (fleet line reading : Nat)
  | waiver (p : Port) (tag : Byte) (fleet line extension : Nat)
  | meterChange (p : Port) (tag : Byte) (fleet oldFinal newReading : Nat)
  | receiptOpen (p : Port) (tag : Byte) (tank docket : Nat)
  | receiptClose (p : Port) (tag : Byte) (tank : Nat)
  | stockAdjust (p : Port) (tag : Byte) (tank : Nat) (amount : Int)
  | reconcile (p : Port) (tag : Byte)
  | configSet (p : Port) (tag : Byte) (change : ConfigChange)
  | configRead (p : Port) (tag : Byte) (group : Nat)
  | storeRetry (p : Port) (tag : Byte)
  | clockSet (p : Port) (tag : Byte) (shift : Word32) (ticks : Nat)
  | initialise (p : Port) (tag : Byte)
  -- requests of every role
  | nozzleStatus (p : Port) (tag : Byte) (nozzle : Nat)
  | machineRead (p : Port) (tag : Byte) (fleet : Nat)
  | tankStatus (p : Port) (tag : Byte) (tank : Nat)
  | clockRead (p : Port) (tag : Byte)
  | deviceStatus (p : Port) (tag : Byte) (sect : Nat)
  | nextNotice (p : Port) (tag : Byte)
  | peekNotice (p : Port) (tag : Byte)
  | noticeMask (p : Port) (tag : Byte) (kinds : Word32)
  | attentionSelect (p : Port) (tag : Byte) (conditions : Byte)
  | attentionAck (p : Port) (tag : Byte)
  -- frames refused before their code is read, and the rest of a port's line events
  | badFrame (p : Port) (code tag : Byte)
  | unknownRequest (p : Port) (code tag : Byte)
  | frameTimerExpiry (p : Port)
  | responseSent (p : Port)
  | portReset (p : Port)
  -- resets
  | reset
  | powerUp (backupHeld : Bool)
  | initialiseReset
  -- time
  | tick
  | shiftRollover
  -- field lines and their timers
  | meterPulse (n : NozzleId)
  | scanTimerExpiry
  | sampleComplete (c : ChannelId) (code : BitVec 16)
  | creepWindowExpiry (n : NozzleId)
  | stallTimerExpiry (n : NozzleId)
  | drainSettleExpiry (n : NozzleId)
  | holdTimerExpiry (n : NozzleId)
  | parkTimerExpiry (k : ParkId)
  | grantTimerExpiry (n : NozzleId)
  | pumpStartTimerExpiry (t : TankId)
  | runOnTimerExpiry (t : TankId)
  -- store completions
  | fetchComplete (result : FetchResult)
  | writeComplete (ok : Bool)
  | eraseComplete (ok : Bool)
  | headerReadComplete (result : HeaderResult)
  | configReadComplete (result : ConfigResult)
  | configWriteComplete (ok : Bool)
  -- bytes, the RESET line and the main supply
  | portByteReceived (p : Port) (byte : Byte)
  | resetHeldLow
  | powerDown
  deriving DecidableEq, Repr, Inhabited

end Sys2Proof
end

