-- ==== Sys2Proof/Decode.lean ====
section
/-! DEFINITION. Decode.lean: the command a word of spec/opcode_table.json spells. The table gives no row any bits (every
row's "fields" is empty), so no word spells a command (log 3). Requests read from the bytes of a frame, by the layouts
of chapter 12, stand in Machine/Bytes.lean. -/

namespace Sys2Proof

/-- No row of the table has bits: every word is refused. -/
def decodeTableWord (_nbits _w : Nat) : Option Instr := none

end Sys2Proof
end

