-- ==== Sys2Proof/Config.lean ====
section
/-! DEFINITION. Config.lean: the free values of the model. Each is a constant with no body, so nothing can be proved
about its value and every statement holds whatever it is. Each is named by the log entry in its docstring. -/

namespace Sys2Proof.Config

/-- The fields of R79 to which no rule gives a value, or an absent form, in a context that is LOADED (log 38): a
delivery's START and its IDENT step set them. -/
inductive UnsetField where
  | originPort | startTime | startShift | fleet | tank
  deriving DecidableEq, Repr, Inhabited

/-- What NOZZLE_STATUS shows of such a field of a LOADED context (log 38). -/
opaque unsetField : UnsetField → Nat

/-- What a response carries in place of fields that would take more than the 197 bytes R188 leaves them (log 10); no
more than 197 of it are sent. -/
opaque overlongFields : List Byte → List Byte

/-- The figures of responses and notices whose width no rule of chapter 12 gives (log 9). -/
inductive OpenFigure where
  | ticks | pulses | smallCount | kFactor | coefficient | factor | tierFactor | baud | level | pointer
  deriving DecidableEq, Repr, Inhabited

/-- The width in bytes of such a figure (log 9). -/
opaque openWidth : OpenFigure → Nat

/-- What a field of a given width in bytes shows of a figure that does not fit it (log 10). -/
opaque unfitFigure : Nat → Int → Nat

/-- The creep count after a pulse that finds it at 255 already (log 11): R26 gives the count the range 0 to 255 and
R30 does not say what the next pulse makes of it. Applied to a counter, so that two such pulses may differ. -/
opaque creepPastTop : Nat → BitVec 8

end Sys2Proof.Config
end

