-- ==== Sys2Proof/Machine/Defaults.lean ====
section
/-! DEFINITION. Machine/Defaults.lean: the default configuration of R182 (with R107/R124 for classes, R108 for
authorisation and the table of section 2.2 for spans). -/

namespace Sys2Proof.Machine

/-- Four spaces (R124). -/
def blankName : Tab Byte 4 := Tab.all 4 0x20

/-- R124: the class record of a defaulted configuration. -/
def defaultClass : ClassConfig :=
  { name := blankName, essential := false, grantEligible := false, ration := 0, defaultAllowance := 0 }

/-- R182: a defaulted tank. -/
def defaultTank : TankConfig :=
  { product := 0, enabled := false, capacity := 1000000000,
    strapping := [⟨0, 0⟩, ⟨20000, 10000000⟩],
    floor := 0, tier1 := 300000, tier2 := 200000, reserve := 100000,
    hysteresis := 500000, tolerance := 50000, startDelay := 6, runOn := 120 }

/-- R182: nozzle n of a defaulted configuration is port A's, draws on tank 1 and uses channel n - 1. -/
def defaultNozzle (channel : Fin 8) : NozzleConfig :=
  { owner := 0, tank := 0, channel := channel, km := 100000, enabled := false }

/-- Section 2.2: the default span of a channel. Channels 8 to 11 are tank levels. -/
def defaultSpan (c : Nat) : Span := if 8 ≤ c ∧ c ≤ 11 then ⟨0, 20000⟩ else ⟨-400, 850⟩

/-- R182: the configuration a failed read falls back on. -/
def defaultConfiguration : Configuration :=
  { ports := #v[⟨.workshop, 19200⟩, ⟨.monitor, 19200⟩, ⟨.monitor, 19200⟩, ⟨.monitor, 19200⟩],
    nozzles := #v[defaultNozzle 0, defaultNozzle 1, defaultNozzle 2, defaultNozzle 3,
                  defaultNozzle 4, defaultNozzle 5, defaultNozzle 6, defaultNozzle 7],
    delivery := { prestop := 1000, stall := 90, drainSettle := 4, hold := 600, park := 3600,
                  strayLimit := 20, creepWindow := 4, creepLimit := 3 },
    products := Tab.all 4 ⟨830, 150⟩,
    classes := Tab.all 8 defaultClass,
    authorisation := { tier1 := 75, tier2 := 50, minIssue := 2000, grantsEnabled := false,
                       grantTimer := 60, policy := .partialIssue },
    tanks := Tab.all 4 defaultTank,
    probes := { spans := #v[defaultSpan 0, defaultSpan 1, defaultSpan 2, defaultSpan 3,
                            defaultSpan 4, defaultSpan 5, defaultSpan 6, defaultSpan 7,
                            defaultSpan 8, defaultSpan 9, defaultSpan 10, defaultSpan 11,
                            defaultSpan 12, defaultSpan 13, defaultSpan 14, defaultSpan 15],
                divisor := 2, holdLimit := 10 },
    service := { hourTolerance := 2, journalThreshold := 192 },
    time := { shiftLength := 86400, epoch := 0 } }

end Sys2Proof.Machine
end

