-- ==== Sys2Proof/Machine/State.lean ====
section
/-! DEFINITION. Machine/State.lean: everything the spec gives the part to hold, as plain data, block by block, and the
state right after power is applied on the cold path (`State.reset`). -/

namespace Sys2Proof.Machine

/-! ### Names the blocks share -/

/-- Statuses in code order (R192): 0x00 to 0x0F, then 0x10 to 0x1E. -/
inductive Status where
  | ok | okHeld | okClamped | badFrame | unknownRequest | notPermitted | portBusy | starting
  | badField | noSuchMachine | duplicate | tableFull | machineBusy | nozzleBusy | nozzleState | badList
  | journalFull | noParkSlot | noSuchTicket | tooLate | stale | empty | storeFault | recordDamaged
  | badReading | productMismatch | legLimit | meterFault | reserveOnly | receiptOpen | gaugeInvalid
  deriving DecidableEq, Repr, Inhabited

/-- Notice kinds in code order from 0x01 (R192). -/
inductive NoticeKind where
  | deliveryStage | deliveryDone | holdStarted | faultReplay | grantWanted | grantClosed | parkExpired
  | meterFault | probeState | serviceState
  | restriction | hourAnomaly | tierChange | stockVariance | receiptResult | journalLevel | shiftRollover
  | storeState | started
  deriving DecidableEq, Repr, Inhabited

/-- Refusal reasons, in the order R160 lists them. -/
inductive Reason where
  | notEnrolled | recordDamaged | storeFault | machineBusy | stoodDown | productMismatch | identMismatch
  | reserveOnly | noAllowance | noStock | belowMinimum | grantDenied | grantTimeout
  deriving DecidableEq, Repr, Inhabited

/-- The outcome of a finished delivery (R104). -/
inductive DeliveryOutcome where
  | complete | refused | aborted | expired | interrupted
  deriving DecidableEq, Repr, Inhabited

/-- The term that decided an authorised limit (R79, R114). -/
inductive Factor where
  | request | allowance | restriction | stock
  deriving DecidableEq, Repr, Inhabited

/-- Why a RUN ended (R95). -/
inductive RunEnd where
  | target | limit | stopped | stalled | tankLow | meterFault | aborted
  deriving DecidableEq, Repr, Inhabited

/-- A tank's ration tier, least rationed first (R60, R63). -/
inductive Tier where
  | normal | tier1 | tier2 | reserve
  deriving DecidableEq, Repr, Inhabited

/-- A requested amount: a figure, or FILL (R82). -/
inductive Requested where
  | amount (cl : Nat)
  | fill
  deriving DecidableEq, Repr, Inhabited

/-- A step of a validated list (R82). -/
inductive Step where
  | ident (fleet : Nat) (tag : Word32) (verify : Bool)
  | auth (amount : Requested)
  | run (amount : Nat)
  | hold
  | finish
  deriving DecidableEq, Repr, Inhabited

/-! ### Machine table unit (chapter 1) -/

/-- R2. -/
inductive SlotState where
  | free | used | erasing
  deriving DecidableEq, Repr, Inhabited

/-- An entry of the fleet index (R1). `damaged` is the index state: GOOD or DAMAGED. -/
structure IndexEntry where
  fleet   : Nat
  slot    : SlotId
  damaged : Bool
  deriving DecidableEq, Repr, Inhabited

/-- Who waits for a record: a port's request in hand, or a nozzle's IDENT step (R8). -/
inductive Requester where
  | port (p : Port)
  | ident (n : NozzleId)
  deriving DecidableEq, Repr, Inhabited

/-- The states in which a line has its record (R7). -/
inductive HeldState where
  | clean | dirty | writing
  deriving DecidableEq, Repr, Inhabited

/-- What a cache line holds (R7): EMPTY; FETCHING for a machine; or a record, CLEAN, DIRTY or WRITING. -/
inductive LineContent where
  | empty
  | fetching (fleet : Nat) (slot : SlotId)
  | held (st : HeldState) (slot : SlotId) (record : MachineRecord)
  deriving DecidableEq, Repr, Inhabited

/-- A cache line (R7). -/
structure CacheLine where
  content     : LineContent
  pinned      : Bool
  writeQueued : Bool
  waiters     : List Requester
  deriving DecidableEq, Repr, Inhabited

/-- Operations for the record store (R12). FETCH and WRITE name the line they serve beside the slot; `retry` marks the
second try of a read (R3, R13, R185); `asker` is the port whose WITHDRAW waits on an ERASE, absent once that port has
been reset (R25). -/
inductive StoreOp where
  | fetch (line : LineId) (slot : SlotId) (retry : Bool)
  | write (line : LineId) (slot : SlotId)
  | erase (slot : SlotId) (asker : Option Port)
  | headerRead (slot : SlotId) (retry : Bool)
  | configRead (retry : Bool)
  | configWrite
  deriving DecidableEq, Repr, Inhabited

/-- What a write in flight carries to the store (R11, R183). -/
inductive StoreData where
  | nothing
  | record (r : MachineRecord)
  | image (c : Configuration)
  deriving DecidableEq, Repr, Inhabited

/-- The operation in flight (R12). `discarded`: its line was discarded by WITHDRAW meanwhile (R14, R18). -/
structure InFlight where
  op        : StoreOp
  data      : StoreData
  discarded : Bool
  deriving DecidableEq, Repr, Inhabited

/-- The machine table unit. -/
structure MachineTable where
  index      : List IndexEntry
  slots      : Tab SlotState 512
  lines      : Tab CacheLine 16
  useOrder   : List LineId
  lineWait   : List (Nat × List Requester)
  queue      : List StoreOp
  inFlight   : Option InFlight
  faulted    : Bool
  failures   : Nat
  duplicates : Nat
  unread     : Nat
  deriving DecidableEq, Repr, Inhabited

/-! ### Meters and probes (chapter 2) -/

/-- R26. -/
inductive MeterState where
  | idle | inUse | faulted
  deriving DecidableEq, Repr, Inhabited

/-- A meter counter (R26); `window` is the creep window timer, which the meter owns (R30). -/
structure Meter where
  state  : MeterState
  bound  : Bool
  proven : Bool
  stray  : Nat
  creep  : Nat
  window : Option Nat
  count  : Nat
  deriving DecidableEq, Repr, Inhabited

/-- R27, R28, R30: why a meter faulted. -/
inductive MeterCause where
  | countLimit | creep | proving
  deriving DecidableEq, Repr, Inhabited

/-- R34. -/
inductive ChannelState where
  | unsettled | good | holding | failed
  deriving DecidableEq, Repr, Inhabited

/-- A probe channel (R34); its span is in the configuration. -/
structure Channel where
  state  : ChannelState
  value  : Option Int
  hold   : Nat
  settle : Nat
  deriving DecidableEq, Repr, Inhabited

/-- The probe scanner (R34): channels, scan timer, and the channel a scan under way samples next. -/
structure Scanner where
  channels : Tab Channel 16
  timer    : Nat
  position : Option ChannelId
  deriving DecidableEq, Repr, Inhabited

/-! ### Tanks (chapter 4) -/

/-- R57: the gauge; `net` absent is INVALID. -/
structure Gauge where
  net         : Option Nat
  substituted : Bool
  overGauge   : Bool
  clamped     : Bool
  deriving DecidableEq, Repr, Inhabited

/-- R60, R70: an open receipt with the opening flags. -/
structure Receipt where
  docket       : Nat
  gaugedAtOpen : Nat
  issued       : Nat
  substituted  : Bool
  overGauge    : Bool
  clamped      : Bool
  deriving DecidableEq, Repr, Inhabited

/-- R65. -/
inductive PumpState where
  | stopped | starting | running | runOn | heldLow
  deriving DecidableEq, Repr, Inhabited

/-- R65: a pump and its one timer. -/
structure Pump where
  state : PumpState
  timer : Option Nat
  deriving DecidableEq, Repr, Inhabited

/-- The dynamic part of a tank record (R60); `book` absent is UNKNOWN. -/
structure Tank where
  book    : Option Int
  tier    : Tier
  receipt : Option Receipt
  gauge   : Gauge
  pump    : Pump
  deriving DecidableEq, Repr, Inhabited

/-! ### Deliveries (chapters 3, 5, 6, 7) -/

/-- A leg (section 3.2). -/
structure Leg where
  meter       : NozzleId
  pulses      : Nat
  gross       : Nat
  fwt         : Int
  net         : Nat
  substituted : Bool
  clamped     : Bool
  deriving DecidableEq, Repr, Inhabited

/-- A pending fault (R98). -/
inductive PendingFault where
  | probeSubstitute | tankLow | meterFault | stall | grantWait
  deriving DecidableEq, Repr, Inhabited

/-- The set of pending faults (R98). -/
structure FaultSet where
  probeSubstitute : Bool
  tankLow         : Bool
  meterFault      : Bool
  stall           : Bool
  grantWait       : Bool
  deriving DecidableEq, Repr, Inhabited

/-- The wait terms of a deferred AUTH (R117). -/
structure WaitTerms where
  a          : Nat
  b          : Nat
  name       : Factor
  restricted : Bool
  first      : Bool
  deriving DecidableEq, Repr, Inhabited

/-- The fields of a delivery that outlive its nozzle (R79, R125). `verifyAsked` is the IDENT step's verify flag (R104,
R161); `product` is the product fixed with the first leg (R43); `line` is recorded once IDENT succeeds. -/
structure Delivery where
  ticket           : Nat
  originPort       : Port
  startTime        : Word32
  startShift       : Word32
  fleet            : Nat
  verifyAsked      : Bool
  line             : Option LineId
  tank             : TankId
  product          : Option ProductId
  requested        : Option Requested
  limit            : Nat
  factor           : Option Factor
  grantExtra       : Option Nat
  restrictedAtAuth : Bool
  verified         : Bool
  refusal          : Option Reason
  legs             : List Leg
  faults           : FaultSet
  wait             : Option WaitTerms
  deriving DecidableEq, Repr, Inhabited

/-- R80. -/
inductive NozzleState where
  | free | loaded | fetching | awaitGrant | priming | proving | flowFull | flowSlow | draining | held
  deriving DecidableEq, Repr, Inhabited

/-- R79, R96: what happens when the drain ends. -/
inductive PendingMove where
  | none | abort | park
  deriving DecidableEq, Repr, Inhabited

/-- A nozzle context (R79). `pointer` counts from 0: the step being executed is `steps[pointer]`. A timer is absent
when stopped; at 0 its expiry is due. -/
structure Context where
  state        : NozzleState
  delivery     : Option Delivery
  steps        : List Step
  pointer      : Nat
  segmentStart : Nat
  endReason    : Option RunEnd
  move         : PendingMove
  hold         : Option Nat
  stall        : Option Nat
  drain        : Option Nat
  grant        : Option Nat
  deriving DecidableEq, Repr, Inhabited

/-- R125. -/
inductive ParkReason where
  | request | preempt | holdExpired
  deriving DecidableEq, Repr, Inhabited

/-- A parked delivery with the slot's own fields (R125). -/
structure Parked where
  delivery    : Delivery
  parkingPort : Port
  nozzleLeft  : NozzleId
  reason      : ParkReason
  time        : Word32
  timer       : Nat
  deriving DecidableEq, Repr, Inhabited

/-- A park slot (R125). -/
inductive ParkSlot where
  | empty
  | reserved (n : NozzleId)
  | holding (p : Parked)
  deriving DecidableEq, Repr, Inhabited

/-! ### The journal (chapter 9) -/

/-- A leg as an entry shows it (R160): volumes saturated to 32 bits (R44). -/
structure EntryLeg where
  meter       : NozzleId
  gross       : Nat
  net         : Nat
  avgTemp     : Int
  substituted : Bool
  clamped     : Bool
  deriving DecidableEq, Repr, Inhabited

/-- A journal entry (R160). -/
structure JournalEntry where
  seq          : Word32
  ticket       : Nat
  fleet        : Nat
  product      : ProductId
  tank         : TankId
  originPort   : Port
  outcome      : DeliveryOutcome
  refusal      : Option Reason
  legs         : List EntryLeg
  totalGross   : Nat
  totalNet     : Nat
  avgTemp      : Int
  requested    : Option Requested
  limit        : Nat
  factor       : Option Factor
  grantExtra   : Option Nat
  overrun      : Nat
  unverified   : Bool
  substituted  : Bool
  clamped      : Bool
  restricted   : Bool
  crossedShift : Bool
  finishShift  : Word32
  startTime    : Word32
  finishTime   : Word32
  deriving DecidableEq, Repr, Inhabited

/-- R157. -/
structure Journal where
  entries      : List JournalEntry
  reservations : Nat
  nextSeq      : Word32
  deriving DecidableEq, Repr, Inhabited

/-! ### Notices (section 10.4) -/

/-- DELIVERY_STAGE by sub-kind (R105, R129, R134). -/
inductive StageNote where
  | identified (ticket fleet : Nat) (nozzle : NozzleId)
  | authorised (ticket limit : Nat) (factor : Option Factor)
  | authRefused (ticket : Nat) (reason : Reason) (limit : Nat)
  | runEnded (ticket : Nat) (reason : RunEnd) (running : Nat)
  | probeSubstitute (ticket leg : Nat) (temp : Int)
  | parked (ticket : Nat) (slot : ParkId) (reason : ParkReason) (running limit legs timer : Nat)
  | resumed (ticket : Nat) (nozzle : NozzleId) (tank : TankId) (limit legs : Nat)
  deriving DecidableEq, Repr, Inhabited

/-- The cause in HOLD_STARTED (R189). -/
inductive HoldCause where
  | hold | tankLow | meterFault | authRefused | resumed
  deriving DecidableEq, Repr, Inhabited

/-- The outcome in GRANT_CLOSED (R122). -/
inductive GrantOutcome where
  | granted | denied | timedOut | aborted | parked
  deriving DecidableEq, Repr, Inhabited

/-- The cause in SERVICE_STATE (R139), in the order of that table. -/
inductive ServiceCause where
  | hours | meterChange | fuel | serviceDone | waiver | setLine | rebuild
  deriving DecidableEq, Repr, Inhabited

/-- R147. -/
inductive AnomalyKind where
  | regress | jump
  deriving DecidableEq, Repr, Inhabited

/-- The outcome of a tank in reconciliation (R189). -/
inductive ReconcileOutcome where
  | notEnabled | skipped | setFromGauge | variance | within
  deriving DecidableEq, Repr, Inhabited

/-- Why reconciliation skipped a tank (R189). -/
inductive SkipCause where
  | receipt | gauge
  deriving DecidableEq, Repr, Inhabited

/-- When reconciliation ran (R73). -/
inductive Occasion where
  | rollover | request
  deriving DecidableEq, Repr, Inhabited

/-- The outcome of a receipt (R71, R72). -/
inductive ReceiptOutcome where
  | closed | cancelled
  deriving DecidableEq, Repr, Inhabited

/-- The kind of a JOURNAL_LEVEL (R164). -/
inductive LevelKind where
  | threshold | full
  deriving DecidableEq, Repr, Inhabited

/-- What brought a reset (R186, R189). -/
inductive ResetCause where
  | resetLine | powerUp | initialise
  deriving DecidableEq, Repr, Inhabited

/-- The three flags of a gauge or a receipt (R57, R71). -/
structure GaugeFlags where
  substituted : Bool
  overGauge   : Bool
  clamped     : Bool
  deriving DecidableEq, Repr, Inhabited

/-- What a GRANT_WANTED carries (R122). -/
structure GrantWanted where
  ticket     : Nat
  fleet      : Nat
  cls        : ClassId
  name       : Tab Byte 4
  nozzle     : NozzleId
  tank       : TankId
  tier       : Tier
  restricted : Bool
  first      : Bool
  netSoFar   : Nat
  a          : Nat
  b          : Nat
  shortfall  : Nat
  timer      : Nat
  deriving DecidableEq, Repr, Inhabited

/-- What reconciliation finds of one tank (R73, R74). -/
structure TankFinding where
  tank     : TankId
  outcome  : ReconcileOutcome
  cause    : Option SkipCause
  book     : Option Int
  gauged   : Option Nat
  variance : Int
  flags    : GaugeFlags
  deriving DecidableEq, Repr, Inhabited

/-- What STARTED carries (R186). -/
structure StartedNote where
  cold        : Bool
  cause       : ResetCause
  defaulted   : Bool
  epoch       : Word32
  shift       : Word32
  nextSeq     : Word32
  interrupted : Nat
  deriving DecidableEq, Repr, Inhabited

/-- A notice's kind and the fields its kind carries (R171 and the rules it names). -/
inductive NoticeBody where
  | deliveryStage (s : StageNote)
  | deliveryDone (ticket : Nat) (seq : Word32) (net : Nat) (outcome : DeliveryOutcome) (reason : Option Reason)
  | holdStarted (ticket : Nat) (cause : HoldCause) (running limit : Nat) (faults : FaultSet)
  | faultReplay (ticket : Nat) (fault : PendingFault) (nozzleLeft : NozzleId)
  | grantWanted (g : GrantWanted)
  | grantClosed (ticket : Nat) (outcome : GrantOutcome) (limit : Option Nat) (reason : Option Reason)
      (extra : Option Nat)
  | parkExpired (ticket fleet : Nat) (reason : ParkReason) (net : Nat)
  | meterFault (cause : MeterCause) (nozzle : NozzleId)
  | probeState (channel : ChannelId) (state : ChannelState) (value : Option Int)
  | serviceState (fleet line : Nat) (basis : Basis) (old new : Option LineState) (reading due : Nat)
      (cause : ServiceCause)
  | restriction (fleet : Nat) (restricted : Bool) (lines : List Nat)
  | hourAnomaly (fleet : Nat) (kind : AnomalyKind) (posted before after : Nat) (elapsed limit : Option Nat)
      (port : Port)
  | tierChange (tank : TankId) (old new : Tier) (usable : Int)
  | stockVariance (f : TankFinding) (occasion : Occasion)
  | receiptResult (tank : TankId) (outcome : ReceiptOutcome) (docket : Nat) (received difference : Int)
      (docketUsed : Bool) (flags : GaugeFlags)
  | journalLevel (kind : LevelKind) (entries reservations : Nat) (head : Option Word32)
  | shiftRollover (shift time : Word32)
  | storeState (faulted : Bool)
  | started (n : StartedNote)
  deriving DecidableEq, Repr, Inhabited

/-- A notice: site time of the posting event and its body (section 10.4). -/
structure Notice where
  time : Word32
  body : NoticeBody
  deriving DecidableEq, Repr, Inhabited

/-! ### Start-up (chapter 11) -/

/-- The stages of R185; `ready` is READY, every other stage is STARTING. -/
inductive Stage where
  | configuration | epoch | index | openBusiness | writes | ready
  deriving DecidableEq, Repr, Inhabited

/-- Start-up control (R184 to R186). -/
structure StartUp where
  stage       : Stage
  cold        : Bool
  cause       : ResetCause
  defaulted   : Bool
  interrupted : Nat
  nextHeader  : Nat
  deriving DecidableEq, Repr, Inhabited

/-- The timebase and shift clock (R179, R180). `rolloverDue`: a tick has brought the ticks into the shift to the shift
length and the rollover has not been taken yet. -/
structure Clock where
  siteTime    : Word32
  shift       : Word32
  ticks       : Nat
  rolloverDue : Bool
  deriving DecidableEq, Repr, Inhabited

/-- The main supply, the RESET line, the retained check word and a transmitted INITIALISE response (R184). -/
structure Power where
  powered       : Bool
  resetLow      : Bool
  checkGood     : Bool
  initialiseDue : Bool
  deriving DecidableEq, Repr, Inhabited

/-! ### Station ports (chapter 10) -/

/-- The frame assembler (R167): IDLE, or ASSEMBLING with the bytes kept after the lead byte and the frame timer. -/
inductive Assembler where
  | idle
  | assembling (bytes : List Byte) (timer : Nat)
  deriving DecidableEq, Repr, Inhabited

/-- A port's receive line as far as a line break makes it known (R177): high; found low by a break since the last tick;
found low before the last tick, and not since. -/
inductive ReceiveLine where
  | high | low | lowBefore
  deriving DecidableEq, Repr, Inhabited

/-- The requests that can wait (R169). `configSet covered`: a CONFIG_WRITE that carries the change has started. -/
inductive WaitingRequest where
  | machineRead (fleet : Nat)
  | machineSet (fleet : Nat) (patch : MachinePatch)
  | standDown (fleet : Nat)
  | returnMachine (fleet : Nat)
  | rebuild (fields : RebuildFields)
  | enrol (fields : EnrolFields)
  | hours (fleet reading : Nat)
  | meterChange (fleet oldFinal newReading : Nat)
  | serviceDone (fleet line reading : Nat)
  | waiver (fleet line extension : Nat)
  | setLine (fleet : Nat) (line : LineFields)
  | setLineRemove (fleet line : Nat)
  | withdraw (fleet : Nat)
  | configSet (covered : Bool)
  deriving DecidableEq, Repr, Inhabited

/-- The request in hand (R166). -/
structure InHand where
  tag     : Byte
  request : WaitingRequest
  deriving DecidableEq, Repr, Inhabited

/-- The attention selection, and the conditions it draws from (R175, R189). -/
structure Conditions where
  nonEmpty : Bool
  at16     : Bool
  lost     : Bool
  deriving DecidableEq, Repr, Inhabited

/-- One leg as NOZZLE_STATUS shows it (R50). -/
structure LegFigures where
  leg     : Leg
  avgTemp : Int
  ctl     : Nat
  deriving DecidableEq, Repr, Inhabited

/-- NOZZLE_STATUS (R81). -/
structure NozzleReport where
  nozzle   : NozzleId
  config   : NozzleConfig
  context  : Context
  meter    : Meter
  figures  : List LegFigures
  running  : Nat
  fullFlow : Bool
  slowFlow : Bool
  deriving DecidableEq, Repr, Inhabited

/-- TANK_STATUS (R76). -/
structure TankReport where
  tank         : TankId
  config       : TankConfig
  dynamic      : Tank
  usable       : Int
  ullage       : Nat
  levelChannel : Channel
  tempChannel  : Channel
  deriving DecidableEq, Repr, Inhabited

/-- Section 0 of DEVICE_STATUS (R186, R191, R157). -/
structure DeviceReport where
  startUp      : StartUp
  siteTime     : Word32
  shift        : Word32
  ticks        : Nat
  epoch        : Word32
  faulted      : Bool
  failures     : Nat
  duplicates   : Nat
  unread       : Nat
  entries      : Nat
  reservations : Nat
  head         : Option Word32
  nextSeq      : Word32
  threshold    : Nat
  full         : Bool
  deriving DecidableEq, Repr, Inhabited

/-- A cache line in section 1 of DEVICE_STATUS: state, pin and fleet number (R186). `state` is absent for EMPTY and
FETCHING; `fetching` tells them apart. -/
structure LineReport where
  fetching : Bool
  state    : Option HeldState
  pinned   : Bool
  fleet    : Option Nat
  deriving DecidableEq, Repr, Inhabited

/-- A park slot in section 2 of DEVICE_STATUS (R135). -/
inductive SlotReport where
  | empty
  | reserved (n : NozzleId)
  | holding (p : Parked) (product : ProductId) (running : Nat)
  deriving DecidableEq, Repr, Inhabited

/-- A port in section 3 of DEVICE_STATUS (R166). -/
structure PortReport where
  role      : Role
  baud      : Nat
  inHand    : Option WaitingRequest
  notices   : Nat
  lost      : Bool
  mask      : Word32
  select    : Conditions
  attention : Bool
  deriving DecidableEq, Repr, Inhabited

/-- The fields of a response after its status (R188: none in a refusal), by the request answered. -/
inductive Payload where
  | nothing
  | ticket (t : Nat)
  | parkSlot (k : Option ParkId)
  | resumed (ticket fleet limit legs : Nat) (state : NozzleState)
  | grantDecision (outcome : GrantOutcome) (limit : Option Nat) (reason : Option Reason) (factor : Factor)
  | journalHead (entries reservations : Nat) (full : Bool) (entry : Option JournalEntry)
  | released (head : Option Word32) (entries reservations : Nat)
  | stale (head : Option Word32)
  | enrolled (slot : SlotId)
  | machine (slot : SlotId) (record : MachineRecord)
  | hoursTaken (posted stored lifetime : Nat) (restricted : Bool)
  | hoursHeld (posted stored : Nat)
  | service (line : Option ServiceLine) (reading : Nat) (restricted : Bool)
  | receiptOpened (gauged : Nat)
  | receiptClosed (tank : TankId) (outcome : ReceiptOutcome) (docket : Nat) (received difference : Int)
      (docketUsed : Bool) (flags : GaugeFlags) (book : Option Int)
  | book (b : Int)
  | reconciled (l : List TankFinding)
  | configGroup (group : Nat) (c : Configuration) (epoch : Word32) (writePending : Bool)
  | clockSet (oldShift : Word32) (oldTicks : Nat) (newShift : Word32) (newTicks : Nat)
  | clock (siteTime epoch shift : Word32) (ticks shiftLength : Nat)
  | nozzle (r : NozzleReport)
  | tank (r : TankReport)
  | device (r : DeviceReport)
  | cache (l : List LineReport)
  | parkTable (l : List SlotReport)
  | portTable (l : List PortReport)
  | probes (channels : List Channel) (meters : List MeterState)
  | notice (lost : Bool) (count : Nat) (n : Option Notice)
  | mask (m : Word32)
  | attention (select : Option Conditions) (now : Conditions) (line : Option Bool)
  deriving DecidableEq, Repr, Inhabited

/-- A response (R187): request code + 0x80, master tag, status, fields. -/
structure Response where
  code    : Byte
  tag     : Byte
  status  : Status
  payload : Payload
  deriving DecidableEq, Repr, Inhabited

/-- A station port (R166). Its role is in the configuration. The response at the head of `line` is the one being
transmitted (R169: a response is transmitted when the one before it has been sent). -/
structure PortState where
  baud      : Nat
  receive   : ReceiveLine
  assembler : Assembler
  inHand    : Option InHand
  line      : List Response
  notices   : List Notice
  lost      : Bool
  mask      : Word32
  select    : Conditions
  attention : Bool
  deriving DecidableEq, Repr, Inhabited

/-! ### The part -/

/-- Everything the part holds, with the queue of commands still to be taken. -/
structure State where
  pending       : List Instr
  power         : Power
  startUp       : StartUp
  clock         : Clock
  config        : Configuration
  table         : MachineTable
  meters        : Tab Meter 8
  scanner       : Scanner
  tanks         : Tab Tank 4
  nozzles       : Tab Context 8
  ticketCounter : Nat
  expired       : List Nat
  park          : Tab ParkSlot 4
  journal       : Journal
  ports         : Tab PortState 4
  freeIndex     : Nat
  deriving DecidableEq, Repr, Inhabited

/-- No event of the part stops it with a fault: what the spec calls a fault is a state, a status or a reason, and the
step that meets it goes on. Nobody raises a fault; there is none to be safe or not safe about. -/
inductive Fault where
  deriving DecidableEq, Repr

/-- The refusals. -/
inductive Refusal where
  /-- A command that has no meaning yet, by its table name. Raised only by an arm of `exec`; no arm raises it now.
  Safe: the model stops where the part goes on. -/
  | notModelled (mnemonic : String)
  deriving DecidableEq, Repr

/-! ### Reset values, block by block -/

/-- R23: an EMPTY, unpinned line. -/
def emptyLine : CacheLine := { content := .empty, pinned := false, writeQueued := false, waiters := [] }

/-- R23: the use order of a cold start, line 0 most recent. -/
def coldUseOrder : List LineId := [0, 1, 2, 3, 4, 5, 6, 7, 8, 9, 10, 11, 12, 13, 14, 15]

/-- R23: the machine table unit of a cold start, before start-up issues anything. -/
def coldTable : MachineTable :=
  { index := [], slots := Tab.all 512 .free, lines := Tab.all 16 emptyLine, useOrder := coldUseOrder,
    lineWait := [], queue := [], inFlight := none, faulted := false, failures := 0, duplicates := 0, unread := 0 }

/-- R42: a meter after any reset. -/
def resetMeter : Meter :=
  { state := .idle, bound := false, proven := false, stray := 0, creep := 0, window := none, count := 0 }

/-- R42: a channel after any reset. -/
def resetChannel : Channel := { state := .unsettled, value := none, hold := 0, settle := 0 }

/-- R42: the scanner after any reset: its timer is loaded with 2. -/
def resetScanner : Scanner := { channels := Tab.all 16 resetChannel, timer := 2, position := none }

/-- R59: an INVALID gauge with its flags clear. -/
def invalidGauge : Gauge := { net := none, substituted := false, overGauge := false, clamped := false }

/-- R77: a STOPPED pump. -/
def stoppedPump : Pump := { state := .stopped, timer := none }

/-- R77: a tank after a cold start. -/
def coldTank : Tank := { book := none, tier := .reserve, receipt := none, gauge := invalidGauge, pump := stoppedPump }

/-- R106: a FREE context with every delivery field cleared. -/
def freeContext : Context :=
  { state := .free, delivery := none, steps := [], pointer := 0, segmentStart := 0, endReason := none,
    move := .none, hold := none, stall := none, drain := none, grant := none }

/-- R165: the journal after a cold start. -/
def coldJournal : Journal := { entries := [], reservations := 0, nextSeq := 1 }

/-- R178: a port after any reset (its baud rate until the configuration is loaded is R182's default, log 25; its receive
line, which R178 does not give, high, log 23). -/
def resetPort : PortState :=
  { baud := 19200, receive := .high, assembler := .idle, inHand := none, line := [], notices := [], lost := false, mask := 0,
    select := { nonEmpty := true, at16 := false, lost := false }, attention := false }

/-- R185: start-up begins with a CONFIG_READ, which starts at once because nothing is in flight (R12). -/
def configReadInFlight : InFlight := { op := .configRead false, data := .nothing, discarded := false }

/-- The part right after power is applied and the retained check found bad: the cold path of R184 with start-up in
its first stage (R185). -/
def State.reset : State :=
  { pending := [],
    power := { powered := true, resetLow := false, checkGood := true, initialiseDue := false },
    startUp := { stage := .configuration, cold := true, cause := .powerUp, defaulted := false,
                 interrupted := 0, nextHeader := 0 },
    clock := { siteTime := 0, shift := 0, ticks := 0, rolloverDue := false },
    config := defaultConfiguration,
    table := { coldTable with inFlight := some configReadInFlight },
    meters := Tab.all 8 resetMeter,
    scanner := resetScanner,
    tanks := Tab.all 4 coldTank,
    nozzles := Tab.all 8 freeContext,
    ticketCounter := 1,
    expired := [],
    park := Tab.all 4 .empty,
    journal := coldJournal,
    ports := Tab.all 4 resetPort,
    freeIndex := 0 }

end Sys2Proof.Machine
end

