-- ==== Sys2Proof/Machine/Flags.lean ====
section
/-! DEFINITION. Machine/Flags.lean: the sets of flags the part keeps: pending faults (R98), attention conditions
(R175), notice kinds and masks (R174, R189). -/

namespace Sys2Proof.Machine

/-! ### Pending faults (R98) -/

/-- The empty set. -/
def FaultSet.none : FaultSet :=
  { probeSubstitute := false, tankLow := false, meterFault := false, stall := false, grantWait := false }

/-- R98: adding a member already present changes nothing. -/
def FaultSet.add (f : PendingFault) (x : FaultSet) : FaultSet :=
  match f with
  | .probeSubstitute => { x with probeSubstitute := true }
  | .tankLow => { x with tankLow := true }
  | .meterFault => { x with meterFault := true }
  | .stall => { x with stall := true }
  | .grantWait => { x with grantWait := true }

/-- Whether a fault is in the set. -/
def FaultSet.has (f : PendingFault) (x : FaultSet) : Bool :=
  match f with
  | .probeSubstitute => x.probeSubstitute
  | .tankLow => x.tankLow
  | .meterFault => x.meterFault
  | .stall => x.stall
  | .grantWait => x.grantWait

/-- R98's order of the members. -/
def faultOrder : List PendingFault := [.probeSubstitute, .tankLow, .meterFault, .stall, .grantWait]

/-- The members in R98's order. -/
def FaultSet.members (x : FaultSet) : List PendingFault := faultOrder.filter (fun f => x.has f)

/-- R134: the set after the replay of a resume (GRANT_WAIT too is removed, when its wait is entered again). -/
def FaultSet.afterReplay (x : FaultSet) : FaultSet :=
  { FaultSet.none with probeSubstitute := x.probeSubstitute }

/-! ### Notice kinds (R171, R192) -/

/-- The kind of a notice. -/
def NoticeBody.kind : NoticeBody → NoticeKind
  | .deliveryStage _ => .deliveryStage
  | .deliveryDone .. => .deliveryDone
  | .holdStarted .. => .holdStarted
  | .faultReplay .. => .faultReplay
  | .grantWanted _ => .grantWanted
  | .grantClosed .. => .grantClosed
  | .parkExpired .. => .parkExpired
  | .meterFault .. => .meterFault
  | .probeState .. => .probeState
  | .serviceState .. => .serviceState
  | .restriction .. => .restriction
  | .hourAnomaly .. => .hourAnomaly
  | .tierChange .. => .tierChange
  | .stockVariance .. => .stockVariance
  | .receiptResult .. => .receiptResult
  | .journalLevel .. => .journalLevel
  | .shiftRollover .. => .shiftRollover
  | .storeState _ => .storeState
  | .started _ => .started

/-- R192: notice codes 0x01 to 0x13. -/
def NoticeKind.code (k : NoticeKind) : Nat :=
  match k with
  | .deliveryStage => 0x01 | .deliveryDone => 0x02 | .holdStarted => 0x03 | .faultReplay => 0x04
  | .grantWanted => 0x05 | .grantClosed => 0x06 | .parkExpired => 0x07 | .meterFault => 0x08
  | .probeState => 0x09 | .serviceState => 0x0A | .restriction => 0x0B | .hourAnomaly => 0x0C
  | .tierChange => 0x0D | .stockVariance => 0x0E | .receiptResult => 0x0F | .journalLevel => 0x10
  | .shiftRollover => 0x11 | .storeState => 0x12 | .started => 0x13

/-- R189: the bit of value 2^k stands for notice code k. -/
def maskHas (m : Word32) (k : NoticeKind) : Bool := m.getLsbD k.code

/-- R189, R174: the bits a mask may set: codes 0x01 to 0x12, so not STARTED. -/
def maskable : Word32 := 0x0007FFFE

/-! ### Attention (R175) -/

/-- R175: the three conditions of a port's own queue. -/
def PortState.conditions (p : PortState) : Conditions :=
  { nonEmpty := !p.notices.isEmpty, at16 := decide (16 ≤ p.notices.length), lost := p.lost }

/-- R175: whether a selected condition goes from false to true between two states of a port. -/
def attentionEdge (sel old new : Conditions) : Bool :=
  (sel.nonEmpty && !old.nonEmpty && new.nonEmpty) || (sel.at16 && !old.at16 && new.at16) ||
    (sel.lost && !old.lost && new.lost)

/-- R189: the attention selection's byte. -/
def conditionsOfByte (b : Byte) : Conditions :=
  { nonEmpty := b.getLsbD 0, at16 := b.getLsbD 1, lost := b.getLsbD 2 }

end Sys2Proof.Machine
end

