-- ==== Sys2Proof/Machine/Ops.lean ====
section
/-! DEFINITION. Machine/Ops.lean: the named accesses to the state that every block uses: reading and replacing one
port, nozzle, meter, tank, park slot or cache line; entering notices (R172, R175); responses (R169); and the pins that
are functions of the state (R80, R65). -/

namespace Sys2Proof.Machine

/-! ### Running and READY -/

/-- Powered and not held in reset (R184). -/
def State.running (s : State) : Bool := s.power.powered && !s.power.resetLow

/-- READY (R185 stage 6). -/
def State.ready (s : State) : Bool := decide (s.startUp.stage = .ready)

/-! ### Parts of the state by number -/

def State.port (s : State) (p : Port) : PortState := s.ports.read p
def State.ctx (s : State) (n : NozzleId) : Context := s.nozzles.read n
def State.meter (s : State) (n : NozzleId) : Meter := s.meters.read n
def State.tank (s : State) (t : TankId) : Tank := s.tanks.read t
def State.line (s : State) (l : LineId) : CacheLine := s.table.lines.read l
def State.slot (s : State) (k : ParkId) : ParkSlot := s.park.read k
def State.channel (s : State) (c : ChannelId) : Channel := s.scanner.channels.read c

def State.modPort (s : State) (p : Port) (f : PortState → PortState) : State :=
  { s with ports := s.ports.write p (f (s.port p)) }
def State.modCtx (s : State) (n : NozzleId) (f : Context → Context) : State :=
  { s with nozzles := s.nozzles.write n (f (s.ctx n)) }
def State.modMeter (s : State) (n : NozzleId) (f : Meter → Meter) : State :=
  { s with meters := s.meters.write n (f (s.meter n)) }
def State.modTank (s : State) (t : TankId) (f : Tank → Tank) : State :=
  { s with tanks := s.tanks.write t (f (s.tank t)) }
def State.modLine (s : State) (l : LineId) (f : CacheLine → CacheLine) : State :=
  { s with table := { s.table with lines := s.table.lines.write l (f (s.line l)) } }
def State.setSlot (s : State) (k : ParkId) (x : ParkSlot) : State :=
  { s with park := s.park.write k x }

/-! ### Configuration as the blocks read it, at the moment of use -/

def State.nozzleConfig (s : State) (n : NozzleId) : NozzleConfig := s.config.nozzles.read n
def State.tankConfig (s : State) (t : TankId) : TankConfig := s.config.tanks.read t
def State.productConfig (s : State) (p : ProductId) : ProductConfig := s.config.products.read p
def State.classConfig (s : State) (c : ClassId) : ClassConfig := s.config.classes.read c
def State.role (s : State) (p : Port) : Role := (s.config.ports.read p).role
/-- The port that owns a nozzle (R170). -/
def State.owner (s : State) (n : NozzleId) : Port := (s.nozzleConfig n).owner

/-! ### Deliveries -/

/-- A delivery whose every field is cleared: what a nozzle without a delivery is read as. -/
def blankDelivery : Delivery :=
  { ticket := 0, originPort := 0, startTime := 0, startShift := 0, fleet := 0, verifyAsked := false, line := none,
    tank := 0, product := none, requested := none, limit := 0, factor := none, grantExtra := none,
    restrictedAtAuth := false, verified := false, refusal := none, legs := [], faults := FaultSet.none, wait := none }

/-- The delivery in a nozzle context. -/
def State.delivery (s : State) (n : NozzleId) : Delivery := (s.ctx n).delivery.getD blankDelivery

def State.modDelivery (s : State) (n : NozzleId) (f : Delivery → Delivery) : State :=
  s.modCtx n fun c => { c with delivery := c.delivery.map f }

/-- R50: the running net, the sum of the nets of all legs. -/
def Delivery.running (d : Delivery) : Nat := (d.legs.map (fun l => l.net)).sum

/-- R44: a volume handed into a 32-bit field. -/
def sat32 (v : Nat) : Nat := min v maxWord

/-- R98. -/
def State.addFault (s : State) (n : NozzleId) (f : PendingFault) : State :=
  s.modDelivery n fun d => { d with faults := d.faults.add f }

/-- R79: a context is open in every state other than FREE and LOADED. -/
def NozzleState.isOpen (x : NozzleState) : Bool := !(x == .free || x == .loaded)

/-- R79: AWAIT_GRANT, PRIMING, PROVING, FLOW_FULL, FLOW_SLOW, DRAINING and HELD are past IDENT. -/
def NozzleState.pastIdent (x : NozzleState) : Bool := !(x == .free || x == .loaded || x == .fetching)

/-- R65: the states in which a nozzle is in its pump's demand. -/
def NozzleState.inDemand (x : NozzleState) : Bool :=
  x == .priming || x == .proving || x == .flowFull || x == .flowSlow

/-! ### Notices (R171, R172, R175) -/

/-- R175: the line is asserted when a selected condition goes from false to true, and otherwise stays as it is. -/
def attend (old new : PortState) : PortState :=
  { new with attention := old.attention || attentionEdge old.select old.conditions new.conditions }

/-- R172: a notice posted to a port. -/
def enterNotice (n : Notice) (p : PortState) : PortState :=
  if maskHas p.mask n.body.kind then p
  else if p.notices.length < 32 then attend p { p with notices := p.notices ++ [n] }
  else attend p { p with lost := true }

/-- A notice posted, in this event, to the ports a test picks. -/
def State.postWhere (s : State) (dest : Port → Bool) (b : NoticeBody) : State :=
  let n : Notice := { time := s.clock.siteTime, body := b }
  { s with ports := Tab.mapWith (fun p st => if dest p then enterNotice n st else st) s.ports }

def State.postTo (s : State) (p : Port) (b : NoticeBody) : State := s.postWhere (fun q => decide (q = p)) b
def State.postAll (s : State) (b : NoticeBody) : State := s.postWhere (fun _ => true) b
/-- To every port of one role, the role read at the moment of posting (R171). -/
def State.postRole (s : State) (r : Role) (b : NoticeBody) : State :=
  s.postWhere (fun q => decide (s.role q = r)) b
/-- To every WORKSHOP and FLEET port (R171). -/
def State.postOffice (s : State) (b : NoticeBody) : State :=
  s.postWhere (fun q => decide (s.role q = .workshop) || decide (s.role q = .fleet)) b
/-- To the owning port of a nozzle (R171). -/
def State.postOwner (s : State) (n : NozzleId) (b : NoticeBody) : State := s.postTo (s.owner n) b

/-- A list of notices of one routing, in order. -/
def State.postOffices (s : State) (l : List NoticeBody) : State := l.foldl (fun s b => s.postOffice b) s

/-! ### Requests and responses (R169, R187, R192) -/

/-- The request codes (R192). -/
inductive ReqCode where
  | steps | start | continueList | stop | abort | park | resume | meterClear
  | hours | grant | journalFetch | journalRelease
  | enrol | withdraw | machineSet | standDown | returnMachine | rebuild | setLine | serviceDone | waiver
  | meterChange | receiptOpen | receiptClose | stockAdjust | reconcile | configSet | configRead | storeRetry
  | clockSet | initialise
  | nozzleStatus | machineRead | tankStatus | clockRead | deviceStatus | nextNotice | peekNotice | noticeMask
  | attentionSelect | attentionAck
  deriving DecidableEq, Repr, Inhabited

/-- R192: the three runs of request codes. -/
def ReqCode.byte : ReqCode → Byte
  | .steps => 0x01 | .start => 0x02 | .continueList => 0x03 | .stop => 0x04 | .abort => 0x05 | .park => 0x06
  | .resume => 0x07 | .meterClear => 0x08
  | .hours => 0x10 | .grant => 0x11 | .journalFetch => 0x12 | .journalRelease => 0x13
  | .enrol => 0x20 | .withdraw => 0x21 | .machineSet => 0x22 | .standDown => 0x23 | .returnMachine => 0x24
  | .rebuild => 0x25 | .setLine => 0x26 | .serviceDone => 0x27 | .waiver => 0x28 | .meterChange => 0x29
  | .receiptOpen => 0x2A | .receiptClose => 0x2B | .stockAdjust => 0x2C | .reconcile => 0x2D | .configSet => 0x2E
  | .configRead => 0x2F | .storeRetry => 0x30 | .clockSet => 0x31 | .initialise => 0x32
  | .nozzleStatus => 0x40 | .machineRead => 0x41 | .tankStatus => 0x42 | .clockRead => 0x43
  | .deviceStatus => 0x44 | .nextNotice => 0x45 | .peekNotice => 0x46 | .noticeMask => 0x47
  | .attentionSelect => 0x48 | .attentionAck => 0x49

/-- Every request code. -/
def allCodes : List ReqCode :=
  [.steps, .start, .continueList, .stop, .abort, .park, .resume, .meterClear,
   .hours, .grant, .journalFetch, .journalRelease,
   .enrol, .withdraw, .machineSet, .standDown, .returnMachine, .rebuild, .setLine, .serviceDone, .waiver,
   .meterChange, .receiptOpen, .receiptClose, .stockAdjust, .reconcile, .configSet, .configRead, .storeRetry,
   .clockSet, .initialise,
   .nozzleStatus, .machineRead, .tankStatus, .clockRead, .deviceStatus, .nextNotice, .peekNotice, .noticeMask,
   .attentionSelect, .attentionAck]

/-- The request a code byte names, if any (R188: any other value is unknown). -/
def ReqCode.ofByte (b : Byte) : Option ReqCode := allCodes.find? (fun c => decide (c.byte = b))

/-- R187: a response's code byte is the request code + 0x80. Of a refused frame's code at 0x80 or above the sum does not fit
a byte, and its low byte is sent: DESIGN CHOICE (log 49). -/
def responseCode (b : Byte) : Byte := b + 0x80

/-- A response joins the port's response line (R169). -/
def State.respond (s : State) (p : Port) (r : Response) : State :=
  s.modPort p fun x => { x with line := x.line ++ [r] }

/-- The answer to a request that its block answers in the event that hands it over. -/
def State.reply (s : State) (p : Port) (code : ReqCode) (tag : Byte) (st : Status) (f : Payload) : State :=
  s.respond p { code := responseCode code.byte, tag := tag, status := st, payload := f }

/-- The code of a waiting request. -/
def WaitingRequest.code : WaitingRequest → ReqCode
  | .machineRead _ => .machineRead
  | .machineSet _ _ => .machineSet
  | .standDown _ => .standDown
  | .returnMachine _ => .returnMachine
  | .rebuild _ => .rebuild
  | .enrol _ => .enrol
  | .hours _ _ => .hours
  | .meterChange _ _ _ => .meterChange
  | .serviceDone _ _ _ => .serviceDone
  | .waiver _ _ _ => .waiver
  | .setLine _ _ => .setLine
  | .setLineRemove _ _ => .setLine
  | .withdraw _ => .withdraw
  | .configSet _ => .configSet

/-- R166: the request becomes the request in hand. -/
def State.takeInHand (s : State) (p : Port) (tag : Byte) (r : WaitingRequest) : State :=
  s.modPort p fun x => { x with inHand := some { tag := tag, request := r } }

/-- R169: the answer to the request in hand joins the line, and the port is free for a new request. -/
def State.answer (s : State) (p : Port) (st : Status) (f : Payload) : State :=
  match (s.port p).inHand with
  | none => s
  | some h =>
    (s.modPort p fun x => { x with inHand := none }).respond p
      { code := responseCode h.request.code.byte, tag := h.tag, status := st, payload := f }

/-! ### Pins that are functions of the state -/

/-- R80, R106: the full-flow output of a nozzle. -/
def State.fullFlow (s : State) (n : NozzleId) : Bool :=
  s.running && s.ready && decide ((s.ctx n).state = .flowFull)

/-- R80, R106: the slow-flow output of a nozzle. -/
def State.slowFlow (s : State) (n : NozzleId) : Bool :=
  s.running && s.ready && (decide ((s.ctx n).state = .flowFull) || decide ((s.ctx n).state = .flowSlow))

/-- R65: the pump-run output is on in STARTING, RUNNING and RUN_ON. -/
def State.pumpRun (s : State) (t : TankId) : Bool :=
  s.running && (match (s.tank t).pump.state with
    | .starting => true | .running => true | .runOn => true | .stopped => false | .heldLow => false)

/-! ### Lists of indices -/

/-- All nozzles in order. -/
def allNozzles : List NozzleId := [0, 1, 2, 3, 4, 5, 6, 7]
/-- All tanks in order T1 to T4. -/
def allTanks : List TankId := [0, 1, 2, 3]
/-- All park slots in order. -/
def allSlots : List ParkId := [0, 1, 2, 3]
/-- All ports in order. -/
def allPorts : List Port := [0, 1, 2, 3]
/-- All cache lines in order. -/
def allLines : List LineId := [0, 1, 2, 3, 4, 5, 6, 7, 8, 9, 10, 11, 12, 13, 14, 15]
/-- All channels in order. -/
def allChannels : List ChannelId := [0, 1, 2, 3, 4, 5, 6, 7, 8, 9, 10, 11, 12, 13, 14, 15]

end Sys2Proof.Machine
end

