-- ==== Sys2Proof/Machine/Service.lean ====
section
/-! DEFINITION. Machine/Service.lean: the service monitor of chapter 8 on one machine record, and the changes that
chapters 1 and 8 make to a record in hand. Nothing here touches the cache; Machine/Records.lean applies these to it. -/

namespace Sys2Proof.Machine

/-! ### The lazy shift reset (R6) -/

/-- R6: "used this shift" as any reading takes it. -/
def usedNow (shift : Word32) (r : MachineRecord) : Nat := if r.usageShift = shift then r.used else 0

/-- R6: what is applied before any change to a record. -/
def lazyReset (shift : Word32) (r : MachineRecord) : MachineRecord :=
  if r.usageShift = shift then r else { r with used := 0, usageShift := shift }

/-! ### Readings and bands (R137, R138) -/

/-- R137: the lifetime reading a basis counts. -/
def lifetime (r : MachineRecord) (b : Basis) : Nat :=
  match b with | .hours => r.reading + r.offset | .fuel => r.lifetimeFuel

/-- R138: last done plus interval plus waiver extension. -/
def duePoint (l : ServiceLine) : Nat := l.lastDone + l.interval + l.waiver.getD 0

/-- R138: the band a reading falls in. -/
def bandOf (x due warn grace : Int) : LineState :=
  if x < due - warn then .current
  else if x < due then .dueSoon
  else if x < due + grace then .due
  else .overdue

/-- R138: the state a line should hold. -/
def lineBand (r : MachineRecord) (l : ServiceLine) : LineState :=
  bandOf (lifetime r l.basis) (duePoint l) l.warn l.grace

/-- R140: whether a line list restricts its machine. -/
def restricts (ls : List ServiceLine) : Bool := ls.any (fun l => l.enforcing && decide (l.state = .overdue))

/-- R140: the enforcing lines that are OVERDUE. -/
def overdueLines (ls : List ServiceLine) : List Nat :=
  (ls.filter (fun l => l.enforcing && decide (l.state = .overdue))).map (fun l => l.number)

/-- R139, R140: the record with the picked lines evaluated and the restriction set. -/
def monitored (pick : ServiceLine → Bool) (r : MachineRecord) : MachineRecord :=
  let ls := r.lines.map (fun l => if pick l then { l with state := lineBand r l } else l)
  { r with lines := ls, restricted := restricts ls }

/-- The line of a number. -/
def findLine (ls : List ServiceLine) (n : Nat) : Option ServiceLine := ls.find? (fun l => decide (l.number = n))

/-- R139: the SERVICE_STATE of one line number, if its state changed. -/
def stateNote (old : List ServiceLine) (new : MachineRecord) (cause : ServiceCause) (n : Nat) : List NoticeBody :=
  match findLine old n, findLine new.lines n with
  | none, none => []
  | some o, none =>
    [.serviceState new.fleet n o.basis (some o.state) none (lifetime new o.basis) (duePoint o) cause]
  | none, some l =>
    [.serviceState new.fleet n l.basis none (some l.state) (lifetime new l.basis) (duePoint l) cause]
  | some o, some l =>
    if o.state = l.state then []
    else [.serviceState new.fleet n l.basis (some o.state) (some l.state) (lifetime new l.basis) (duePoint l) cause]

/-- R140: the RESTRICTION, if the flag changed. -/
def restrictionNote (old : Bool) (new : MachineRecord) : List NoticeBody :=
  if old = new.restricted then [] else [.restriction new.fleet new.restricted (overdueLines new.lines)]

/-- R139, R140: the notices between the lines and flag a machine had and the record it has: SERVICE_STATE in ascending
line number, then RESTRICTION. -/
def serviceNotes (old : List ServiceLine) (oldFlag : Bool) (new : MachineRecord) (cause : ServiceCause) :
    List NoticeBody :=
  [1, 2, 3, 4].flatMap (stateNote old new cause) ++ restrictionNote oldFlag new

/-- The lines of a basis. -/
def ofBasis (b : Basis) (l : ServiceLine) : Bool := decide (l.basis = b)

/-- The line of a number. -/
def ofNumber (n : Nat) (l : ServiceLine) : Bool := decide (l.number = n)

/-! ### Hour posts (R142 to R146) -/

/-- R142: the stamp when it is usable. -/
def usableStamp (epoch : Word32) (r : MachineRecord) : Option Stamp :=
  match r.stamp with
  | none => none
  | some st => if st.epoch = epoch ∧ epoch ≠ 0 then some st else none

/-- R145: unsigned elapsed ticks. -/
def elapsedSince (now : Word32) (st : Stamp) : Nat := (now - st.time).toNat

/-- R145: the jump limit. -/
def jumpLimit (elapsed tolerance : Nat) : Nat := elapsed / 720 + tolerance

/-- What becomes of a post. -/
inductive HoursVerdict where
  | held
  | taken (reading : Nat) (clamp : Option (Nat × Nat))
  | overflow
  deriving DecidableEq, Repr

/-- R143 to R145. -/
def hoursVerdict (epoch now : Word32) (tolerance : Nat) (r : MachineRecord) (posted : Nat) : HoursVerdict :=
  if posted < r.reading then .held
  else
    let v : Nat × Option (Nat × Nat) :=
      match usableStamp epoch r with
      | none => (posted, none)
      | some st =>
        let e := elapsedSince now st
        let lim := jumpLimit e tolerance
        if posted - r.reading ≤ lim then (posted, none) else (r.reading + lim, some (e, lim))
    if 99999999 < v.1 + r.offset then .overflow else .taken v.1 v.2

/-- R146: the record after a post that is not held. -/
def hoursApplied (epoch now : Word32) (reading : Nat) (r : MachineRecord) : MachineRecord :=
  let r' := { r with reading := reading, stamp := some { epoch := epoch, time := now } }
  if reading = r.reading then r' else monitored (ofBasis .hours) r'

/-! ### Workshop changes (R148 to R152); none is a refusal, with its status -/

/-- R137, R148: refused also when the lifetime hours after the change, the old offset plus the old final, would pass
99,999,999. -/
def meterChanged (oldFinal newReading : Nat) (r : MachineRecord) : Status ⊕ MachineRecord :=
  if oldFinal < r.reading ∨ r.offset + oldFinal < newReading ∨ 99999999 < r.offset + oldFinal then
    .inl .badReading
  else
    let r' := { r with reading := newReading, offset := r.offset + oldFinal - newReading, stamp := none }
    .inr (if oldFinal = r.reading then r' else monitored (ofBasis .hours) r')

/-- R149. -/
def serviceDone (line reading : Nat) (r : MachineRecord) : Status ⊕ MachineRecord :=
  match findLine r.lines line with
  | none => .inl .badField
  | some l =>
    if l.lastDone ≤ reading ∧ reading ≤ lifetime r l.basis then
      .inr (monitored (ofNumber line)
        { r with lines := r.lines.map (fun x =>
            if ofNumber line x then { x with lastDone := reading, waiver := none } else x) })
    else .inl .badReading

/-- R150. -/
def waived (line extension : Nat) (r : MachineRecord) : Status ⊕ MachineRecord :=
  match findLine r.lines line with
  | none => .inl .badField
  | some l =>
    if extension ≤ l.interval then
      .inr (monitored (ofNumber line)
        { r with lines := r.lines.map (fun x =>
            if ofNumber line x then { x with waiver := if extension = 0 then none else some extension } else x) })
    else .inl .badField

/-- R151: the waiver a changed line keeps. -/
def keptWaiver (old : Option ServiceLine) (new : ServiceLine) : Option Nat :=
  match old with
  | none => none
  | some o => if o.basis = new.basis ∧ o.waiver.getD 0 ≤ new.interval then o.waiver else none

/-- R5: a line put at its place in line-number order. -/
def placeLine (x : ServiceLine) : List ServiceLine → List ServiceLine
  | [] => [x]
  | y :: ys =>
    if x.number < y.number then x :: y :: ys
    else if x.number = y.number then x :: ys
    else y :: placeLine x ys

/-- R151. -/
def lineSet (l : ServiceLine) (r : MachineRecord) : Status ⊕ MachineRecord :=
  if lifetime r l.basis < l.lastDone then .inl .badReading
  else
    .inr (monitored (ofNumber l.number)
      { r with lines := placeLine { l with waiver := keptWaiver (findLine r.lines l.number) l } r.lines })

/-- R152. -/
def lineRemoved (line : Nat) (r : MachineRecord) : Status ⊕ MachineRecord :=
  match findLine r.lines line with
  | none => .inl .badField
  | some _ =>
    let ls := r.lines.filter (fun x => !ofNumber line x)
    .inr { r with lines := ls, restricted := restricts ls }

/-- Section 8.3: an accepted request answers with the line, the reading it counts against and the restricted flag. Of a
line that is no longer there, or of METER_CHANGE's, which names none, the answer has no line, and the reading is that of
the basis given: DESIGN CHOICE (log 35). -/
def servicePayload (line : Nat) (dflt : Basis) (r : MachineRecord) : Payload :=
  let l := findLine r.lines line
  .service l (lifetime r ((l.map (fun x => x.basis)).getD dflt)) r.restricted

end Sys2Proof.Machine
end

