-- ==== Sys2Proof/Machine/Operands.lean ====
section
/-! DEFINITION. Machine/Operands.lean: the operand forms of the commands. A figure of a request becomes the number it
names, or is outside the range its rule gives; a step list is read and validated (R82, R191); a configuration change
is made to a copy of the working configuration, or found out of range (R183). -/

namespace Sys2Proof.Machine

/-! ### Single figures -/

/-- A thing numbered from 1 (nozzles, tanks, products): none outside 1 to k. -/
def fromOne (k n : Nat) : Option (Fin k) := if h : 1 ≤ n ∧ n - 1 < k then some ⟨n - 1, h.2⟩ else none

/-- A thing numbered from 0 (classes, ports, channels): none at k or above. -/
def fromZero (k n : Nat) : Option (Fin k) := if h : n < k then some ⟨n, h⟩ else none

/-- A figure within a range, both ends included. -/
def inRange (lo hi v : Nat) : Option Nat := if lo ≤ v ∧ v ≤ hi then some v else none

/-- A signed figure within a range, both ends included. -/
def inRangeInt (lo hi v : Int) : Option Int := if lo ≤ v ∧ v ≤ hi then some v else none

/-- R189: a flag is 0 or 1. -/
def flagOf (v : Nat) : Option Bool := if v = 0 then some false else if v = 1 then some true else none

/-- R5: basis HOURS 0, FUEL 1 (R189: numbered in the order listed). -/
def basisOf (v : Nat) : Option Basis := if v = 0 then some .hours else if v = 1 then some .fuel else none

/-- The roles in the order of the table that defines them (section 'The parties at the ports'). -/
def roleOf (v : Nat) : Option Role :=
  if v = 0 then some .island else if v = 1 then some .fleet
  else if v = 2 then some .workshop else if v = 3 then some .monitor else none

/-- R108: PARTIAL 0, REFUSE 1. -/
def policyOf (v : Nat) : Option GrantPolicy :=
  if v = 0 then some .partialIssue else if v = 1 then some .refuse else none

/-- R166: the four baud rates. -/
def baudOf (v : Nat) : Option Nat :=
  if v = 19200 ∨ v = 38400 ∨ v = 57600 ∨ v = 115200 then some v else none

/-- R4: a fleet number. -/
def fleetOk (n : Nat) : Bool := decide (1 ≤ n ∧ n ≤ 9999)

/-- R4: an engine-hour reading. -/
def readingOk (n : Nat) : Bool := decide (n ≤ 999999)

/-- The largest lifetime hours (R137). -/
abbrev maxHours : Nat := 99999999

/-! ### Step lists -/

/-- R82, R191: a step of STEPS with its parameters in range. -/
def stepOf : RawStep → Option Step
  | .ident f t v => if fleetOk f then (flagOf v).map (fun b => .ident f t b) else none
  | .auth a => if a = 0 then some (.auth .fill) else (inRange 1 maxWord a).map (fun x => .auth (.amount x))
  | .run a => (inRange 0 maxDelivery a).map .run
  | .hold => some .hold
  | .finish => some .finish
  | .other _ => none

/-- Every step of a list, or none if one of them is out of range. -/
def stepsOf : List RawStep → Option (List Step)
  | [] => some []
  | r :: rs =>
    match stepOf r, stepsOf rs with
    | some x, some xs => some (x :: xs)
    | _, _ => none

/-- R82: HOLD and FINISH, the steps a list must end with. -/
def Step.isEnd : Step → Bool
  | .hold => true
  | .finish => true
  | .ident _ _ _ => false
  | .auth _ => false
  | .run _ => false

/-- An IDENT step. -/
def Step.isIdent : Step → Bool
  | .ident _ _ _ => true
  | .auth _ => false
  | .run _ => false
  | .hold => false
  | .finish => false

/-- R82: 1 to 8 steps, a HOLD or FINISH last and nowhere else. -/
def wellEnded (l : List Step) : Bool :=
  decide (1 ≤ l.length ∧ l.length ≤ 8) && (l.getLast?.map Step.isEnd).getD false
    && l.dropLast.all (fun x => !x.isEnd)

/-- R82: a list loaded in FREE begins IDENT, AUTH and holds no other IDENT. -/
def validFirst (l : List Step) : Bool :=
  wellEnded l && (match l with
    | .ident _ _ _ :: .auth _ :: rest => rest.all (fun x => !x.isIdent)
    | _ => false)

/-- R82: a list loaded in HELD holds no IDENT. -/
def validLater (l : List Step) : Bool := wellEnded l && l.all (fun x => !x.isIdent)

/-- R82, R83: the list a STEPS request loads, none when it is refused with BAD_LIST. -/
def loadedList (first : Bool) (raw : List RawStep) : Option (List Step) :=
  match stepsOf raw with
  | none => none
  | some l => if (if first then validFirst l else validLater l) then some l else none

/-! ### Machine record fields -/

/-- R17: every field of ENROL is in its range. -/
def enrolOk (f : EnrolFields) : Bool :=
  fleetOk f.fleet && decide (f.cls < 8) && (fromOne 4 f.product).isSome
    && (inRange 1 maxDelivery f.capacity).isSome && decide (f.allowance.getD 0 ≤ maxDelivery)
    && readingOk f.reading

/-- R19: every field present is in its range. -/
def machinePatchOk (p : MachinePatch) : Bool :=
  (match p.cls with | none => true | some c => decide (c < 8))
    && (match p.product with | none => true | some c => (fromOne 4 c).isSome)
    && (match p.capacity with | none => true | some c => (inRange 1 maxDelivery c).isSome)
    && (match p.allowance with | none => true | some c => decide (c ≤ maxDelivery))

/-- R5, R151: the largest interval of a basis. -/
def maxInterval (b : Basis) : Nat :=
  match b with | .hours => 99999 | .fuel => 100000000

/-- The largest last-done figure of a basis. R5 has it in lifetime hours or lifetime fuel and R151 gives it no range of its
own: that of R137's lifetime reading, DEDUCED (log 17). -/
def maxLifetime (b : Basis) : Nat :=
  match b with | .hours => maxHours | .fuel => maxWord

/-- R5, R151: a service line built from figures, none if one of them is out of range. Its state is not among them. R5 and
R21 give no range to the warn margin, the grace margin and the waiver extension of a REBUILD: one above the interval is out
of range, as R151 has it for SET_LINE and R150 for WAIVER, and an extension of 0 that is present stays present: DESIGN
CHOICE (log 14). -/
def lineOf (number basis interval lastDone warn grace enforcing : Nat) (waiver : Option Nat) : Option ServiceLine :=
  match basisOf basis, flagOf enforcing with
  | some b, some e =>
    if 1 ≤ number ∧ number ≤ 4 ∧ 1 ≤ interval ∧ interval ≤ maxInterval b ∧ lastDone ≤ maxLifetime b
        ∧ warn ≤ interval ∧ grace ≤ interval ∧ waiver.getD 0 ≤ interval then
      some { number := number, basis := b, interval := interval, lastDone := lastDone, warn := warn,
             grace := grace, enforcing := e, waiver := waiver, state := .current }
    else none
  | _, _ => none

/-- R151: the line of a SET_LINE. -/
def setLineOf (f : LineFields) : Option ServiceLine :=
  lineOf f.number f.basis f.interval f.lastDone f.warn f.grace f.enforcing none

/-- R21: a line of a REBUILD. -/
def rebuildLineOf (f : RebuildLine) : Option ServiceLine :=
  lineOf f.number f.basis f.interval f.lastDone f.warn f.grace f.enforcing f.waiver

/-- R21: the lines of a REBUILD in line-number order; none when one is out of range or two share a number. -/
def rebuildLines : List RebuildLine → Option (List ServiceLine)
  | [] => some []
  | r :: rs =>
    match rebuildLineOf r, rebuildLines rs with
    | some x, some xs => if xs.any (fun y => decide (y.number = x.number)) then none else some (placeLine x xs)
    | _, _ => none

/-- R21: the tests REBUILD makes of its own fields. -/
def rebuildOk (f : RebuildFields) : Bool :=
  decide (f.cls < 8) && (fromOne 4 f.product).isSome && (inRange 1 maxDelivery f.capacity).isSome
    && decide (f.allowance ≤ maxDelivery) && readingOk f.reading && decide (f.used ≤ maxWord)
    && decide (f.lifetimeFuel ≤ maxWord) && decide (f.reading + f.offset ≤ maxHours)
    && (flagOf f.state).isSome && (rebuildLines f.lines).isSome

/-! ### Configuration changes (R183) -/

/-- A field of a change: left as it is, or replaced by a value that passes its range. -/
def patched {α β : Type} (old : α) (x : Option β) (range : β → Option α) : Option α :=
  match x with
  | none => some old
  | some v => range v

/-- Every entry of a table, or none if one of them is none. -/
def tabOf {β : Type} [Inhabited β] {n : Nat} (f : Fin n → Option β) : Option (Tab β n) :=
  if (List.finRange n).all (fun i => (f i).isSome) then some (Vector.ofFn fun i => (f i).getD default) else none

/-- R166. -/
def applyPort (c : PortConfig) (p : PortPatch) : Option PortConfig := do
  let role ← patched c.role p.role roleOf
  let baud ← patched c.baud p.baud baudOf
  return { role := role, baud := baud }

/-- R79. -/
def applyNozzle (c : NozzleConfig) (p : NozzlePatch) : Option NozzleConfig := do
  let owner ← patched c.owner p.owner (fromZero 4)
  let tank ← patched c.tank p.tank (fromOne 4)
  let channel ← patched c.channel p.channel (fromZero 8)
  let km ← patched c.km p.km (inRange 1000 999999)
  let enabled ← patched c.enabled p.enabled flagOf
  return { owner := owner, tank := tank, channel := channel, km := km, enabled := enabled }

/-- The ranges of R92, R94, R96, R101, R129, R28 and R30. -/
def applyDelivery (c : DeliverySettings) (p : DeliveryPatch) : Option DeliverySettings := do
  let prestop ← patched c.prestop p.prestop (inRange 0 20000)
  let stall ← patched c.stall p.stall (inRange 10 1200)
  let drainSettle ← patched c.drainSettle p.drainSettle (inRange 1 40)
  let hold ← patched c.hold p.hold (inRange 60 7200)
  let park ← patched c.park p.park (inRange 120 28800)
  let strayLimit ← patched c.strayLimit p.strayLimit (inRange 1 255)
  let creepWindow ← patched c.creepWindow p.creepWindow (inRange 2 20)
  let creepLimit ← patched c.creepLimit p.creepLimit (inRange 0 50)
  return { prestop := prestop, stall := stall, drainSettle := drainSettle, hold := hold, park := park,
           strayLimit := strayLimit, creepWindow := creepWindow, creepLimit := creepLimit }

/-- R44, R48. -/
def applyProduct (c : ProductConfig) (p : ProductPatch) : Option ProductConfig := do
  let alpha ← patched c.alpha p.alpha (inRange 0 2000)
  let temp ← patched c.defaultTemp p.defaultTemp (inRangeInt (-400) 850)
  return { alpha := alpha, defaultTemp := temp }

/-- R107: four printable characters; that they are the bytes 0x20 to 0x7E no rule says: DESIGN CHOICE (log 43). -/
def nameOk (n : Tab Byte 4) : Option (Tab Byte 4) :=
  if n.toList.all (fun b => decide (0x20 ≤ b.toNat ∧ b.toNat ≤ 0x7E)) then some n else none

/-- R107. -/
def applyClass (c : ClassConfig) (p : ClassPatch) : Option ClassConfig := do
  let name ← patched c.name p.name nameOk
  let essential ← patched c.essential p.essential flagOf
  let eligible ← patched c.grantEligible p.grantEligible flagOf
  let ration ← patched c.ration p.ration (inRange 0 maxDelivery)
  let allowance ← patched c.defaultAllowance p.defaultAllowance (inRange 0 maxDelivery)
  return { name := name, essential := essential, grantEligible := eligible, ration := ration,
           defaultAllowance := allowance }

/-- R108. -/
def applyAuth (c : AuthSettings) (p : AuthPatch) : Option AuthSettings := do
  let tier1 ← patched c.tier1 p.tier1 (inRange 10 100)
  let tier2 ← patched c.tier2 p.tier2 (inRange 10 100)
  let minIssue ← patched c.minIssue p.minIssue (inRange 0 100000)
  let enabled ← patched c.grantsEnabled p.grantsEnabled flagOf
  let timer ← patched c.grantTimer p.grantTimer (inRange 4 1200)
  let policy ← patched c.policy p.policy policyOf
  return { tier1 := tier1, tier2 := tier2, minIssue := minIssue, grantsEnabled := enabled,
           grantTimer := timer, policy := policy }

/-- R55: each point later than another stands above it in level and in volume. -/
def risingPoints : List StrapPoint → Bool
  | [] => true
  | x :: xs =>
    (match xs with
      | [] => true
      | y :: _ => decide (x.level < y.level ∧ x.litres < y.litres)) && risingPoints xs

/-- R55: 2 to 24 points in range, strictly increasing. -/
def strappingOk (l : List StrapPoint) : Option (List StrapPoint) :=
  if decide (2 ≤ l.length ∧ l.length ≤ 24)
      && l.all (fun x => decide (x.level ≤ 20000 ∧ x.litres ≤ 10000000)) && risingPoints l then some l
  else none

/-- R61: capacity ≥ tier-1 > tier-2 > reserve > floor. -/
def thresholdsOk (t : TankConfig) : Bool :=
  decide (t.capacity ≥ t.tier1 ∧ t.tier1 > t.tier2 ∧ t.tier2 > t.reserve ∧ t.reserve > t.floor)

/-- A change that names no field of a tank. -/
def emptyTankPatch : TankPatch :=
  { product := none, enabled := none, capacity := none, strapping := none, floor := none, tier1 := none,
    tier2 := none, reserve := none, hysteresis := none, tolerance := none, startDelay := none, runOn := none }

/-- R60, R61: the static part of a tank as it would stand after the change, tested if anything of it is written. -/
def applyTank (c : TankConfig) (p : TankPatch) : Option TankConfig :=
  if p = emptyTankPatch then some c else do
    let product ← patched c.product p.product (fromOne 4)
    let enabled ← patched c.enabled p.enabled flagOf
    let capacity ← patched c.capacity p.capacity (inRange 1 1000000000)
    let strapping ← patched c.strapping p.strapping strappingOk
    let floor ← patched c.floor p.floor (inRange 0 1000000000)
    let tier1 ← patched c.tier1 p.tier1 (inRange 0 maxWord)
    let tier2 ← patched c.tier2 p.tier2 (inRange 0 maxWord)
    let reserve ← patched c.reserve p.reserve (inRange 0 maxWord)
    let hysteresis ← patched c.hysteresis p.hysteresis (inRange 0 100000000)
    let tolerance ← patched c.tolerance p.tolerance (inRange 0 100000000)
    let startDelay ← patched c.startDelay p.startDelay (inRange 1 60)
    let runOn ← patched c.runOn p.runOn (inRange 0 2400)
    let t : TankConfig :=
      { product := product, enabled := enabled, capacity := capacity, strapping := strapping, floor := floor,
        tier1 := tier1, tier2 := tier2, reserve := reserve, hysteresis := hysteresis, tolerance := tolerance,
        startDelay := startDelay, runOn := runOn }
    if thresholdsOk t then some t else none

/-- Section 2.2: channels 8 to 11 carry tank levels, the others temperatures. -/
def isLevelChannel (c : Nat) : Bool := decide (8 ≤ c ∧ c ≤ 11)

/-- The widest span of a channel: temperatures −400 to 850 (R44), levels 0 to 20,000 mm (section 2.2). -/
def widestSpan (c : ChannelId) : Span := if isLevelChannel c.val then ⟨0, 20000⟩ else ⟨-400, 850⟩

/-- R35, R44: a span lies within the range of its channel's unit. That its low end may equal its high end, and may not
stand above it, no rule says: DESIGN CHOICE (log 37). -/
def applySpan (i : ChannelId) (c : Span) (p : SpanPatch) : Option Span := do
  let low ← patched c.low p.low (inRangeInt (widestSpan i).low (widestSpan i).high)
  let high ← patched c.high p.high (inRangeInt (widestSpan i).low (widestSpan i).high)
  if low ≤ high then some { low := low, high := high } else none

/-- R34, R36. -/
def applyProbes (c : ProbeConfig) (p : ProbePatch) : Option ProbeConfig := do
  let spans ← tabOf (fun i => applySpan i (c.spans.read i) (p.spans.read i))
  let divisor ← patched c.divisor p.divisor (inRange 1 60)
  let holdLimit ← patched c.holdLimit p.holdLimit (inRange 1 100)
  return { spans := spans, divisor := divisor, holdLimit := holdLimit }

/-- R145, R164. -/
def applyService (c : ServiceConfig) (p : ServicePatch) : Option ServiceConfig := do
  let tolerance ← patched c.hourTolerance p.hourTolerance (inRange 0 100)
  let threshold ← patched c.journalThreshold p.journalThreshold (inRange 1 255)
  return { hourTolerance := tolerance, journalThreshold := threshold }

/-- R180, R181: a change that names the epoch is out of range. -/
def applyTime (c : TimeConfig) (p : TimePatch) : Option TimeConfig := do
  let shift ← patched c.shiftLength p.shiftLength (inRange 14400 172800)
  if p.epoch.isSome then none else some { c with shiftLength := shift }

/-- R183: the working copy as it would stand after the change; none is the BAD_FIELD refusal. -/
def applyChange (g : ConfigChange) (c : Configuration) : Option Configuration :=
  match g with
  | .ports p => (tabOf fun i => applyPort (c.ports.read i) (p.read i)).map fun x => { c with ports := x }
  | .nozzles p => (tabOf fun i => applyNozzle (c.nozzles.read i) (p.read i)).map fun x => { c with nozzles := x }
  | .delivery p => (applyDelivery c.delivery p).map fun x => { c with delivery := x }
  | .products p => (tabOf fun i => applyProduct (c.products.read i) (p.read i)).map fun x => { c with products := x }
  | .classes p => (tabOf fun i => applyClass (c.classes.read i) (p.read i)).map fun x => { c with classes := x }
  | .authorisation p => (applyAuth c.authorisation p).map fun x => { c with authorisation := x }
  | .tanks p => (tabOf fun i => applyTank (c.tanks.read i) (p.read i)).map fun x => { c with tanks := x }
  | .probes p => (applyProbes c.probes p).map fun x => { c with probes := x }
  | .service p => (applyService c.service p).map fun x => { c with service := x }
  | .time p => (applyTime c.time p).map fun x => { c with time := x }

end Sys2Proof.Machine
end

