-- ==== Sys2Proof/Machine/Table.lean ====
section
/-! DEFINITION. Machine/Table.lean: the machine table unit's own operations (chapter 1): look-up, cache lines, use
order, the store queue, asking for a record, changing a record. What a waiting requester does with its record stands in
Machine/Records.lean. -/

namespace Sys2Proof.Machine

def State.modTable (s : State) (f : MachineTable → MachineTable) : State := { s with table := f s.table }

/-! ### The index and the slot map (R1, R2) -/

/-- R1: the entry of a fleet number. -/
def State.entry (s : State) (f : Nat) : Option IndexEntry :=
  s.table.index.find? (fun e => decide (e.fleet = f))

def State.slotState (s : State) (k : SlotId) : SlotState := s.table.slots.read k

def State.setSlotState (s : State) (k : SlotId) (x : SlotState) : State :=
  s.modTable fun t => { t with slots := t.slots.write k x }

/-- R2: a machine whose slot is ERASING is treated as not enrolled. -/
def State.enrolled (s : State) (f : Nat) : Option IndexEntry :=
  match s.entry f with
  | none => none
  | some e => if s.slotState e.slot = .erasing then none else some e

/-- R1: an entry inserted at its place in the order. -/
def insertEntry (x : IndexEntry) : List IndexEntry → List IndexEntry
  | [] => [x]
  | y :: ys => if x.fleet < y.fleet then x :: y :: ys else y :: insertEntry x ys

/-- The index state of an entry set. -/
def State.markEntry (s : State) (f : Nat) (damaged : Bool) : State :=
  s.modTable fun t =>
    { t with index := t.index.map (fun e => if e.fleet = f then { e with damaged := damaged } else e) }

/-- The entry of a fleet number removed. -/
def State.dropEntry (s : State) (f : Nat) : State :=
  s.modTable fun t => { t with index := t.index.filter (fun e => !decide (e.fleet = f)) }

/-- R2: the lowest-numbered FREE slot. -/
def State.freeSlot (s : State) : Option SlotId :=
  (List.finRange 512).find? (fun k => decide (s.slotState k = .free))

/-- R3: the index is incomplete while the unread count is above zero. -/
def State.incomplete (s : State) : Bool := decide (0 < s.table.unread)

/-! ### Cache lines (R7) -/

/-- The machine a line holds or fetches. -/
def LineContent.fleet : LineContent → Option Nat
  | .empty => none
  | .fetching f _ => some f
  | .held _ _ r => some r.fleet

/-- The record of a line. -/
def LineContent.record : LineContent → Option MachineRecord
  | .empty => none
  | .fetching _ _ => none
  | .held _ _ r => some r

/-- The line of a machine. -/
def State.lineFor (s : State) (f : Nat) : Option LineId :=
  allLines.find? (fun l => decide ((s.line l).content.fleet = some f))

/-- The record in a line. -/
def State.recordAt (s : State) (l : LineId) : Option MachineRecord := (s.line l).content.record

/-- The record of a machine that is cached. -/
def State.cached (s : State) (f : Nat) : Option MachineRecord :=
  match s.lineFor f with
  | none => none
  | some l => s.recordAt l

/-- R7: a line moved to the most recent end of the use order. -/
def State.touch (s : State) (l : LineId) : State :=
  s.modTable fun t => { t with useOrder := l :: t.useOrder.filter (fun x => !decide (x = l)) }

/-- R12: an operation joins at the tail. -/
def State.enqueue (s : State) (op : StoreOp) : State :=
  s.modTable fun t => { t with queue := t.queue ++ [op] }

/-- A line that holds nothing, its waiting list and flags clear. -/
def State.emptyOut (s : State) (l : LineId) : State := s.modLine l fun _ => emptyLine

/-- R9: a CLEAN line without a pin. -/
def CacheLine.replaceable (x : CacheLine) : Bool :=
  !x.pinned && (match x.content with
    | .held .clean _ _ => true
    | .held .dirty _ _ => false
    | .held .writing _ _ => false
    | .fetching _ _ => false
    | .empty => false)

/-- R9: the line to take: an EMPTY one (the lowest-numbered, log 34), else the least recent unpinned CLEAN one. -/
def State.freeLine (s : State) : Option LineId :=
  match allLines.find? (fun l => decide ((s.line l).content = .empty)) with
  | some l => some l
  | none => s.table.useOrder.reverse.find? (fun l => (s.line l).replaceable)

/-- R11 and R21: a record put into its line, with a WRITE queued unless one is queued already; a WRITING line stays
WRITING, any other is DIRTY. The line is used (R7). -/
def State.putRecord (s : State) (l : LineId) (slot : SlotId) (r : MachineRecord) : State :=
  let st : HeldState := match (s.line l).content with
    | .held .writing _ _ => .writing
    | .held .clean _ _ => .dirty
    | .held .dirty _ _ => .dirty
    | .fetching _ _ => .dirty
    | .empty => .dirty
  let queued := (s.line l).writeQueued
  let s1 := s.modLine l fun x => { x with content := .held st slot r, writeQueued := true }
  let s2 := if queued then s1 else s1.enqueue (.write l slot)
  s2.touch l

/-- R6, R11: a change to the cached record of a line. -/
def State.changeRecord (s : State) (l : LineId) (f : MachineRecord → MachineRecord) : State :=
  match (s.line l).content with
  | .held _ slot r => s.putRecord l slot (f (lazyReset s.clock.shift r))
  | .fetching _ _ => s
  | .empty => s

def State.setPin (s : State) (l : LineId) (b : Bool) : State := s.modLine l fun x => { x with pinned := b }

/-! ### Asking for a record (R8, R9) -/

/-- The refusals of R8. -/
inductive RecordRefusal where
  | notEnrolled | damaged | storeFault
  deriving DecidableEq, Repr, Inhabited

/-- R8: the status a port is answered. -/
def RecordRefusal.status : RecordRefusal → Status
  | .notEnrolled => .noSuchMachine
  | .damaged => .recordDamaged
  | .storeFault => .storeFault

/-- R87: the reason an IDENT fails with. -/
def RecordRefusal.reason : RecordRefusal → Reason
  | .notEnrolled => .notEnrolled
  | .damaged => .recordDamaged
  | .storeFault => .storeFault

/-- What a request for a record is answered. -/
inductive Access where
  | given (l : LineId)
  | waits
  | refused (w : RecordRefusal)
  deriving DecidableEq, Repr, Inhabited

/-- R9: a requester joins the line wait list, under its number. -/
def joinWait (f : Nat) (who : Requester) : List (Nat × List Requester) → List (Nat × List Requester)
  | [] => [(f, [who])]
  | x :: xs => if x.1 = f then (f, x.2 ++ [who]) :: xs else x :: joinWait f who xs

def State.waitForLine (s : State) (f : Nat) (who : Requester) : State :=
  s.modTable fun t => { t with lineWait := joinWait f who t.lineWait }

/-- R8: a line set to FETCHING for a machine, with its waiting list, and its FETCH queued. -/
def State.beginFetch (s : State) (l : LineId) (f : Nat) (slot : SlotId) (who : List Requester) : State :=
  (s.modLine l fun _ =>
    { content := .fetching f slot, pinned := false, writeQueued := false, waiters := who }).enqueue
      (.fetch l slot false)

/-- R8: a block asks for a machine's record. -/
def State.requestRecord (s : State) (f : Nat) (who : Requester) : State × Access :=
  match s.enrolled f with
  | none => (s, .refused .notEnrolled)
  | some e =>
    if e.damaged then (s, .refused .damaged)
    else
      match s.lineFor f with
      | some l =>
        match (s.line l).content with
        | .held _ _ _ => (s.touch l, .given l)
        | .fetching _ _ => (s.modLine l fun x => { x with waiters := x.waiters ++ [who] }, .waits)
        | .empty => (s, .waits)
      | none =>
        if s.table.faulted then (s, .refused .storeFault)
        else
          match s.freeLine with
          | some l => (s.beginFetch l f e.slot [who], .waits)
          | none => (s.waitForLine f who, .waits)

/-- R8: a requester withdrawn from every waiting list; a number left with no requester leaves the line wait list. -/
def State.withdrawRequester (s : State) (who : Requester) : State :=
  let keep : List Requester → List Requester := fun ws => ws.filter (fun w => !decide (w = who))
  s.modTable fun t =>
    { t with lines := Tab.mapWith (fun _ x => { x with waiters := keep x.waiters }) t.lines,
             lineWait := (t.lineWait.map (fun x => (x.1, keep x.2))).filter (fun x => !x.2.isEmpty) }

/-! ### The configuration write (R12, R183) -/

/-- A CONFIG_WRITE is waiting in the queue. -/
def State.configWriteQueued (s : State) : Bool := s.table.queue.any (fun op => decide (op = .configWrite))

/-- A CONFIG_WRITE is queued or in flight. -/
def State.configWritePending (s : State) : Bool :=
  s.configWriteQueued || (match s.table.inFlight with
    | none => false
    | some x => decide (x.op = .configWrite))

/-- R183: a CONFIG_WRITE joins the queue unless one is queued. -/
def State.queueConfigWrite (s : State) : State :=
  if s.configWriteQueued then s else s.enqueue .configWrite

/-! ### Starting the operation at the head (R11, R12) -/

/-- R183: every request in hand that waits for a CONFIG_WRITE is covered by the one that starts now. -/
def coverRequests (s : State) : State :=
  { s with ports := Tab.mapWith (fun _ p =>
      { p with inHand := p.inHand.map (fun h =>
          match h.request with
          | .configSet _ => { h with request := .configSet true }
          | _ => h) }) s.ports }

/-- R11, R12: the operation given leaves the queue and is in flight. -/
def State.launch (s : State) (op : StoreOp) (rest : List StoreOp) : State :=
  let go (st : State) (d : StoreData) : State :=
    st.modTable fun t => { t with queue := rest, inFlight := some { op := op, data := d, discarded := false } }
  match op with
  | .write l _ =>
    match (s.line l).content with
    | .held _ slot r =>
      go (s.modLine l fun x => { x with content := .held .writing slot r, writeQueued := false }) (.record r)
    | .fetching _ _ => go s .nothing
    | .empty => go s .nothing
  | .configWrite => go (coverRequests s) (.image s.config)
  | .fetch _ _ _ => go s .nothing
  | .erase _ _ => go s .nothing
  | .headerRead _ _ => go s .nothing
  | .configRead _ => go s .nothing

/-- R12: when no operation is in flight and the interface is READY, the head of the queue starts. -/
def State.startStore (s : State) : State :=
  match s.table.inFlight, s.table.faulted, s.table.queue with
  | none, false, op :: rest => s.launch op rest
  | none, false, [] => s
  | none, true, _ => s
  | some _, _, _ => s

end Sys2Proof.Machine
end

