-- ==== Sys2Proof/Machine/Volume.lean ====
section
/-! DEFINITION. Machine/Volume.lean: the volume arithmetic of chapter 3, on plain figures. Every step is computed exactly
and rounded only where a rule says so (R44). -/

namespace Sys2Proof.Machine

/-- x / d rounded to the nearest integer, halves away from zero (R47). -/
def divAway (x : Int) (d : Nat) : Int :=
  let m : Nat := (2 * x.natAbs + d) / (2 * d)
  if x < 0 then -(m : Int) else (m : Int)

/-- R45: gross from the whole pulse count. -/
def grossOf (pulses km : Nat) : Nat := pulses * 100000 / km

/-- R47: the average temperature of a leg; a leg of zero gross takes the product's default. -/
def avgTemp (fwt : Int) (gross : Nat) (dflt : Int) : Int := if gross = 0 then dflt else divAway fwt gross

/-- R48: the correction factor before its clamp. -/
def rawCtl (alpha : Nat) (t : Int) : Int := 1000000 - divAway ((alpha : Int) * (t - 150)) 10

/-- R48: the correction factor, clamped to 900,000 to 1,100,000. -/
def ctlOf (alpha : Nat) (t : Int) : Nat := (max 900000 (min 1100000 (rawCtl alpha t))).toNat

/-- R48: whether the clamp moved it. -/
def ctlClamped (alpha : Nat) (t : Int) : Bool := decide (rawCtl alpha t < 900000 ∨ 1100000 < rawCtl alpha t)

/-- R49: a volume corrected to 15 °C. -/
def netOf (gross ctl : Nat) : Nat := (gross * ctl + 500000) / 1000000

/-- R51: a new leg on a meter. -/
def newLeg (m : NozzleId) : Leg :=
  { meter := m, pulses := 0, gross := 0, fwt := 0, net := 0, substituted := false, clamped := false }

/-- The average temperature of a leg as the product stands (R47). -/
def Leg.temp (p : ProductConfig) (l : Leg) : Int := avgTemp l.fwt l.gross p.defaultTemp

/-- R50, R53: a leg with its net and clamped flag computed afresh from its gross and FWT. -/
def Leg.settle (p : ProductConfig) (l : Leg) : Leg :=
  { l with net := netOf l.gross (ctlOf p.alpha (l.temp p)), clamped := ctlClamped p.alpha (l.temp p) }

/-- R45, R46: a leg at a counted pulse, with the whole count, K_m and the temperature in use. -/
def Leg.count (km : Nat) (pulses : Nat) (tUse : Int) (l : Leg) : Leg :=
  { l with pulses := pulses, gross := grossOf pulses km,
           fwt := l.fwt + ((grossOf pulses km : Int) - (l.gross : Int)) * tUse }

/-- R53: the total gross of a delivery. -/
def totalGross (legs : List Leg) : Nat := (legs.map (fun l => l.gross)).sum

/-- R53: the total net of a delivery whose legs have been settled. -/
def totalNet (legs : List Leg) : Nat := (legs.map (fun l => l.net)).sum

/-- R54: the delivery's average temperature. -/
def deliveryTemp (p : ProductConfig) (legs : List Leg) : Int :=
  avgTemp ((legs.map (fun l => (l.gross : Int) * l.temp p)).sum) (totalGross legs) p.defaultTemp

/-- R54: the substituted flag of a delivery. -/
def anySubstituted (legs : List Leg) : Bool := legs.any (fun l => l.substituted)

/-- R54: the clamped flag of a delivery. -/
def anyClamped (legs : List Leg) : Bool := legs.any (fun l => l.clamped)

/-- R50: what NOZZLE_STATUS shows of a leg beside its stored figures. -/
def Leg.figures (p : ProductConfig) (l : Leg) : LegFigures :=
  { leg := l, avgTemp := l.temp p, ctl := ctlOf p.alpha (l.temp p) }

/-! ### Tank gauging (section 3.4) -/

/-- R56: the interpolated volume in centilitres and the over-gauge mark, the point before the level being `lo`. -/
def strapFrom (level : Nat) (lo : StrapPoint) : List StrapPoint → Nat × Bool
  | [] => (100 * lo.litres, true)
  | hi :: rest =>
    if level < hi.level then
      (100 * lo.litres + 100 * (level - lo.level) * (hi.litres - lo.litres) / (hi.level - lo.level), false)
    else strapFrom level hi rest

/-- R56: the volume at a level. A level at or below the first point gives the first point's volume. -/
def strapVolume (pts : List StrapPoint) (level : Nat) : Nat × Bool :=
  match pts with
  | [] => (0, false)
  | p :: rest => if level < p.level then (100 * p.litres, false) else strapFrom level p rest

/-- R34: the usable value of a channel: GOOD, HOLDING, or UNSETTLED with a value kept. -/
def Channel.usable (c : Channel) : Option Int :=
  match c.state with
  | .failed => none
  | .unsettled => c.value
  | .good => c.value
  | .holding => c.value

/-- R57: a tank's gauge from the usable values of its level and temperature channels. -/
def gaugeOf (pts : List StrapPoint) (p : ProductConfig) (level temp : Option Int) : Gauge :=
  match level with
  | none => invalidGauge
  | some l =>
    let v := strapVolume pts l.toNat
    let t := temp.getD p.defaultTemp
    { net := some (netOf v.1 (ctlOf p.alpha t)), substituted := temp.isNone, overGauge := v.2,
      clamped := ctlClamped p.alpha t }

/-! ### Probe samples (R35) -/

/-- R35: a sample is valid in 9,437 to 55,050. -/
def sampleValid (code : Nat) : Bool := decide (9437 ≤ code ∧ code ≤ 55050)

/-- R35: the value of a valid sample, floored toward minus infinity and clamped to the span. -/
def sampleValue (span : Span) (code : Nat) : Int :=
  max span.low (min span.high
    (span.low + Int.fdiv (((code : Int) - 10486) * (span.high - span.low)) 41943))

end Sys2Proof.Machine
end

