-- ==== Sys2Proof/Machine/Nozzle.lean ====
section
/-! DEFINITION. Machine/Nozzle.lean: what a nozzle context, its meter and its tank's pump do to one another within one
RUN (R26, R29 to R31, R65 to R67, R91 to R98, R101). Nothing here goes on to a next step: Machine/Sequence.lean does. -/

namespace Sys2Proof.Machine

/-! ### Meters (R26) -/

/-- R26: a leg created on the nozzle's meter binds it. -/
def State.bindMeter (s : State) (n : NozzleId) : State :=
  s.modMeter n fun m =>
    { m with bound := true, count := 0, state := if m.state = .faulted then .faulted else .inUse }

/-- R26: the meter released when the context becomes FREE. -/
def State.releaseMeter (s : State) (n : NozzleId) : State :=
  s.modMeter n fun m =>
    { m with bound := false, count := 0, state := if m.state = .faulted then .faulted else .idle }

/-- R27, R28, R30, R32: the meter enters FAULTED, loses its proven flag, and METER_FAULT is posted. -/
def State.faultMeter (s : State) (n : NozzleId) (cause : MeterCause) : State :=
  (s.modMeter n fun m => { m with state := .faulted, proven := false }).postOwner n (.meterFault cause n)

/-- R31: a proving under way is abandoned: the window stopped and the creep count 0. -/
def State.abandonProving (s : State) (n : NozzleId) : State :=
  s.modMeter n fun m => if m.window.isSome then { m with window := none, creep := 0 } else m

/-! ### Pumps (R65 to R67) -/

/-- R65: the nozzles in the demand on a tank's pump, lowest number first: the order in which R67 tells them and R68 ends
their RUNs, which no rule gives, DESIGN CHOICE (log 41). -/
def State.demand (s : State) (t : TankId) : List NozzleId :=
  allNozzles.filter (fun n => decide ((s.nozzleConfig n).tank = t) && (s.ctx n).state.inDemand)

def State.setPump (s : State) (t : TankId) (x : PumpState) (timer : Option Nat) : State :=
  s.modTank t fun k => { k with pump := { state := x, timer := timer } }

/-- R67: a pump that has lost its last demand runs on, or stops when the run-on count is 0. -/
def State.runOnPump (s : State) (t : TankId) : State :=
  let r := (s.tankConfig t).runOn
  if r = 0 then s.setPump t .stopped none else s.setPump t .runOn (some r)

/-- R67: what the pump does when a nozzle of the tank has left its demand. -/
def State.leftDemand (s : State) (n : NozzleId) : State :=
  let t := (s.nozzleConfig n).tank
  if (s.tank t).pump.state = .running ∧ (s.demand t).isEmpty then s.runOnPump t else s

/-! ### HELD (R101) -/

/-- R101: every entry to HELD discards the list, loads the hold timer and posts HOLD_STARTED. That the segment start net of
the RUN before goes to 0 there is a DESIGN CHOICE (log 48). -/
def State.enterHeld (s : State) (n : NozzleId) (cause : HoldCause) : State :=
  let d := s.delivery n
  (s.modCtx n fun c =>
    { c with state := .held, steps := [], pointer := 0, segmentStart := 0, endReason := none, move := .none,
             hold := some s.config.delivery.hold, stall := none, drain := none, grant := none }).postOwner n
      (.holdStarted d.ticket cause d.running d.limit d.faults)

/-- R97: a RUN ended TANK_LOW or METER_FAULT: the fault joins the pending faults and the context enters HELD. -/
def State.heldByFault (s : State) (n : NozzleId) (f : PendingFault) (cause : HoldCause) : State :=
  (s.addFault n f).enterHeld n cause

/-! ### The end of a RUN (R95, R96) -/

/-- R95: RUN_ENDED with the reason and the running net. -/
def State.postRunEnded (s : State) (n : NozzleId) (r : RunEnd) : State :=
  s.postOwner n (.deliveryStage (.runEnded (s.delivery n).ticket r (s.delivery n).running))

/-- R95, R96: a RUN that ends in PROVING, FLOW_FULL or FLOW_SLOW: the valve shuts, a proving is abandoned, the nozzle
leaves its pump's demand, RUN_ENDED is posted and the hose drains. -/
def State.stopFlow (s : State) (n : NozzleId) (r : RunEnd) : State :=
  let s1 := s.modCtx n fun c =>
    { c with state := .draining, endReason := some r, stall := none, drain := some s.config.delivery.drainSettle }
  ((s1.abandonProving n).leftDemand n).postRunEnded n r

/-- R95: a RUN that ends in PRIMING: the nozzle leaves its pump's demand and RUN_ENDED is posted; the event then goes on
by R97 from here, the context out of PRIMING. -/
def State.quitPriming (s : State) (n : NozzleId) (r : RunEnd) : State :=
  ((s.modCtx n fun c => { c with state := .held }).leftDemand n).postRunEnded n r

/-! ### Flow (R92, R93) -/

/-- The segment amount of the RUN under way; 0 means to the limit (R82). -/
def Context.segment (c : Context) : Nat :=
  match c.steps[c.pointer]? with
  | some (.run a) => a
  | _ => 0

/-- R91: the target of the RUN under way. -/
def State.target (s : State) (n : NozzleId) : Nat :=
  let c := s.ctx n
  let limit := (s.delivery n).limit
  if c.segment = 0 then limit else min limit (c.segmentStart + c.segment)

/-- R92: the target less the prestop, or 0 if the prestop is larger. -/
def State.prestopPoint (s : State) (n : NozzleId) : Nat := s.target n - s.config.delivery.prestop

/-- R92: the stage test. -/
def State.stageTest (s : State) (n : NozzleId) : State :=
  let net := (s.delivery n).running
  if s.target n ≤ net then
    s.stopFlow n (if s.target n = (s.delivery n).limit then .limit else .target)
  else if (s.ctx n).state = .flowFull ∧ s.prestopPoint n ≤ net then
    s.modCtx n fun c => { c with state := .flowSlow }
  else s

/-- R93: entry to FLOW_FULL loads the stall timer and makes the stage test at once. -/
def State.enterFlow (s : State) (n : NozzleId) : State :=
  (s.modCtx n fun c => { c with state := .flowFull, stall := some s.config.delivery.stall }).stageTest n

/-- R30: entry to PROVING. -/
def State.enterProving (s : State) (n : NozzleId) : State :=
  (s.modCtx n fun c => { c with state := .proving }).modMeter n fun m =>
    { m with creep := 0, window := some s.config.delivery.creepWindow }

/-- R93: a nozzle told that its pump is RUNNING leaves PRIMING. -/
def State.toldRunning (s : State) (n : NozzleId) : State :=
  if (s.meter n).proven then s.enterFlow n else s.enterProving n

/-! ### The beginning of a RUN (R29, R66, R91) -/

/-- R66: a nozzle that has entered PRIMING joins the demand on its tank's pump. -/
def State.joinDemand (s : State) (n : NozzleId) : State :=
  let t := (s.nozzleConfig n).tank
  if (s.tankConfig t).enabled then
    match (s.tank t).pump.state with
    | .stopped => s.setPump t .starting (some (s.tankConfig t).startDelay)
    | .starting => s
    | .running => s.toldRunning n
    | .runOn => (s.setPump t .running none).toldRunning n
    | .heldLow => (s.quitPriming n .tankLow).heldByFault n .tankLow .tankLow
  else (s.quitPriming n .tankLow).heldByFault n .tankLow .tankLow

/-- R91: a RUN step begins. -/
def State.beginRun (s : State) (n : NozzleId) : State :=
  let s0 := s.modCtx n fun c => { c with segmentStart := (s.delivery n).running }
  if (s0.meter n).state = .faulted then
    (s0.postRunEnded n .meterFault).heldByFault n .meterFault .meterFault
  else
    ((s0.modMeter n fun m => { m with stray := 0 }).modCtx n fun c => { c with state := .priming }).joinDemand n

/-! ### Pulses that do not reach a leg (R28) -/

/-- R28: how a meter fault for creep reaches the context. Contexts kept across a warm reset are not reached. -/
def State.creepReaches (s : State) (n : NozzleId) : State :=
  if s.ready then
    match (s.ctx n).state with
    | .priming => (s.quitPriming n .meterFault).heldByFault n .meterFault .meterFault
    | .awaitGrant => s.addFault n .meterFault
    | .held => s.addFault n .meterFault
    | .free => s
    | .loaded => s
    | .fetching => s
    | .proving => s
    | .flowFull => s
    | .flowSlow => s
    | .draining => s
  else s

/-- R28: a stray pulse. -/
def State.strayPulse (s : State) (n : NozzleId) : State :=
  let s1 := s.modMeter n fun m => { m with stray := min 255 (m.stray + 1) }
  if s.config.delivery.strayLimit ≤ (s1.meter n).stray then (s1.faultMeter n .creep).creepReaches n else s1

end Sys2Proof.Machine
end

