-- ==== Sys2Proof/Machine/Stock.lean ====
section
/-! DEFINITION. Machine/Stock.lean: the tank manager of chapter 4: usable stock, tiers, the low-stock rule, gauges,
charges, receipts, reconciliation. -/

namespace Sys2Proof.Machine

/-! ### Usable stock and the tier (R62, R63) -/

/-- R60: book stock saturates at the ends of the signed 32-bit range. -/
def satBook (x : Int) : Int := max (-2147483648) (min 2147483647 x)

/-- R62: the lesser of book and gauge, the one known, or 0. -/
def Tank.usable (t : Tank) : Int :=
  match t.book, t.gauge.net with
  | some b, some g => min b (g : Int)
  | some b, none => b
  | none, some g => (g : Int)
  | none, none => 0

/-- R63: NORMAL least rationed, RESERVE most. -/
def Tier.rank : Tier → Nat
  | .normal => 0 | .tier1 => 1 | .tier2 => 2 | .reserve => 3

/-- R63: F(u). -/
def fallingTier (c : TankConfig) (u : Int) : Tier :=
  if u < c.reserve then .reserve else if u < c.tier2 then .tier2 else if u < c.tier1 then .tier1 else .normal

/-- R63: G(u). -/
def risingTier (c : TankConfig) (u : Int) : Tier :=
  if (c.tier1 + c.hysteresis : Nat) ≤ u then .normal
  else if (c.tier2 + c.hysteresis : Nat) ≤ u then .tier1
  else if (c.reserve + c.hysteresis : Nat) ≤ u then .tier2
  else .reserve

/-- R63: the tier after a re-evaluation. -/
def nextTier (c : TankConfig) (u : Int) (t : Tier) : Tier :=
  if t.rank < (fallingTier c u).rank then fallingTier c u
  else if (risingTier c u).rank < t.rank then risingTier c u
  else t

/-- R63: the tier re-evaluated, with TIER_CHANGE if it moves. -/
def State.evaluateTier (s : State) (t : TankId) : State :=
  let k := s.tank t
  let new := nextTier (s.tankConfig t) k.usable k.tier
  if new = k.tier then s
  else (s.modTank t fun x => { x with tier := new }).postAll (.tierChange t k.tier new k.usable)

/-- R68: the RUN of one nozzle ended TANK_LOW by the low-stock rule. -/
def State.endLow (s : State) (n : NozzleId) : State :=
  match (s.ctx n).state with
  | .priming => (s.quitPriming n .tankLow).heldByFault n .tankLow .tankLow
  | .proving => s.stopFlow n .tankLow
  | .flowFull => s.stopFlow n .tankLow
  | .flowSlow => s.stopFlow n .tankLow
  | .free => s
  | .loaded => s
  | .fetching => s
  | .awaitGrant => s
  | .draining => s
  | .held => s

/-- R68: the low-stock state. Contexts kept across a warm reset have no RUN to end (R106). -/
def State.evaluateLow (s : State) (t : TankId) : State :=
  let u := (s.tank t).usable
  let floor : Int := (s.tankConfig t).floor
  if u ≤ floor then
    if (s.tank t).pump.state = .heldLow then s
    else
      let s1 := s.setPump t .heldLow none
      if s.ready then (s.demand t).foldl State.endLow s1 else s1
  else if (s.tank t).pump.state = .heldLow then s.setPump t .stopped none
  else s

/-- R62: what follows every recomputation of usable stock, on an enabled tank. R62 lets the tier and the low-stock state be
taken in either order: the tier is first, so its notice enters the queues first, DESIGN CHOICE (log 47). -/
def State.evaluateTank (s : State) (t : TankId) : State :=
  if (s.tankConfig t).enabled then (s.evaluateTier t).evaluateLow t else s

/-! ### Gauges (R57, R58) -/

/-- The level channel of a tank: 7 + p. -/
def levelChannel (t : TankId) : ChannelId := ⟨8 + t.val, by omega⟩

/-- The temperature channel of a tank: 11 + p. -/
def tempChannel (t : TankId) : ChannelId := ⟨12 + t.val, by omega⟩

/-- R40, R58: the tank gauged afresh, and the tank manager told. A tank not enabled is not gauged. -/
def State.gaugeTank (s : State) (t : TankId) : State :=
  let c := s.tankConfig t
  if c.enabled then
    let g := gaugeOf c.strapping (s.productConfig c.product) (s.channel (levelChannel t)).usable
      (s.channel (tempChannel t)).usable
    (s.modTank t fun k => { k with gauge := g }).evaluateTank t
  else s

def Gauge.flags (g : Gauge) : GaugeFlags :=
  { substituted := g.substituted, overGauge := g.overGauge, clamped := g.clamped }

/-! ### Booking (R69, R71, R72, R75) -/

/-- R69: a finishing delivery's net taken from its tank. -/
def State.chargeTank (s : State) (t : TankId) (net : Nat) : State :=
  (s.modTank t fun k =>
    { k with book := k.book.map (fun b => satBook (b - net)),
             receipt := k.receipt.map (fun r => { r with issued := sat32 (r.issued + net) }) }).evaluateTank t

/-- R71: the amount received, worked out from the gauge at the close, or the docket. -/
def Receipt.received (r : Receipt) (g : Option Nat) : Int :=
  match g with
  | some x => (x : Int) - (r.gaugedAtOpen : Int) + (r.issued : Int)
  | none => (r.docket : Int)

/-- R71: the flags of a result: those of the opening, and of the closing gauge when the gauge is used. -/
def Receipt.closingFlags (r : Receipt) (g : Gauge) : GaugeFlags :=
  if g.net.isSome then
    { substituted := r.substituted || g.substituted, overGauge := r.overGauge || g.overGauge,
      clamped := r.clamped || g.clamped }
  else { substituted := r.substituted, overGauge := r.overGauge, clamped := r.clamped }

/-- R72: an open receipt cancelled, book stock unchanged. The notice carries the opening flags, and docket-used clear:
DESIGN CHOICE (log 40). -/
def State.cancelReceipt (s : State) (t : TankId) : State :=
  match (s.tank t).receipt with
  | none => s
  | some r =>
    (s.modTank t fun k => { k with receipt := none }).postOffice
      (.receiptResult t .cancelled r.docket 0 0 false
        { substituted := r.substituted, overGauge := r.overGauge, clamped := r.clamped })

/-- R75: the book after an adjustment. -/
def adjusted (book : Option Int) (amount : Int) : Int :=
  match book with
  | some b => satBook (b + amount)
  | none => max 0 amount

/-! ### Reconciliation (R73, R74) -/

/-- R73: what reconciliation finds of one tank. -/
def State.finding (s : State) (t : TankId) : TankFinding :=
  let k := s.tank t
  let c := s.tankConfig t
  let mk (o : ReconcileOutcome) (cause : Option SkipCause) (book : Option Int) (v : Int) : TankFinding :=
    { tank := t, outcome := o, cause := cause, book := book, gauged := k.gauge.net, variance := v,
      flags := k.gauge.flags }
  if !c.enabled then mk .notEnabled none k.book 0
  else if k.receipt.isSome then mk .skipped (some .receipt) k.book 0
  else
    match k.gauge.net, k.book with
    | none, _ => mk .skipped (some .gauge) k.book 0
    | some g, none => mk .setFromGauge none (some (g : Int)) 0
    | some g, some b =>
      if c.tolerance < ((g : Int) - b).natAbs then mk .variance none k.book ((g : Int) - b)
      else mk .within none k.book 0

/-- R73: one tank reconciled. -/
def State.reconcileTank (o : Occasion) (s : State) (t : TankId) : State :=
  let f := s.finding t
  match f.outcome with
  | .notEnabled => s
  | .within => s
  | .skipped => s.postOffice (.stockVariance f o)
  | .variance => s.postOffice (.stockVariance f o)
  | .setFromGauge =>
    ((s.modTank t fun k => { k with book := f.book }).postOffice (.stockVariance f o)).evaluateTank t

/-- R73: the four tanks in order. -/
def State.reconcileAll (s : State) (o : Occasion) : State := allTanks.foldl (State.reconcileTank o) s

end Sys2Proof.Machine
end

