-- ==== Sys2Proof/Machine/Finish.lean ====
section
/-! DEFINITION. Machine/Finish.lean: the finishing event (R53, R54, R103, R104) and the journal's append (R159, R164). -/

namespace Sys2Proof.Machine

/-- R43, R160: the delivery's product, or with no leg the product of its tank as it stands. -/
def State.deliveryProduct (s : State) (d : Delivery) : ProductId := d.product.getD (s.tankConfig d.tank).product

/-- R53: the legs with their final figures. -/
def State.settledLegs (s : State) (d : Delivery) : List Leg :=
  d.legs.map (fun l => l.settle (s.productConfig (s.deliveryProduct d)))

/-- R53, R44: the total net handed on, as a 32-bit figure. -/
def State.finalNet (s : State) (d : Delivery) : Nat := sat32 (totalNet (s.settledLegs d))

/-- R160: a leg of an entry. -/
def entryLeg (p : ProductConfig) (l : Leg) : EntryLeg :=
  { meter := l.meter, gross := sat32 l.gross, net := sat32 l.net, avgTemp := l.temp p,
    substituted := l.substituted, clamped := l.clamped }

/-- R104, R160: the entry of a delivery as it stands at finishing. -/
def State.entryFor (s : State) (d : Delivery) (o : DeliveryOutcome) : JournalEntry :=
  let p := s.productConfig (s.deliveryProduct d)
  let legs := s.settledLegs d
  { seq := s.journal.nextSeq, ticket := d.ticket, fleet := d.fleet, product := s.deliveryProduct d, tank := d.tank,
    originPort := d.originPort, outcome := o, refusal := if o = .refused then d.refusal else none,
    legs := legs.map (entryLeg p), totalGross := sat32 (totalGross legs), totalNet := s.finalNet d,
    avgTemp := deliveryTemp p legs, requested := d.requested, limit := d.limit, factor := d.factor,
    grantExtra := d.grantExtra, overrun := s.finalNet d - d.limit, unverified := !d.verifyAsked,
    substituted := anySubstituted legs, clamped := anyClamped legs, restricted := d.restrictedAtAuth,
    crossedShift := !decide (s.clock.shift = d.startShift), finishShift := s.clock.shift,
    startTime := d.startTime, finishTime := s.clock.siteTime }

/-- R157: the sequence number of the head entry. -/
def Journal.head (j : Journal) : Option Word32 := j.entries.head?.map (fun e => e.seq)

/-- R157: a journal with every place filled or held. -/
def Journal.full (j : Journal) : Bool := decide (256 ≤ j.entries.length + j.reservations)

/-- R164: JOURNAL_LEVEL with the figures as they stand. -/
def State.postLevel (s : State) (k : LevelKind) : State :=
  s.postOffice (.journalLevel k s.journal.entries.length s.journal.reservations s.journal.head)

/-- R159, R164: an entry takes its reservation's place at the tail. -/
def State.append (s : State) (e : JournalEntry) : State :=
  let j := s.journal
  let j' : Journal :=
    { entries := j.entries ++ [e], reservations := j.reservations - 1, nextSeq := j.nextSeq + 1 }
  let s1 : State := { s with journal := j' }
  if j'.entries.length = s.config.service.journalThreshold then s1.postLevel .threshold else s1

/-- R103: the charge to a record: used and lifetime fuel raised, the open ticket removed. -/
def charged (net : Nat) (r : MachineRecord) : MachineRecord :=
  { r with used := sat32 (r.used + net), lifetimeFuel := sat32 (r.lifetimeFuel + net), openTicket := none }

/-- R141: the FUEL lines evaluated against the new lifetime fuel, the notices measured against an older record. -/
def State.evaluateFuel (s : State) (l : LineId) (old : Option MachineRecord) : State :=
  let s1 := s.changeRecord l (monitored (ofBasis .fuel))
  match old, s1.recordAt l with
  | some o, some r => s1.postOffices (serviceNotes o.lines o.restricted r .fuel)
  | _, _ => s1

/-- R103: the hand-ons of a finishing delivery, in the order of that rule's table, up to its notice. -/
def State.handOn (s : State) (d : Delivery) (o : DeliveryOutcome) : State :=
  let net := s.finalNet d
  let s1 := s.append (s.entryFor d o)
  match d.line with
  | none => s1
  | some l =>
    let old := s1.recordAt l
    (((s1.changeRecord l (charged net)).chargeTank d.tank net).evaluateFuel l old).setPin l false

/-- R105: DELIVERY_DONE. -/
def State.doneNote (s : State) (d : Delivery) (o : DeliveryOutcome) : NoticeBody :=
  .deliveryDone d.ticket s.journal.nextSeq (s.finalNet d) o (if o = .refused then d.refusal else none)

/-- R103: the delivery in a nozzle context finishes: the context becomes FREE and its meter is released. -/
def State.finishNozzle (s : State) (n : NozzleId) (o : DeliveryOutcome) : State :=
  let d := s.delivery n
  let s1 := (s.modCtx n fun _ => freeContext).releaseMeter n
  (s1.handOn d o).postOwner n (s.doneNote d o)

/-- R103, R131, R136: the delivery in a park slot finishes there: the slot becomes EMPTY. -/
def State.finishParked (s : State) (k : ParkId) (p : Parked) (o : DeliveryOutcome) : State :=
  let s1 := (s.setSlot k .empty).handOn p.delivery o
  let s2 := if o = .expired then
      s1.postTo p.parkingPort
        (.parkExpired p.delivery.ticket p.delivery.fleet p.reason (s.finalNet p.delivery))
    else s1
  s2.postTo p.parkingPort (s.doneNote p.delivery o)

/-- R89, R90: a delivery refused: the reason is set and it finishes REFUSED. -/
def State.finishRefused (s : State) (n : NozzleId) (r : Reason) : State :=
  (s.modDelivery n fun d => { d with refusal := some r }).finishNozzle n .refused

end Sys2Proof.Machine
end

