-- ==== Sys2Proof/Machine/Auth.lean ====
section
/-! DEFINITION. Machine/Auth.lean: authorisation (chapter 6): the terms of an AUTH step, its decision, the grant wait. -/

namespace Sys2Proof.Machine

/-! ### The terms (R109 to R114) -/

/-- R109: the effective allowance; none is the RESERVE_ONLY refusal. -/
def effective (a : AuthSettings) (c : ClassConfig) (t : Tier) (allowance : Nat) : Option Nat :=
  match t with
  | .normal => some allowance
  | .tier1 => some (allowance * a.tier1 / 100)
  | .tier2 => some (allowance * a.tier2 / 100)
  | .reserve => if c.essential then some allowance else none

/-- R110: the cap and the name of the term built on it. -/
def capOf (c : ClassConfig) (restricted : Bool) (e : Nat) : Nat × Factor :=
  if restricted then (min e c.ration, if c.ration < e then .restriction else .allowance) else (e, .allowance)

/-- R111: the request term, clamped to the two rooms. -/
def requestTerm (req : Requested) (capacity net : Nat) : Nat :=
  let asked := match req with
    | .amount x => x
    | .fill => capacity
  min asked (min (capacity - net) (maxDelivery - net))

/-- R112: the allowance term, used this shift read after the lazy reset. -/
def allowanceTerm (cap used net : Nat) : Nat := cap - used - net

/-- R113: whether a park slot's delivery counts on a tank, and with what limit. -/
def parkedLimit (t : TankId) : ParkSlot → Nat
  | .empty => 0
  | .reserved _ => 0
  | .holding p => if p.delivery.tank = t then p.delivery.limit else 0

/-- R113: the authorised limits of every other open delivery on a tank: past IDENT at a nozzle, or parked. -/
def State.otherLimits (s : State) (n : NozzleId) (t : TankId) : Nat :=
  ((allNozzles.map (fun m =>
      if m ≠ n ∧ (s.ctx m).state.pastIdent ∧ (s.delivery m).tank = t then (s.delivery m).limit else 0)).sum)
    + (allSlots.map (fun k => parkedLimit t (s.slot k))).sum

/-- R113: the stock term of the delivery at a nozzle, on the tank its context records. -/
def State.stockTerm (s : State) (n : NozzleId) : Nat :=
  let d := s.delivery n
  let c := s.tankConfig d.tank
  if c.enabled then
    ((s.tank d.tank).usable - (c.floor : Int) - (s.otherLimits n d.tank : Int) - (d.running : Int)).toNat
  else 0

/-- R114: the limiting factor of an issue. -/
def factorOf (g a b : Nat) (bName : Factor) : Factor :=
  if g = a then .request else if g = b then bName else .stock

/-! ### The decision (R115) -/

/-- What an AUTH step comes to. -/
inductive AuthOutcome where
  | authorised
  | deferred
  | refused (r : Reason) (first : Bool)
  deriving DecidableEq, Repr, Inhabited

/-- R115: the reason of a refusal that is not a deferral. -/
def refusalOf (g : Nat) (f : Factor) : Reason :=
  if g = 0 then (match f with
    | .stock => .noStock
    | .allowance => .noAllowance
    | .restriction => .noAllowance
    | .request => .noAllowance)
  else .belowMinimum

/-- R116: an AUTH is authorised with an issue. -/
def State.authorise (s : State) (n : NozzleId) (g a : Nat) (f : Factor) (restricted first : Bool) : State :=
  let net := (s.delivery n).running
  let limit := if a = 0 ∧ first = false then min (s.delivery n).limit net else net + g
  let s1 := s.modDelivery n fun d =>
    { d with limit := limit, factor := some f, restrictedAtAuth := restricted, wait := none }
  s1.postOwner n (.deliveryStage (.authorised (s.delivery n).ticket limit (some f)))

/-- R90: an AUTH refused: the first finishes the delivery REFUSED, a later one puts the context in HELD. -/
def State.refuseAuth (s : State) (n : NozzleId) (r : Reason) (first : Bool) : State :=
  let s1 := s.modDelivery n fun d => { d with wait := none }
  if first then s1.finishRefused n r
  else
    (s1.postOwner n (.deliveryStage (.authRefused (s.delivery n).ticket r (s.delivery n).limit))).enterHeld n
      .authRefused

/-- The pinned record of the delivery at a nozzle (R10). -/
def State.pinnedRecord (s : State) (n : NozzleId) : Option MachineRecord :=
  match (s.delivery n).line with
  | none => none
  | some l => s.recordAt l

/-- R117, R122: what GRANT_WANTED carries at an entry to AWAIT_GRANT. -/
def State.grantWanted (s : State) (n : NozzleId) (w : WaitTerms) : GrantWanted :=
  let d := s.delivery n
  let cls : ClassId := ((s.pinnedRecord n).map (fun r => r.cls)).getD 0
  { ticket := d.ticket, fleet := d.fleet, cls := cls, name := (s.classConfig cls).name, nozzle := n, tank := d.tank,
    tier := (s.tank d.tank).tier, restricted := w.restricted, first := w.first, netSoFar := d.running, a := w.a,
    b := w.b, shortfall := min w.a (s.stockTerm n) - w.b, timer := s.config.authorisation.grantTimer }

/-- R117: entry to AWAIT_GRANT. -/
def State.awaitGrant (s : State) (n : NozzleId) (w : WaitTerms) : State :=
  let note := s.grantWanted n w
  let s1 := s.modCtx n fun c =>
    { c with state := .awaitGrant, grant := some s.config.authorisation.grantTimer,
             delivery := c.delivery.map (fun d => { d with wait := some w }) }
  let s2 : State := { s1 with expired := s1.expired.filter (fun t => !decide (t = (s.delivery n).ticket)) }
  s2.postRole .fleet (.grantWanted note)

/-- R90: the first AUTH of a delivery is the one executed with the limit 0 and no limiting factor. -/
def Delivery.firstAuth (d : Delivery) : Bool := decide (d.limit = 0) && d.factor.isNone

/-- R90, R109 to R117: an AUTH step is executed against the pinned record. -/
def State.authStep (s : State) (n : NozzleId) (req : Requested) : State × AuthOutcome :=
  let first := (s.delivery n).firstAuth
  let s0 := if first then s.modDelivery n (fun d => { d with requested := some req }) else s
  match s0.pinnedRecord n with
  | none => (s0, .refused .notEnrolled first)
  | some r =>
    let d := s0.delivery n
    let cls := s0.classConfig r.cls
    let auth := s0.config.authorisation
    match effective auth cls (s0.tank d.tank).tier r.allowance with
    | none => (s0, .refused .reserveOnly first)
    | some e =>
      let cap := capOf cls r.restricted e
      let net := d.running
      let a := requestTerm req r.capacity net
      let b := allowanceTerm cap.1 (usedNow s0.clock.shift r) net
      let c := s0.stockTerm n
      let g := min a (min b c)
      let f := factorOf g a b cap.2
      if b < min a c ∧ cls.grantEligible ∧ auth.grantsEnabled then
        (s0.awaitGrant n { a := a, b := b, name := cap.2, restricted := r.restricted, first := first }, .deferred)
      else if auth.minIssue ≤ g ∨ g = a then (s0.authorise n g a f r.restricted first, .authorised)
      else (s0, .refused (refusalOf g f) first)

/-! ### The end of a wait (R118 to R122) -/

/-- R119: a ticket joins the expired-wait list; the oldest of 16 is dropped to make room. -/
def joinExpired (t : Nat) (l : List Nat) : List Nat :=
  let l' := l.filter (fun x => !decide (x = t))
  (if l'.length < 16 then l' else l'.drop 1) ++ [t]

/-- R122: GRANT_CLOSED to every FLEET port, with the grant extra so far. -/
def State.postClosed (s : State) (n : NozzleId) (o : GrantOutcome) (limit : Option Nat) (r : Option Reason) : State :=
  s.postRole .fleet (.grantClosed (s.delivery n).ticket o limit r (s.delivery n).grantExtra)

/-- R121: a wait cancelled by ABORT or PARK: its timer is stopped and GRANT_CLOSED posted. -/
def State.cancelWait (s : State) (n : NozzleId) (o : GrantOutcome) : State :=
  (s.modCtx n fun c => { c with grant := none }).postClosed n o none none

/-- The nozzle whose context waits for a grant of a ticket. -/
def State.waitingFor (s : State) (t : Nat) : Option NozzleId :=
  allNozzles.find? (fun n => decide ((s.ctx n).state = .awaitGrant) && decide ((s.delivery n).ticket = t))

end Sys2Proof.Machine
end

