-- ==== Sys2Proof/Machine/Sequence.lean ====
section
/-! DEFINITION. Machine/Sequence.lean: executing a step list (R84), identification (R87 to R89), what follows the end of
a RUN (R97), the pulse (R27), and moving a delivery between a nozzle and a park slot (R129, R133, R134). -/

namespace Sys2Proof.Machine

/-! ### Identification (R87 to R89) -/

/-- The IDENT step under way: its tag code and verify flag. -/
def Context.identStep (c : Context) : Word32 × Bool :=
  match c.steps[c.pointer]? with
  | some (.ident _ t v) => (t, v)
  | _ => (0, false)

/-- R88: the first test that fails, if any. -/
def State.identReason (s : State) (n : NozzleId) (r : MachineRecord) : Option Reason :=
  let st := (s.ctx n).identStep
  if r.openTicket.isSome then some .machineBusy
  else if r.stoodDown then some .stoodDown
  else if r.product ≠ (s.tankConfig (s.nozzleConfig n).tank).product then some .productMismatch
  else if st.2 ∧ (r.tag = 0 ∨ r.tag ≠ st.1) then some .identMismatch
  else none

/-- R88: an IDENT that passes: the line is pinned and recorded, the open ticket set, the first leg created, its meter
bound, IDENTIFIED posted. -/
def State.identified (s : State) (n : NozzleId) (l : LineId) : State :=
  let tk := (s.delivery n).ticket
  let s1 := (s.setPin l true).changeRecord l (fun r => { r with openTicket := some tk })
  let s2 := s1.modDelivery n fun d =>
    { d with line := some l, verified := (s.ctx n).identStep.2,
             product := some (s.tankConfig (s.nozzleConfig n).tank).product, legs := [newLeg n] }
  (s2.bindMeter n).postOwner n (.deliveryStage (.identified tk (s.delivery n).fleet n))

/-- R88, R89: a record given to an IDENT step is tested; whether the step succeeded. -/
def State.identTest (s : State) (n : NozzleId) (l : LineId) : State × Bool :=
  match s.recordAt l with
  | none => (s.finishRefused n .notEnrolled, false)
  | some r =>
    match s.identReason n r with
    | some why => (s.finishRefused n why, false)
    | none => (s.identified n l, true)

/-! ### The list (R84) -/

/-- R84: the steps from the pointer executed as far as they go in this event. A list that has run out is met only after
the wait of a resumed delivery, whose list was lost with its nozzle; the context is then held (log 12). -/
def State.runFrom (s : State) (n : NozzleId) (k : Nat) : List Step → State
  | [] => s.enterHeld n .resumed
  | x :: xs =>
    let s0 := s.modCtx n fun c => { c with pointer := k }
    match x with
    | .ident f _ v =>
      let s1 := s0.modDelivery n fun d => { d with fleet := f, verifyAsked := v }
      let a := s1.requestRecord f (.ident n)
      match a.2 with
      | .given l =>
        let t := a.1.identTest n l
        if t.2 then State.runFrom t.1 n (k + 1) xs else t.1
      | .waits => a.1.modCtx n fun c => { c with state := .fetching }
      | .refused w => a.1.finishRefused n w.reason
    | .auth req =>
      let a := s0.authStep n req
      match a.2 with
      | .authorised => State.runFrom a.1 n (k + 1) xs
      | .deferred => a.1
      | .refused r first => a.1.refuseAuth n r first
    | .run _ => s0.beginRun n
    | .hold => s0.enterHeld n .hold
    | .finish => s0.finishNozzle n .complete

/-- R84: the step at the pointer has completed; the next ones are executed. -/
def State.runRest (s : State) (n : NozzleId) : State :=
  let c := s.ctx n
  s.runFrom n (c.pointer + 1) (c.steps.drop (c.pointer + 1))

/-- R84: the loaded list executed from step 1. -/
def State.runAll (s : State) (n : NozzleId) : State := s.runFrom n 0 (s.ctx n).steps

/-- R87: the record a waiting IDENT step asked for is given to it. -/
def State.identGiven (s : State) (n : NozzleId) (l : LineId) : State :=
  let t := s.identTest n l
  if t.2 then t.1.runRest n else t.1

/-- R97: a RUN that has ended goes on according to its reason. -/
def State.goOn (s : State) (n : NozzleId) (r : RunEnd) : State :=
  match r with
  | .target => s.runRest n
  | .limit => s.runRest n
  | .stopped => s.runRest n
  | .stalled => (s.addFault n .stall).runRest n
  | .tankLow => s.heldByFault n .tankLow .tankLow
  | .meterFault => s.heldByFault n .meterFault .meterFault
  | .aborted => s.finishNozzle n .aborted

/-! ### Pulses (R27, R41, R50) -/

/-- The last leg of a list replaced by a function of it. -/
def onLast (f : Leg → Leg) : List Leg → List Leg
  | [] => []
  | [x] => [f x]
  | x :: y :: rest => x :: onLast f (y :: rest)

/-- R41: the temperature in use at a nozzle, and whether it is substituted. -/
def State.tempInUse (s : State) (n : NozzleId) : Int × Bool :=
  let ch : ChannelId := ⟨(s.nozzleConfig n).channel.val, by omega⟩
  match (s.channel ch).usable with
  | some v => (v, false)
  | none => ((s.productConfig (s.tankConfig (s.nozzleConfig n).tank).product).defaultTemp, true)

/-- R41, R45, R46, R50: the delivery's legs after a counted pulse, and whether it weighed a substituted temperature. The
clamped flag of a leg that is no longer current follows its CTL as recomputed (R48; R51 has such a leg keep its flags),
after a change of alpha, and for a leg of zero gross, never pulsed or not, whenever the product's default temperature
clamps it or no longer does: DESIGN CHOICE (log 39). -/
def State.pulsedLegs (s : State) (n : NozzleId) (pulses : Nat) : List Leg × Bool :=
  let d := s.delivery n
  let p := s.productConfig (s.deliveryProduct d)
  let t := s.tempInUse n
  let km := (s.nozzleConfig n).km
  let raises := match d.legs.getLast? with
    | some l => decide (l.gross < grossOf pulses km)
    | none => false
  let sub := t.2 && raises
  let counted := onLast (fun l =>
    let l' := l.count km pulses t.1
    if sub then { l' with substituted := true } else l') d.legs
  (counted.map (Leg.settle p), sub)

/-- R27, R41, R50: a counted pulse reaches the current leg. -/
def State.legPulse (s : State) (n : NozzleId) : State :=
  let m := s.meter n
  let d := s.delivery n
  let flagged := match d.legs.getLast? with
    | some l => l.substituted
    | none => true
  let x := s.pulsedLegs n (m.count + 1)
  let s1 := s.modMeter n fun k => { k with count := k.count + 1 }
  let s2 := s1.modDelivery n fun e =>
    { e with legs := x.1, faults := if x.2 then e.faults.add .probeSubstitute else e.faults }
  if x.2 && !flagged then
    s2.postOwner n (.deliveryStage (.probeSubstitute d.ticket d.legs.length (s.tempInUse n).1))
  else s2

/-- R30: a counted pulse in PROVING adds one to the creep count; past 255 the figure is free (log 11). -/
def State.creepPulse (s : State) (n : NozzleId) : State :=
  if (s.meter n).creep < 255 then s.modMeter n fun m => { m with creep := m.creep + 1 }
  else
    let s1 := s.modMeter n fun m => { m with creep := (Config.creepPastTop s.freeIndex).toNat }
    { s1 with freeIndex := s.freeIndex + 1 }

/-- R27, R92, R94, R96: a pulse in one of the four states in which it is counted. -/
def State.countedPulse (s : State) (n : NozzleId) : State :=
  if (s.meter n).count = maxWord then
    let s1 := s.faultMeter n .countLimit
    if (s1.ctx n).state = .draining then s1.modCtx n fun c => { c with endReason := some .meterFault }
    else s1.stopFlow n .meterFault
  else
    let s1 := s.legPulse n
    match (s1.ctx n).state with
    | .proving => s1.creepPulse n
    | .draining => s1.modCtx n fun c => { c with drain := some s.config.delivery.drainSettle }
    | .flowFull => (s1.modCtx n fun c => { c with stall := some s.config.delivery.stall }).stageTest n
    | .flowSlow => (s1.modCtx n fun c => { c with stall := some s.config.delivery.stall }).stageTest n
    | .free => s1
    | .loaded => s1
    | .fetching => s1
    | .awaitGrant => s1
    | .priming => s1
    | .held => s1

/-- R27: whether a pulse on an IN_USE meter is counted. -/
def NozzleState.counts : NozzleState → Bool
  | .proving => true
  | .flowFull => true
  | .flowSlow => true
  | .draining => true
  | .free => false
  | .loaded => false
  | .fetching => false
  | .awaitGrant => false
  | .priming => false
  | .held => false

/-- R27: a pulse on meter n. -/
def State.pulse (s : State) (n : NozzleId) : State :=
  match (s.meter n).state with
  | .faulted => s
  | .idle => s.strayPulse n
  | .inUse => if (s.ctx n).state.counts then s.countedPulse n else s.strayPulse n

/-! ### The park table (R125 to R129) -/

/-- R125: the lowest-numbered EMPTY slot. -/
def State.freePark (s : State) : Option ParkId := allSlots.find? (fun k => decide (s.slot k = .empty))

/-- R128: the slot reserved for a nozzle. -/
def State.reservedFor (s : State) (n : NozzleId) : Option ParkId :=
  allSlots.find? (fun k => decide (s.slot k = .reserved n))

/-- R96: a slot reserved for a nozzle is freed again. -/
def State.unreserve (s : State) (n : NozzleId) : State :=
  match s.reservedFor n with
  | some k => s.setSlot k .empty
  | none => s

/-- R129: the move of a delivery from its nozzle into a slot. -/
def State.moveToPark (s : State) (n : NozzleId) (k : ParkId) (why : ParkReason) : State :=
  let d := s.delivery n
  let p : Parked :=
    { delivery := d, parkingPort := s.owner n, nozzleLeft := n, reason := why, time := s.clock.siteTime,
      timer := s.config.delivery.park }
  (((s.setSlot k (.holding p)).modCtx n fun _ => freeContext).releaseMeter n).postTo (s.owner n)
    (.deliveryStage (.parked d.ticket k why d.running d.limit d.legs.length s.config.delivery.park))

/-- R97, R128: what a recorded RUN end reason adds to the pending faults before a move. -/
def State.addEndFault (s : State) (n : NozzleId) : State :=
  match (s.ctx n).endReason with
  | some .stalled => s.addFault n .stall
  | some .tankLow => s.addFault n .tankLow
  | some .meterFault => s.addFault n .meterFault
  | some .target => s
  | some .limit => s
  | some .stopped => s
  | some .aborted => s
  | none => s

/-- R96: the drain has settled. -/
def State.drainSettled (s : State) (n : NozzleId) : State :=
  let s0 := s.modCtx n fun c => { c with drain := none }
  match (s.ctx n).move with
  | .abort => s0.finishNozzle n .aborted
  | .park =>
    match s0.reservedFor n with
    | some k => (s0.addEndFault n).moveToPark n k .preempt
    | none => s0
  | .none => (s0.modCtx n fun c => { c with endReason := none }).goOn n ((s.ctx n).endReason.getD .stopped)

/-! ### Resumption (R132 to R134) -/

/-- The slot that holds a ticket. -/
def State.parkedTicket (s : State) (t : Nat) : Option (ParkId × Parked) :=
  allSlots.findSome? (fun k => match s.slot k with
    | .holding p => if p.delivery.ticket = t then some (k, p) else none
    | .reserved _ => none
    | .empty => none)

/-- R133: the delivery as the nozzle takes it up: its tank set and a leg added. -/
def takenUp (t : TankId) (n : NozzleId) (d : Delivery) : Delivery :=
  { d with tank := t, legs := d.legs ++ [newLeg n] }

/-- R133: the re-cap for a new tank. -/
def State.recap (s : State) (n : NozzleId) (oldTank : TankId) : State :=
  let d := s.delivery n
  if d.tank = oldTank then s
  else
    let top := d.running + s.stockTerm n
    if top < d.limit then s.modDelivery n fun x => { x with limit := top, factor := some .stock } else s

/-- R133: the move of a parked delivery to a nozzle. -/
def State.takeUp (s : State) (k : ParkId) (p : Parked) (n : NozzleId) : State :=
  let d := takenUp (s.nozzleConfig n).tank n p.delivery
  let s1 := (s.setSlot k .empty).modCtx n fun _ => { freeContext with state := .held, delivery := some d }
  (s1.bindMeter n).recap n p.delivery.tank

/-- R134: the replay of the pending faults, and RESUMED. -/
def State.replay (s : State) (n : NozzleId) (left : NozzleId) : State :=
  let d := s.delivery n
  let s1 := d.faults.members.foldl (fun x f => x.postOwner n (.faultReplay d.ticket f left)) s
  let s2 := s1.modDelivery n fun x => { x with faults := x.faults.afterReplay }
  s2.postOwner n (.deliveryStage (.resumed d.ticket n d.tank d.limit d.legs.length))

/-- R134: the state a resumed delivery enters. -/
def State.resumeState (s : State) (n : NozzleId) (waits : Bool) : State :=
  match waits, (s.delivery n).wait with
  | true, some w => s.awaitGrant n w
  | true, none => s.enterHeld n .resumed
  | false, _ => s.enterHeld n .resumed

/-- R133, R134: a RESUME that has passed its tests. -/
def State.resumeAt (s : State) (k : ParkId) (p : Parked) (n : NozzleId) : State :=
  ((s.takeUp k p n).replay n p.nozzleLeft).resumeState n p.delivery.faults.grantWait

end Sys2Proof.Machine
end

