-- ==== Sys2Proof/Machine/Records.lean ====
section
/-! DEFINITION. Machine/Records.lean: what a requester does with the record it is given or refused (chapter 1, chapter 8),
the line wait list (R9), and how each store operation ends (R13 to R15). -/

namespace Sys2Proof.Machine

/-- The request in hand at a port (R166). -/
def State.requestInHand (s : State) (p : Port) : Option WaitingRequest :=
  match (s.port p).inHand with
  | some h => some h.request
  | none => none

/-! ### Refusing a requester (R8) -/

/-- R8, R87: a port's request is answered the status; an IDENT step fails with the reason. -/
def State.refuse (w : RecordRefusal) (s : State) (who : Requester) : State :=
  match who with
  | .port p => s.answer p w.status .nothing
  | .ident n => s.finishRefused n w.reason

/-! ### Requests that have their record -/

/-- R22. -/
def State.serveRead (s : State) (p : Port) (slot : SlotId) (r : MachineRecord) : State :=
  s.answer p .ok (.machine slot (lazyReset s.clock.shift r))

/-- R19: the fields present replaced. -/
def patchRecord (q : MachinePatch) (r : MachineRecord) : MachineRecord :=
  { r with cls := (q.cls.bind (fromZero 8)).getD r.cls, product := (q.product.bind (fromOne 4)).getD r.product,
           capacity := q.capacity.getD r.capacity, tag := q.tag.getD r.tag,
           allowance := q.allowance.getD r.allowance }

/-- R19: MACHINE_SET with its record in hand. A product that is named and is the record's own does not change it:
DEDUCED (log 16). -/
def State.serveSet (s : State) (p : Port) (l : LineId) (r : MachineRecord) (q : MachinePatch) : State :=
  if (patchRecord q r).product ≠ r.product ∧ r.openTicket.isSome then s.answer p .machineBusy .nothing
  else (s.changeRecord l (patchRecord q)).answer p .ok .nothing

/-- R20: STAND_DOWN and RETURN with their record in hand. -/
def State.serveState (s : State) (p : Port) (l : LineId) (r : MachineRecord) (down : Bool) : State :=
  if r.stoodDown = down then s.answer p .ok .nothing
  else (s.changeRecord l (fun x => { x with stoodDown := down })).answer p .ok .nothing

/-- R147: the HOUR_ANOMALY of a clamp. -/
def State.postJump (s : State) (p : Port) (r : MachineRecord) (posted stored : Nat) (c : Option (Nat × Nat)) :
    State :=
  match c with
  | none => s
  | some x => s.postOffice (.hourAnomaly r.fleet .jump posted r.reading stored (some x.1) (some x.2) p)

/-- R143 to R147: HOURS with its record in hand. -/
def State.serveHours (s : State) (p : Port) (l : LineId) (r : MachineRecord) (posted : Nat) : State :=
  match hoursVerdict s.config.time.epoch s.clock.siteTime s.config.service.hourTolerance r posted with
  | .overflow => s.answer p .badReading .nothing
  | .held =>
    (s.postOffice (.hourAnomaly r.fleet .regress posted r.reading r.reading none none p)).answer p .okHeld
      (.hoursHeld posted r.reading)
  | .taken v c =>
    let s1 := (s.postJump p r posted v c).changeRecord l (hoursApplied s.config.time.epoch s.clock.siteTime v)
    match s1.recordAt l with
    | none => s1
    | some r' =>
      (s1.postOffices (serviceNotes r.lines r.restricted r' .hours)).answer p
        (if c.isSome then .okClamped else .ok) (.hoursTaken posted v (lifetime r' .hours) r'.restricted)

/-- Section 8.3: a workshop change with its record in hand: refused, or applied, monitored, written back, answered. The
answer to a removal carries the reading of the removed line's basis, that to METER_CHANGE the hours: DESIGN CHOICE
(log 35). -/
def State.serveService (s : State) (p : Port) (l : LineId) (r : MachineRecord) (line : Nat) (cause : ServiceCause)
    (f : MachineRecord → Status ⊕ MachineRecord) : State :=
  match f r with
  | .inl st => s.answer p st .nothing
  | .inr _ =>
    let s1 := s.changeRecord l (fun x => match f x with
      | .inl _ => x
      | .inr y => y)
    match s1.recordAt l with
    | none => s1
    | some r' =>
      let dflt : Basis := match findLine r.lines line with
        | some x => x.basis
        | none => .hours
      (s1.postOffices (serviceNotes r.lines r.restricted r' cause)).answer p .ok (servicePayload line dflt r')

/-! ### REBUILD and ENROL (R17, R21, R153) -/

/-- R21: the record of a REBUILD, its lines not yet evaluated. -/
def rebuiltRecord (shift : Word32) (f : RebuildFields) : MachineRecord :=
  { fleet := f.fleet, cls := (fromZero 8 f.cls).getD 0, stoodDown := (flagOf f.state).getD false,
    product := (fromOne 4 f.product).getD 0, capacity := f.capacity, tag := f.tag, allowance := f.allowance,
    used := f.used, usageShift := shift, lifetimeFuel := f.lifetimeFuel, reading := f.reading, offset := f.offset,
    stamp := none, lines := (rebuildLines f.lines).getD [], restricted := false, openTicket := none }

/-- R21, R153: a line filled from a REBUILD, the new record monitored, the request answered. -/
def State.rebuildInto (s : State) (p : Port) (l : LineId) (slot : SlotId) (f : RebuildFields)
    (old : Option MachineRecord) : State :=
  let r := monitored (fun _ => true) (rebuiltRecord s.clock.shift f)
  let lines := (old.map (fun o => o.lines)).getD []
  let flag := (old.map (fun o => o.restricted)).getD false
  (((s.markEntry f.fleet false).putRecord l slot r).postOffices (serviceNotes lines flag r .rebuild)).answer p .ok
    .nothing

/-- R21: REBUILD tested, in that rule's order, and carried out or made to wait. -/
def State.tryRebuild (s : State) (p : Port) (f : RebuildFields) : State :=
  match s.enrolled f.fleet with
  | none => s.answer p .noSuchMachine .nothing
  | some e =>
    if !rebuildOk f then s.answer p .badField .nothing
    else if s.table.faulted then s.answer p .storeFault .nothing
    else
      match s.lineFor f.fleet with
      | some l =>
        match (s.line l).content with
        | .held _ _ r =>
          if r.openTicket.isSome then s.answer p .machineBusy .nothing
          else s.rebuildInto p l e.slot f (some r)
        | .fetching _ _ => s.modLine l fun x => { x with waiters := x.waiters ++ [.port p] }
        | .empty => s
      | none =>
        match s.freeLine with
        | some l => (s.emptyOut l).rebuildInto p l e.slot f none
        | none => s.waitForLine f.fleet (.port p)

/-- R17: the record of a new machine. -/
def enrolledRecord (s : State) (f : EnrolFields) : MachineRecord :=
  let c : ClassId := (fromZero 8 f.cls).getD 0
  { fleet := f.fleet, cls := c, stoodDown := false, product := (fromOne 4 f.product).getD 0, capacity := f.capacity,
    tag := f.tag, allowance := f.allowance.getD (s.classConfig c).defaultAllowance, used := 0,
    usageShift := s.clock.shift, lifetimeFuel := 0, reading := f.reading, offset := 0, stamp := none, lines := [],
    restricted := false, openTicket := none }

/-- R17: a line filled with a new machine, its slot taken and its entry inserted. -/
def State.enrolInto (s : State) (p : Port) (l : LineId) (slot : SlotId) (f : EnrolFields) : State :=
  let r := enrolledRecord s f
  let s1 := (s.setSlotState slot .used).modTable fun t =>
    { t with index := insertEntry { fleet := f.fleet, slot := slot, damaged := false } t.index }
  (((s1.emptyOut l).putRecord l slot r)).answer p .ok (.enrolled slot)

/-- R17: ENROL tested against the table as it stands, and carried out or made to wait for a line. -/
def State.tryEnrol (s : State) (p : Port) (f : EnrolFields) : State :=
  if (s.entry f.fleet).isSome then s.answer p .duplicate .nothing
  else if s.table.faulted ∨ s.incomplete then s.answer p .storeFault .nothing
  else
    match s.freeSlot with
    | none => s.answer p .tableFull .nothing
    | some slot =>
      match s.freeLine with
      | some l => s.enrolInto p l slot f
      | none => s.waitForLine f.fleet (.port p)

/-! ### Dealing with requesters -/

/-- A port's request that has been given its record in a line. -/
def State.serve (s : State) (p : Port) (l : LineId) : State :=
  match (s.port p).inHand, (s.line l).content with
  | some h, .held _ slot r =>
    match h.request with
    | .machineRead _ => s.serveRead p slot r
    | .machineSet _ q => s.serveSet p l r q
    | .standDown _ => s.serveState p l r true
    | .returnMachine _ => s.serveState p l r false
    | .hours _ posted => s.serveHours p l r posted
    | .meterChange _ o n => s.serveService p l r 0 .meterChange (meterChanged o n)
    | .serviceDone _ line x => s.serveService p l r line .serviceDone (serviceDone line x)
    | .waiver _ line x => s.serveService p l r line .waiver (waived line x)
    | .setLine _ f =>
      match setLineOf f with
      | some x => s.serveService p l r f.number .setLine (lineSet x)
      | none => s.answer p .badField .nothing
    | .setLineRemove _ line => s.serveService p l r line .setLine (lineRemoved line)
    | .rebuild f => s.tryRebuild p f
    | .enrol f => s.tryEnrol p f
    | .withdraw _ => s
    | .configSet _ => s
  | some _, .fetching _ _ => s
  | some _, .empty => s
  | none, _ => s

/-- R8: a port's request asks for its record, and is served, waits or is refused. -/
def State.askFor (s : State) (p : Port) (f : Nat) : State :=
  let a := s.requestRecord f (.port p)
  match a.2 with
  | .given l => a.1.serve p l
  | .waits => a.1
  | .refused w => a.1.refuse w (.port p)

/-- One requester of a machine dealt with as the table stands (R8, R9, R17, R21). -/
def State.dealWith (f : Nat) (s : State) (who : Requester) : State :=
  match who with
  | .port p =>
    match s.requestInHand p with
    | some (.enrol x) => s.tryEnrol p x
    | some (.rebuild x) => s.tryRebuild p x
    | some _ => s.askFor p f
    | none => s
  | .ident n =>
    let a := s.requestRecord f (.ident n)
    match a.2 with
    | .given l => a.1.identGiven n l
    | .waits => a.1
    | .refused w => a.1.refuse w (.ident n)

/-- R9: a number leaves the line wait list. -/
def State.popWait (s : State) (f : Nat) : State :=
  s.modTable fun t => { t with lineWait := t.lineWait.filter (fun x => !decide (x.1 = f)) }

/-- The requesters a number has on the line wait list. -/
def State.waitersOf (s : State) (f : Nat) : List Requester :=
  match s.table.lineWait.find? (fun x => decide (x.1 = f)) with
  | some x => x.2
  | none => []

/-- R9: a waiting number whose machine has come into a line is removed, and its requesters are given the record. -/
def State.cameIntoLine (s : State) (f : Nat) : State :=
  if (s.cached f).isSome then (s.waitersOf f).foldl (State.dealWith f) (s.popWait f) else s

/-- Whether a requester is a REBUILD. -/
def State.isRebuild (s : State) (who : Requester) : Bool :=
  match who with
  | .ident _ => false
  | .port p =>
    match s.requestInHand p with
    | some (.rebuild _) => true
    | _ => false

/-- R9: the first REBUILD among requesters, if any, before the others. -/
def State.rebuildFirst (s : State) (ws : List Requester) : List Requester :=
  match ws.find? s.isRebuild with
  | none => ws
  | some w => w :: ws.erase w

/-- R9: numbers at the head of the line wait list take lines while numbers remain and lines can be taken. -/
def serviceLines : Nat → State → State
  | 0, s => s
  | k + 1, s =>
    match s.table.lineWait, s.freeLine with
    | (f, ws) :: _, some _ =>
      serviceLines k ((s.rebuildFirst ws).foldl (State.dealWith f) (s.popWait f))
    | (_, _) :: _, none => s
    | [], _ => s

/-- R9: a line has become available. -/
def State.lineFreed (s : State) : State := serviceLines s.table.lineWait.length s

/-! ### WITHDRAW (R18) -/

/-- Whether an operation serves a line. -/
def StoreOp.serves (l : LineId) : StoreOp → Bool
  | .fetch x _ _ => decide (x = l)
  | .write x _ => decide (x = l)
  | .erase _ _ => false
  | .headerRead _ _ => false
  | .configRead _ => false
  | .configWrite => false

/-- R18: the line of a machine discarded: its waiters refused as not enrolled, its queued operations removed, an
operation in flight for it no longer followed up. -/
def State.discardLine (s : State) (l : LineId) : State :=
  let ws := (s.line l).waiters
  let s1 := s.modTable fun t =>
    { t with queue := t.queue.filter (fun op => !op.serves l),
             inFlight := t.inFlight.map (fun x => if x.op.serves l then { x with discarded := true } else x) }
  ws.foldl (State.refuse .notEnrolled) (s1.emptyOut l)

/-- R18: WITHDRAW accepted for an entry. -/
def State.withdraw (s : State) (p : Port) (f : Nat) (slot : SlotId) : State :=
  let s1 := s.setSlotState slot .erasing
  let s2 := match s1.lineFor f with
    | some l => s1.discardLine l
    | none => s1
  let s3 := (s2.waitersOf f).foldl (State.refuse .notEnrolled) (s2.popWait f)
  s3.lineFreed.enqueue (.erase slot (some p))

/-- R18: WITHDRAW, in hand at its port, tested, in the order in which that rule lists its refusals, DESIGN CHOICE (log 50),
and carried out. -/
def State.tryWithdraw (s : State) (p : Port) (f : Nat) : State :=
  match s.enrolled f with
  | none => s.answer p .noSuchMachine .nothing
  | some e =>
    if ((s.cached f).bind (fun r => r.openTicket)).isSome then s.answer p .machineBusy .nothing
    else if s.table.faulted then s.answer p .storeFault .nothing
    else s.withdraw p f e.slot

/-! ### How operations end (R13 to R15) -/

/-- R15: a successful completion sets the count to 0. -/
def State.storeOk (s : State) : State := s.modTable fun t => { t with failures := 0 }

/-- R15: a failure adds one. -/
def State.storeBad (s : State) : State := s.modTable fun t => { t with failures := t.failures + 1 }

/-- The operation in flight has ended. -/
def State.landed (s : State) : State := s.modTable fun t => { t with inFlight := none }

/-- The line a queued FETCH serves. -/
def StoreOp.fetchLine : StoreOp → Option LineId
  | .fetch l _ _ => some l
  | .write _ _ => none
  | .erase _ _ => none
  | .headerRead _ _ => none
  | .configRead _ => none
  | .configWrite => none

/-- R15: the operations that stay queued while FAULTED. -/
def StoreOp.stays : StoreOp → Bool
  | .write _ _ => true
  | .configWrite => true
  | .fetch _ _ _ => false
  | .erase _ _ => false
  | .headerRead _ _ => false
  | .configRead _ => false

/-- R15: an ERASE given up: its slot is USED again and its WITHDRAW answered STORE_FAULT. -/
def State.abandonErase (s : State) (slot : SlotId) (asker : Option Port) : State :=
  let s1 := s.setSlotState slot .used
  match asker with
  | some p => s1.answer p .storeFault .nothing
  | none => s1

/-- R15: an ERASE among the queued operations given up. -/
def State.dropErase (s : State) (op : StoreOp) : State :=
  match op with
  | .erase slot asker => s.abandonErase slot asker
  | .fetch _ _ _ => s
  | .write _ _ => s
  | .headerRead _ _ => s
  | .configRead _ => s
  | .configWrite => s

/-- R183: a CONFIG_SET that waits is answered. -/
def State.answerConfig (st : Status) (onlyCovered : Bool) (s : State) (p : Port) : State :=
  match s.requestInHand p with
  | some (.configSet c) => if c || !onlyCovered then s.answer p st .nothing else s
  | _ => s

/-- R15: the interface enters FAULTED, the operation whose failure was the third having been dealt with. The waiters of the
queued FETCHes are refused in queue order, head first, then those of the line wait list: DESIGN CHOICE (log 42). -/
def State.enterFaulted (s : State) : State :=
  let q := s.table.queue
  let lines := q.filterMap StoreOp.fetchLine
  let ws := lines.flatMap (fun l => (s.line l).waiters) ++ s.table.lineWait.flatMap (fun x => x.2)
  let s1 := s.modTable fun t =>
    { t with faulted := true, queue := t.queue.filter (fun op => op.stays), lineWait := [] }
  let s2 := lines.foldl State.emptyOut s1
  let s3 := ws.foldl (State.refuse .storeFault) s2
  let s4 := q.foldl State.dropErase s3
  let s5 := allPorts.foldl (State.answerConfig .storeFault false) s4
  s5.postAll (.storeState true)

/-- R15: the interface enters FAULTED when the count reaches 3. -/
def State.checkFailures (s : State) : State := if 3 ≤ s.table.failures then s.enterFaulted else s

/-- R13: whether an open delivery of a machine, past IDENT or parked, holds a ticket. -/
def State.ticketHeld (s : State) (t f : Nat) : Bool :=
  allNozzles.any (fun n => (s.ctx n).state.pastIdent && decide ((s.delivery n).ticket = t)
      && decide ((s.delivery n).fleet = f))
    || allSlots.any (fun k => match s.slot k with
      | .holding p => decide (p.delivery.ticket = t ∧ p.delivery.fleet = f)
      | .reserved _ => false
      | .empty => false)

/-- R13: a ticket no open delivery holds is removed from a record just fetched. -/
def State.dropStaleTicket (s : State) (l : LineId) (r : MachineRecord) : State :=
  match r.openTicket with
  | none => s
  | some t => if s.ticketHeld t r.fleet then s else s.changeRecord l (fun x => { x with openTicket := none })

/-- R13: a FETCH that succeeded. -/
def State.fetched (s : State) (l : LineId) (slot : SlotId) (r : MachineRecord) : State :=
  let ws := (s.line l).waiters
  let s1 := s.modLine l fun x => { x with content := .held .clean slot r, waiters := [] }
  let s2 := (s1.dropStaleTicket l r).touch l
  (ws.foldl (State.dealWith r.fleet) s2).lineFreed

/-- R14: a waiter of a FETCH that failed on its retry: a REBUILD takes a line by R9, any other is refused. -/
def State.failWaiter (w : RecordRefusal) (f : Nat) (s : State) (who : Requester) : State :=
  if s.isRebuild who then s.dealWith f who else s.refuse w who

/-- R14, R15: a FETCH that failed; `bad` is a record that failed its check. On its retry the line is EMPTY again: a REBUILD
among the waiters is dealt with, and may take the line, before the head of the line wait list does: DESIGN CHOICE
(log 29). -/
def State.fetchFailed (s : State) (l : LineId) (f : Nat) (slot : SlotId) (retry bad : Bool) : State :=
  let ws := (s.line l).waiters
  let mark := fun (x : State) => if retry && bad then x.markEntry f true else x
  if 3 ≤ s.table.failures then
    (ws.foldl (State.refuse .storeFault) ((mark s).emptyOut l)).enterFaulted
  else if retry then
    (ws.foldl (State.failWaiter (if bad then .damaged else .storeFault) f) ((mark s).emptyOut l)).lineFreed
  else s.modTable fun t => { t with queue := .fetch l slot true :: t.queue }

/-- R13, R14: the record a FETCH read is accepted when it passes its check and is of the machine asked for. -/
def acceptedRecord (f : Nat) (res : FetchResult) : Option MachineRecord :=
  match res with
  | .record r => if r.fleet = f then some r else none
  | .badCheck => none
  | .failed => none

/-- Whether the store itself reported the failure of a FETCH. -/
def FetchFailed (res : FetchResult) : Bool :=
  match res with
  | .failed => true
  | .record _ => false
  | .badCheck => false

/-- R13: the fleet number of the index entry that names a slot, which the record read from it must carry. -/
def State.acceptedFrom (s : State) (slot : SlotId) (res : FetchResult) : Option MachineRecord :=
  match s.table.index.find? (fun e => decide (e.slot = slot)) with
  | some e => acceptedRecord e.fleet res
  | none => none

/-- R13 to R15: the end of the FETCH in flight. The end of one whose line WITHDRAW discarded counts as a success or a
failure as any other does, and nothing else follows (log 18). -/
def State.endFetch (s : State) (x : InFlight) (l : LineId) (slot : SlotId) (retry : Bool) (res : FetchResult) :
    State :=
  let s0 := s.landed
  if x.discarded then
    if (s.acceptedFrom slot res).isSome then s0.storeOk else s0.storeBad.checkFailures
  else
    match (s.line l).content with
    | .fetching f _ =>
      match acceptedRecord f res with
      | some r => s0.storeOk.fetched l slot r
      | none => s0.storeBad.fetchFailed l f slot retry (!FetchFailed res)
    | .held _ _ _ => s0
    | .empty => s0

/-- R14: a WRITE that failed leaves its line DIRTY with a WRITE queued. -/
def State.writeAgain (s : State) (l : LineId) (slot : SlotId) : State :=
  match (s.line l).content with
  | .held _ k r =>
    let queued := (s.line l).writeQueued
    let s1 := s.modLine l fun x => { x with content := .held .dirty k r, writeQueued := true }
    if queued then s1 else s1.enqueue (.write l slot)
  | .fetching _ _ => s
  | .empty => s

/-- R14: a WRITE that succeeded leaves its line CLEAN, or DIRTY if another is queued. -/
def State.written (s : State) (l : LineId) : State :=
  match (s.line l).content with
  | .held _ k r =>
    s.modLine l fun x => { x with content := .held (if x.writeQueued then .dirty else .clean) k r }
  | .fetching _ _ => s
  | .empty => s

/-- R14, R15: the end of the WRITE in flight. -/
def State.endWrite (s : State) (x : InFlight) (l : LineId) (slot : SlotId) (ok : Bool) : State :=
  let s0 := s.landed
  if ok then
    let s1 := s0.storeOk
    if x.discarded then s1 else (s1.written l).lineFreed
  else
    let s1 := s0.storeBad
    (if x.discarded then s1 else s1.writeAgain l slot).checkFailures

/-- R14: a slot's header erased: the slot is FREE and its entry gone. -/
def State.erased (s : State) (slot : SlotId) : State :=
  (s.setSlotState slot .free).modTable fun t =>
    { t with index := t.index.filter (fun e => !decide (e.slot = slot)) }

/-- R14, R15, R25: the end of the ERASE in flight. -/
def State.endErase (s : State) (slot : SlotId) (asker : Option Port) (ok : Bool) : State :=
  let s0 := s.landed
  if ok then
    let s1 := s0.storeOk.erased slot
    match asker with
    | some p => s1.answer p .ok .nothing
    | none => s1
  else
    let s1 := s0.storeBad
    if 3 ≤ s1.table.failures then (s1.abandonErase slot asker).enterFaulted
    else
      match asker with
      | some p => s1.enqueue (.erase slot (some p))
      | none => s1.setSlotState slot .used

/-- R14, R183: the end of the CONFIG_WRITE in flight. -/
def State.endConfigWrite (s : State) (ok : Bool) : State :=
  let s0 := s.landed
  if ok then allPorts.foldl (State.answerConfig .ok true) s0.storeOk
  else s0.storeBad.queueConfigWrite.checkFailures

end Sys2Proof.Machine
end

