-- ==== Sys2Proof/Machine/Startup.lean ====
section
/-! DEFINITION. Machine/Startup.lean: what a reset leaves (R184 and each chapter's reset values), the stages of start-up
(R185), and what every event ends with (`State.settle`). -/

namespace Sys2Proof.Machine

/-! ### From a reset (R184, R185) -/

/-- R24: a cache line as a warm reset settles it. -/
def settledLine (x : CacheLine) : CacheLine :=
  match x.content with
  | .empty => emptyLine
  | .fetching _ _ => emptyLine
  | .held .clean k r => { content := .held .clean k r, pinned := x.pinned, writeQueued := false, waiters := [] }
  | .held .dirty k r => { content := .held .dirty k r, pinned := x.pinned, writeQueued := true, waiters := [] }
  | .held .writing k r => { content := .held .dirty k r, pinned := x.pinned, writeQueued := true, waiters := [] }

/-- R24: the machine table unit after a warm reset. -/
def warmTable (t : MachineTable) : MachineTable :=
  { coldTable with lines := Tab.mapWith (fun _ x => settledLine x) t.lines, useOrder := t.useOrder }

/-- R78: a tank after a warm reset: book, tier and receipt kept. -/
def warmTank (t : Tank) : Tank := { t with gauge := invalidGauge, pump := stoppedPump }

/-- R184: the part in reset, by a RESET held low or for want of power: the retained items and the clock stand, and
everything else has its reset value; nothing is in flight (log 22). The working copy of the configuration stands until
start-up begins: DESIGN CHOICE (log 25). -/
def State.inReset (s : State) : State :=
  { s with
    power := { s.power with initialiseDue := false },
    startUp := { s.startUp with stage := .configuration },
    table := warmTable s.table,
    meters := Tab.all 8 resetMeter,
    scanner := resetScanner,
    tanks := Tab.mapWith (fun _ t => warmTank t) s.tanks,
    expired := [],
    ports := Tab.all 4 resetPort }

/-- R184, R185: the part as start-up begins, by the path the check word gives, with its CONFIG_READ issued. The count of
deliveries finished INTERRUPTED that STARTED will carry begins at 0, whatever an earlier start-up that a reset cut short
had finished: DESIGN CHOICE (log 46). -/
def State.startOver (s : State) (cause : ResetCause) : State :=
  let cold := !s.power.checkGood
  { s with
    power := { s.power with checkGood := true, initialiseDue := false },
    startUp := { stage := .configuration, cold := cold, cause := cause, defaulted := false, interrupted := 0,
                 nextHeader := 0 },
    clock := if cold then { siteTime := 0, shift := 0, ticks := 0, rolloverDue := false } else s.clock,
    config := defaultConfiguration,
    table := { (if cold then coldTable else warmTable s.table) with inFlight := some configReadInFlight },
    meters := Tab.all 8 resetMeter,
    scanner := resetScanner,
    tanks := if cold then Tab.all 4 coldTank else Tab.mapWith (fun _ t => warmTank t) s.tanks,
    nozzles := if cold then Tab.all 8 freeContext else s.nozzles,
    ticketCounter := if cold then 1 else s.ticketCounter,
    expired := [],
    park := if cold then Tab.all 4 .empty else s.park,
    journal := if cold then coldJournal else s.journal,
    ports := Tab.all 4 resetPort }

def State.setStage (s : State) (x : Stage) : State := { s with startUp := { s.startUp with stage := x } }

/-! ### Stages 1 and 2 -/

/-- R183: a port whose response line is empty runs at its configured baud rate. -/
def State.takeBaud (s : State) (p : Port) : State :=
  s.modPort p fun x => if x.line.isEmpty then { x with baud := (s.config.ports.read p).baud } else x

/-- R181: the epoch after a cold start. -/
def nextEpoch (e : Word32) : Word32 := if e + 1 = 0 then 1 else e + 1

/-- R181: the epoch advanced in the working configuration. -/
def State.advanceEpoch (s : State) : State :=
  { s with config := { s.config with time := { s.config.time with epoch := nextEpoch s.config.time.epoch } } }

/-- R185 stages 1 and 2: a configuration has been loaded: the ports take their roles and bauds, the scan timer its
divisor, the tanks are evaluated, in the order T1 to T4, DESIGN CHOICE (log 47), and on the cold path a good configuration
has its epoch advanced and written. -/
def State.configLoaded (s : State) (c : Configuration) (good : Bool) : State :=
  let s1 : State :=
    { s with config := c, startUp := { s.startUp with defaulted := !good },
             scanner := { s.scanner with timer := c.probes.divisor } }
  let s2 := allTanks.foldl State.evaluateTank (allPorts.foldl State.takeBaud s1)
  let s3 := if s.startUp.cold && good then s2.advanceEpoch.queueConfigWrite else s2
  s3.setStage .epoch

/-- R185: the end of the CONFIG_READ in flight. -/
def State.endConfigRead (s : State) (retry : Bool) (res : ConfigResult) : State :=
  let s0 := s.landed
  match res with
  | .image c => s0.storeOk.configLoaded c true
  | .badCheck => if retry then s0.storeBad.configLoaded defaultConfiguration false
      else s0.storeBad.enqueue (.configRead true)
  | .failed => if retry then s0.storeBad.configLoaded defaultConfiguration false
      else s0.storeBad.enqueue (.configRead true)

/-! ### Stage 3 (R3) -/

/-- R3: the machine of a slot that a CLEAN or DIRTY line holds, on the warm path. -/
def State.slotHolder (s : State) (k : SlotId) : Option Nat :=
  allLines.findSome? (fun l => match (s.line l).content with
    | .held _ x r => if x = k then some r.fleet else none
    | .fetching _ _ => none
    | .empty => none)

/-- R3: a slot that holds a fleet number. -/
def State.applyFleet (s : State) (k : SlotId) (n : Nat) : State :=
  let s1 := s.setSlotState k .used
  if (s.entry n).isSome then s1.modTable fun t => { t with duplicates := t.duplicates + 1 }
  else s1.modTable fun t => { t with index := insertEntry { fleet := n, slot := k, damaged := false } t.index }

/-- R3: a slot counted as unread: USED, with no entry. -/
def State.countUnread (s : State) (k : SlotId) : State :=
  (s.setSlotState k .used).modTable fun t => { t with unread := t.unread + 1 }

/-- R3: a slot whose header has failed twice, unless a cache line holds it. -/
def State.applyUnread (s : State) (k : SlotId) : State :=
  match s.slotHolder k with
  | some n => s.applyFleet k n
  | none => s.countUnread k

/-- R3: a header that was read, free or with a fleet number in range, unless a cache line holds the slot. -/
def State.applyRead (s : State) (k : SlotId) (n : Option Nat) : State :=
  match s.slotHolder k with
  | some m => s.applyFleet k m
  | none =>
    match n with
    | some m => s.applyFleet k m
    | none => s.setSlotState k .free

/-- R24, R185 stage 3: a DIRTY line has its WRITE queued. -/
def State.queueDirty (s : State) (l : LineId) : State :=
  match (s.line l).content with
  | .held .dirty k _ => (s.modLine l fun x => { x with writeQueued := true }).enqueue (.write l k)
  | .held .clean _ _ => s
  | .held .writing _ _ => s
  | .fetching _ _ => s
  | .empty => s

/-! ### Stage 4 -/

/-- R185 stage 4: a LOADED context is freed. -/
def State.freeLoaded (s : State) (n : NozzleId) : State :=
  if (s.ctx n).state = .loaded then s.modCtx n fun _ => freeContext else s

/-- R185 stage 4: a RESERVED slot is emptied. -/
def State.freeReserved (s : State) (k : ParkId) : State :=
  match s.slot k with
  | .reserved _ => s.setSlot k .empty
  | .holding _ => s
  | .empty => s

def State.countInterrupted (s : State) : State :=
  { s with startUp := { s.startUp with interrupted := s.startUp.interrupted + 1 } }

/-- R106: an open context finishes INTERRUPTED. -/
def State.interruptNozzle (s : State) (n : NozzleId) : State :=
  if (s.ctx n).state.isOpen then (s.finishNozzle n .interrupted).countInterrupted else s

/-- R136: a parked delivery finishes INTERRUPTED. -/
def State.interruptSlot (s : State) (k : ParkId) : State :=
  match s.slot k with
  | .holding p => (s.finishParked k p .interrupted).countInterrupted
  | .reserved _ => s
  | .empty => s

/-- R185 stage 4: open business settled. -/
def State.openBusiness (s : State) : State :=
  let s1 := allSlots.foldl State.freeReserved (allNozzles.foldl State.freeLoaded s)
  let s2 := allSlots.foldl State.interruptSlot (allNozzles.foldl State.interruptNozzle s1)
  allTanks.foldl State.cancelReceipt s2

/-- R185: stage 3 has ended; on the warm path the dirty lines' writes are queued and open business is settled. -/
def State.indexDone (s : State) : State :=
  let s1 := if s.startUp.cold then s else (allLines.foldl State.queueDirty s).openBusiness
  s1.setStage .writes

/-- R3, R185: the interface has faulted: every slot from one on, not yet read, counts as unread, and start-up goes on with
the index as built so far. That this holds of a slot that a cache line holds too, whose number R3 would take from the line
at its read, is a DESIGN CHOICE (log 20). -/
def State.giveUpHeaders (s : State) (k : Nat) : State :=
  ((List.finRange 512).filter (fun i => decide (k ≤ i.val))).foldl State.countUnread s

/-- R3: the failed read of a slot's header has faulted the interface. The slot is among those not yet read when its header
was to be tried once more, and is settled as after any second failure when that was the retry: DESIGN CHOICE (log 20). -/
def State.loseHeaders (s : State) (k : SlotId) (retry : Bool) : State :=
  if retry then (s.applyUnread k).giveUpHeaders (k.val + 1) else s.giveUpHeaders k.val

/-- R3: the next header is read, or the last has been. -/
def State.nextHeaderRead (s : State) (k : SlotId) : State :=
  let s1 : State := { s with startUp := { s.startUp with nextHeader := k.val + 1 } }
  match fromZero 512 (k.val + 1) with
  | some j => s1.enqueue (.headerRead j false)
  | none => s1.indexDone

/-- R3: the end of the HEADER_READ in flight. A header out of range or unread is tried once more, also where a cache line
holds the slot and its number is known: DESIGN CHOICE (log 20). -/
def State.endHeaderRead (s : State) (k : SlotId) (retry : Bool) (res : HeaderResult) : State :=
  let s0 := s.landed
  match res with
  | .free => (s0.storeOk.applyRead k none).nextHeaderRead k
  | .fleet n =>
    if fleetOk n then (s0.storeOk.applyRead k (some n)).nextHeaderRead k
    else if retry then (s0.storeOk.applyUnread k).nextHeaderRead k
    else s0.storeOk.enqueue (.headerRead k true)
  | .failed =>
    let s1 := s0.storeBad
    if 3 ≤ s1.table.failures then (s1.loseHeaders k retry).enterFaulted.indexDone
    else if retry then (s1.applyUnread k).nextHeaderRead k
    else s1.enqueue (.headerRead k true)

/-! ### The ends of stages that wait on the store -/

/-- R185 stage 2: once no CONFIG_WRITE is queued or in flight, or the interface has faulted, stage 3 begins. -/
def State.leaveEpoch (s : State) : State :=
  if s.startUp.stage = .epoch then
    if s.table.faulted then ((s.setStage .index).giveUpHeaders 0).indexDone
    else if s.configWritePending then s
    else (s.setStage .index).enqueue (.headerRead 0 false)
  else s

/-- R186: STARTED. -/
def State.startedNote (s : State) : StartedNote :=
  { cold := s.startUp.cold, cause := s.startUp.cause, defaulted := s.startUp.defaulted, epoch := s.config.time.epoch,
    shift := s.clock.shift, nextSeq := s.journal.nextSeq, interrupted := s.startUp.interrupted }

/-- R185 stages 5 and 6: the queue empty and nothing in flight, or the interface FAULTED: READY. -/
def State.leaveWrites (s : State) : State :=
  if s.startUp.stage = .writes ∧ (s.table.faulted ∨ (s.table.queue = [] ∧ s.table.inFlight = none)) then
    (s.setStage .ready).postAll (.started s.startedNote)
  else s

/-- What every event ends with: start-up goes on as far as it can, and the store interface starts the operation at the
head of its queue if it may (R12, R185). -/
def State.settle (s : State) : State := s.leaveEpoch.leaveWrites.startStore

/-- An event of the running part; nothing reaches a part that is powered down or held in reset (R184). -/
def State.event (s : State) (k : State → State) : Host.Outcome State Fault Refusal :=
  if s.running then .next (k s).settle else .next s

end Sys2Proof.Machine
end

