-- ==== Sys2Proof/Machine/Ports.lean ====
section
/-! DEFINITION. Machine/Ports.lean: what a station port does with a complete frame before its block sees it (R168 to
R170). -/

namespace Sys2Proof.Machine

/-- R178: until the configuration is loaded a port receives nothing and sends nothing. -/
def State.heard (s : State) : Bool := !decide (s.startUp.stage = .configuration)

/-- R169: a port transmits while a response stands on its line. -/
def PortState.transmitting (p : PortState) : Bool := !p.line.isEmpty

/-- R167: the assembler returned to IDLE. -/
def State.idleAssembler (s : State) (p : Port) : State := s.modPort p fun x => { x with assembler := .idle }

/-- R170, first row: the requests an ISLAND port makes for a nozzle it owns. -/
def ReqCode.ofIsland (c : ReqCode) : Bool :=
  decide (c ∈ [ReqCode.steps, .start, .continueList, .stop, .abort, .park, .resume, .meterClear])

/-- R170, second row. -/
def ReqCode.ofFleet (c : ReqCode) : Bool :=
  decide (c ∈ [ReqCode.hours, .grant, .journalFetch, .journalRelease])

/-- R170, third row. -/
def ReqCode.ofWorkshop (c : ReqCode) : Bool :=
  decide (c ∈ [ReqCode.enrol, .withdraw, .machineSet, .standDown, .returnMachine, .rebuild, .setLine, .serviceDone,
    .waiver, .meterChange, .receiptOpen, .receiptClose, .stockAdjust, .reconcile, .configSet, .configRead,
    .storeRetry, .meterClear, .clockSet, .initialise, .journalFetch, .journalRelease])

/-- R170, fourth row. -/
def ReqCode.ofAll (c : ReqCode) : Bool :=
  decide (c ∈ [ReqCode.nozzleStatus, .machineRead, .tankStatus, .clockRead, .deviceStatus, .nextNotice, .peekNotice,
    .noticeMask, .attentionSelect, .attentionAck])

/-- R170: a nozzle outside 1 to 8, or none, is owned by no port. -/
def State.owns (s : State) (p : Port) (nozzle : Option Nat) : Bool :=
  match nozzle.bind (fromOne 8) with
  | some n => decide (s.owner n = p)
  | none => false

/-- R170: whether a port's role permits a request for the nozzle it names. -/
def State.permits (s : State) (p : Port) (c : ReqCode) (nozzle : Option Nat) : Bool :=
  c.ofAll || (match s.role p with
    | .island => c.ofIsland && s.owns p nozzle
    | .fleet => c.ofFleet
    | .workshop => c.ofWorkshop
    | .monitor => false)

/-- R188: a frame refused by its port: a response of code, tag and status. -/
def State.refuseFrame (s : State) (p : Port) (code tag : Byte) (st : Status) : State :=
  s.respond p { code := responseCode code, tag := tag, status := st, payload := .nothing }

/-- R167: a complete frame is taken by a port that hears and is not transmitting; the assembler is then IDLE. A frame
that a transmitting port is sent is lost. -/
def State.takeFrame (s : State) (p : Port) (k : State → State) : State :=
  if s.heard then
    if (s.port p).transmitting then s.idleAssembler p else k (s.idleAssembler p)
  else s

/-- R168: the tests of a complete frame whose CRC matches and whose code is known, down to the length test, and then
its block. -/
def State.admission (s : State) (p : Port) (c : ReqCode) (tag : Byte) (nozzle : Option Nat) (k : State → State) :
    State :=
  s.takeFrame p fun x =>
    if (x.port p).inHand.isSome then x.refuseFrame p c.byte tag .portBusy
    else if !x.ready && !decide (c = .deviceStatus) then x.refuseFrame p c.byte tag .starting
    else if !x.permits p c nozzle then x.refuseFrame p c.byte tag .notPermitted
    else k x

/-- A block's answer to a figure outside its range. -/
def State.badField (s : State) (p : Port) (c : ReqCode) (tag : Byte) : State := s.reply p c tag .badField .nothing

/-- A request that names a nozzle 1 to 8; any other is BAD_FIELD. -/
def State.withNozzle (s : State) (p : Port) (c : ReqCode) (tag : Byte) (nozzle : Nat) (k : NozzleId → State) : State :=
  match fromOne 8 nozzle with
  | some n => k n
  | none => s.badField p c tag

/-- A request that names a tank 1 to 4; any other is BAD_FIELD. -/
def State.withTank (s : State) (p : Port) (c : ReqCode) (tag : Byte) (tank : Nat) (k : TankId → State) : State :=
  match fromOne 4 tank with
  | some t => k t
  | none => s.badField p c tag

/-- A request that needs a machine's record: it becomes the request in hand and asks (R8, R169). -/
def State.askInHand (s : State) (p : Port) (tag : Byte) (f : Nat) (r : WaitingRequest) : State :=
  (s.takeInHand p tag r).askFor p f

end Sys2Proof.Machine
end

