-- ==== Sys2Proof/Machine/Fleet.lean ====
section
/-! DEFINITION. Machine/Fleet.lean: the requests of the FLEET row (R170): HOURS, GRANT and the journal's two. -/

namespace Sys2Proof.Machine

/-! ### HOURS (R143) -/

def State.reqHours (p : Port) (tag : Byte) (fleet reading : Nat) (s : State) : State :=
  s.admission p .hours tag none fun x =>
    if readingOk reading then x.askInHand p tag fleet (.hours fleet reading) else x.badField p .hours tag

/-- HOURS (R143 to R147). -/
def execHours (p : Port) (tag : Byte) (fleet reading : Nat) (s : State) : Host.Outcome State Fault Refusal :=
  s.event (State.reqHours p tag fleet reading)

/-! ### GRANT (R118, R119) -/

/-- R118: the grant extra after one more. -/
def addedExtra (old : Option Nat) (extra : Nat) : Option Nat := some (min maxDelivery (old.getD 0 + extra))

/-- R118: a GRANT taken for the nozzle that waits. -/
def State.takeGrant (s : State) (p : Port) (tag : Byte) (n : NozzleId) (w : WaitTerms) (extra : Nat) : State :=
  let s1 := s.modCtx n fun c =>
    { c with grant := none,
             delivery := c.delivery.map (fun d => { d with grantExtra := addedExtra d.grantExtra extra }) }
  let issue := min w.a (min (w.b + extra) (s1.stockTerm n))
  let f := factorOf issue w.a (w.b + extra) w.name
  if s.config.authorisation.minIssue ≤ issue ∨ issue = w.a then
    let s2 := s1.authorise n issue w.a f w.restricted w.first
    let limit := (s2.delivery n).limit
    ((s2.postClosed n .granted (some limit) none).reply p .grant tag .ok
      (.grantDecision .granted (some limit) none f)).runRest n
  else
    ((s1.postClosed n .denied none (some .grantDenied)).reply p .grant tag .ok
      (.grantDecision .denied none (some .grantDenied) f)).refuseAuth n .grantDenied w.first

/-- R119: a GRANT for a ticket that no context waits with. -/
def State.lateGrant (s : State) (p : Port) (tag : Byte) (ticket : Nat) : State :=
  s.reply p .grant tag (if ticket ∈ s.expired then .tooLate else .noSuchTicket) .nothing

/-- R118, R119. -/
def State.grantFor (s : State) (p : Port) (tag : Byte) (ticket extra : Nat) : State :=
  match s.waitingFor ticket with
  | none => s.lateGrant p tag ticket
  | some n =>
    match (s.delivery n).wait with
    | some w => s.takeGrant p tag n w extra
    | none => s.lateGrant p tag ticket

def State.reqGrant (p : Port) (tag : Byte) (ticket extra : Nat) (s : State) : State :=
  s.admission p .grant tag none fun x =>
    if ticket = 0 ∨ maxDelivery < extra then x.badField p .grant tag else x.grantFor p tag ticket extra

/-- GRANT (R118, R119). -/
def execGrant (p : Port) (tag : Byte) (ticket extra : Nat) (s : State) : Host.Outcome State Fault Refusal :=
  s.event (State.reqGrant p tag ticket extra)

/-! ### The journal (R162, R163) -/

/-- R162: the head entry and the counts. -/
def State.journalPayload (s : State) : Payload :=
  .journalHead s.journal.entries.length s.journal.reservations s.journal.full s.journal.entries.head?

def State.reqJournalFetch (p : Port) (tag : Byte) (s : State) : State :=
  s.admission p .journalFetch tag none fun x =>
    x.reply p .journalFetch tag (if x.journal.entries.isEmpty then .empty else .ok) x.journalPayload

/-- JOURNAL_FETCH (R162). -/
def execJournalFetch (p : Port) (tag : Byte) (s : State) : Host.Outcome State Fault Refusal :=
  s.event (State.reqJournalFetch p tag)

/-- R163: the journal with its head entry removed. -/
def Journal.dropHead (j : Journal) : Journal := { j with entries := j.entries.drop 1 }

/-- R163. -/
def State.release (s : State) (p : Port) (tag : Byte) (seq : Word32) : State :=
  if s.journal.head = some seq then
    let s1 : State := { s with journal := s.journal.dropHead }
    s1.reply p .journalRelease tag .ok
      (.released s1.journal.head s1.journal.entries.length s1.journal.reservations)
  else s.reply p .journalRelease tag .stale (.stale s.journal.head)

def State.reqJournalRelease (p : Port) (tag : Byte) (seq : Word32) (s : State) : State :=
  s.admission p .journalRelease tag none fun x => x.release p tag seq

/-- JOURNAL_RELEASE (R163). -/
def execJournalRelease (p : Port) (tag : Byte) (seq : Word32) (s : State) : Host.Outcome State Fault Refusal :=
  s.event (State.reqJournalRelease p tag seq)

end Sys2Proof.Machine
end

