-- ==== Sys2Proof/Machine/Island.lean ====
section
/-! DEFINITION. Machine/Island.lean: the requests of the ISLAND row (R170): step lists, deliveries, parking, and
METER_CLEAR. Each request has its effect on the part (`State.req…`) and its meaning as a command (`exec…`). -/

namespace Sys2Proof.Machine

/-! ### STEPS (R83) -/

/-- R83, in the state the nozzle is in. -/
def State.loadSteps (s : State) (p : Port) (tag : Byte) (raw : List RawStep) (n : NozzleId) : State :=
  match (s.ctx n).state with
  | .free =>
    if (s.nozzleConfig n).enabled then
      match loadedList true raw with
      | some l =>
        (s.modCtx n fun _ => { freeContext with state := .loaded, steps := l }).reply p .steps tag .ok .nothing
      | none => s.reply p .steps tag .badList .nothing
    else s.reply p .steps tag .nozzleState .nothing
  | .held =>
    match loadedList false raw with
    | some l => (s.modCtx n fun c => { c with steps := l, pointer := 0 }).reply p .steps tag .ok .nothing
    | none => s.reply p .steps tag .badList .nothing
  | .loaded => s.reply p .steps tag .nozzleState .nothing
  | .fetching => s.reply p .steps tag .nozzleState .nothing
  | .awaitGrant => s.reply p .steps tag .nozzleState .nothing
  | .priming => s.reply p .steps tag .nozzleState .nothing
  | .proving => s.reply p .steps tag .nozzleState .nothing
  | .flowFull => s.reply p .steps tag .nozzleState .nothing
  | .flowSlow => s.reply p .steps tag .nozzleState .nothing
  | .draining => s.reply p .steps tag .nozzleState .nothing

def State.reqSteps (p : Port) (tag : Byte) (nozzle : Nat) (raw : List RawStep) (s : State) : State :=
  s.admission p .steps tag (some nozzle) fun x => x.withNozzle p .steps tag nozzle (x.loadSteps p tag raw)

/-- STEPS (R82, R83). -/
def execSteps (p : Port) (tag : Byte) (nozzle : Nat) (raw : List RawStep) (s : State) :
    Host.Outcome State Fault Refusal :=
  s.event (State.reqSteps p tag nozzle raw)

/-! ### START (R85, R86) -/

/-- R86: the ticket after one. -/
def nextTicket (t : Nat) : Nat := if 65535 ≤ t then 1 else t + 1

/-- R86: whether an open delivery holds a ticket. -/
def State.ticketOpen (s : State) (t : Nat) : Bool :=
  allNozzles.any (fun n => (s.ctx n).state.isOpen && decide ((s.delivery n).ticket = t))
    || allSlots.any (fun k => match s.slot k with
      | .holding p => decide (p.delivery.ticket = t)
      | .reserved _ => false
      | .empty => false)

/-- R86: the search from a value; at most twelve deliveries are open, so thirteen tries suffice. -/
def State.findTicket (s : State) : Nat → Nat → Nat
  | 0, t => t
  | k + 1, t => if s.ticketOpen t then s.findTicket k (nextTicket t) else t

/-- R158, R164: a reservation taken, with JOURNAL_LEVEL (FULL) when it fills the journal. -/
def State.reserve (s : State) : State :=
  let s1 : State := { s with journal := { s.journal with reservations := s.journal.reservations + 1 } }
  if s1.journal.entries.length + s1.journal.reservations = 256 then s1.postLevel .full else s1

/-- R85: the delivery that a START opens. -/
def State.newDelivery (s : State) (p : Port) (n : NozzleId) (ticket : Nat) : Delivery :=
  { blankDelivery with ticket := ticket, originPort := p, startTime := s.clock.siteTime, startShift := s.clock.shift,
                       tank := (s.nozzleConfig n).tank }

/-- R85: a START that finds a place. -/
def State.openDelivery (s : State) (p : Port) (tag : Byte) (n : NozzleId) : State :=
  let t := s.findTicket 12 s.ticketCounter
  let s1 := s.reserve
  let s2 : State :=
    { s1 with ticketCounter := nextTicket t, expired := s1.expired.filter (fun x => !decide (x = t)) }
  let d := s.newDelivery p n t
  let s3 := s2.modCtx n fun c => { c with delivery := some d, pointer := 0 }
  (s3.reply p .start tag .ok (.ticket t)).runAll n

/-- R85, in the state the nozzle is in. -/
def State.startNozzle (s : State) (p : Port) (tag : Byte) (n : NozzleId) : State :=
  if (s.ctx n).state = .loaded then
    if s.journal.full then s.reply p .start tag .journalFull .nothing else s.openDelivery p tag n
  else s.reply p .start tag .nozzleState .nothing

def State.reqStart (p : Port) (tag : Byte) (nozzle : Nat) (s : State) : State :=
  s.admission p .start tag (some nozzle) fun x => x.withNozzle p .start tag nozzle (x.startNozzle p tag)

/-- START (R85, R86, R158). -/
def execStart (p : Port) (tag : Byte) (nozzle : Nat) (s : State) : Host.Outcome State Fault Refusal :=
  s.event (State.reqStart p tag nozzle)

/-! ### CONTINUE (R102) -/

/-- R102, in the state the nozzle is in. -/
def State.continueNozzle (s : State) (p : Port) (tag : Byte) (n : NozzleId) : State :=
  if (s.ctx n).state = .held then
    if (s.ctx n).steps = [] then s.reply p .continueList tag .badList .nothing
    else ((s.modCtx n fun c => { c with hold := none }).reply p .continueList tag .ok .nothing).runAll n
  else s.reply p .continueList tag .nozzleState .nothing

def State.reqContinue (p : Port) (tag : Byte) (nozzle : Nat) (s : State) : State :=
  s.admission p .continueList tag (some nozzle) fun x =>
    x.withNozzle p .continueList tag nozzle (x.continueNozzle p tag)

/-- CONTINUE (R102). -/
def execContinue (p : Port) (tag : Byte) (nozzle : Nat) (s : State) : Host.Outcome State Fault Refusal :=
  s.event (State.reqContinue p tag nozzle)

/-! ### STOP (R99) -/

/-- R99, in the state the nozzle is in. -/
def State.stopNozzle (s : State) (p : Port) (tag : Byte) (n : NozzleId) : State :=
  match (s.ctx n).state with
  | .priming => ((s.quitPriming n .stopped).goOn n .stopped).reply p .stop tag .ok .nothing
  | .proving => (s.stopFlow n .stopped).reply p .stop tag .ok .nothing
  | .flowFull => (s.stopFlow n .stopped).reply p .stop tag .ok .nothing
  | .flowSlow => (s.stopFlow n .stopped).reply p .stop tag .ok .nothing
  | .free => s.reply p .stop tag .nozzleState .nothing
  | .loaded => s.reply p .stop tag .nozzleState .nothing
  | .fetching => s.reply p .stop tag .nozzleState .nothing
  | .awaitGrant => s.reply p .stop tag .nozzleState .nothing
  | .draining => s.reply p .stop tag .nozzleState .nothing
  | .held => s.reply p .stop tag .nozzleState .nothing

def State.reqStop (p : Port) (tag : Byte) (nozzle : Nat) (s : State) : State :=
  s.admission p .stop tag (some nozzle) fun x => x.withNozzle p .stop tag nozzle (x.stopNozzle p tag)

/-- STOP (R99). -/
def execStop (p : Port) (tag : Byte) (nozzle : Nat) (s : State) : Host.Outcome State Fault Refusal :=
  s.event (State.reqStop p tag nozzle)

/-! ### ABORT (R100) -/

/-- R100: ABORT recorded as the pending move; a slot reserved for the nozzle is freed (R96). -/
def State.recordAbort (s : State) (n : NozzleId) : State :=
  (s.modCtx n fun c => { c with move := .abort }).unreserve n

/-- R100: what ABORT ends, in a state other than FREE. -/
def State.abortNozzle (s : State) (n : NozzleId) : State :=
  match (s.ctx n).state with
  | .free => s
  | .loaded => s.modCtx n fun _ => freeContext
  | .fetching => (s.withdrawRequester (.ident n)).finishNozzle n .aborted
  | .awaitGrant => (s.cancelWait n .aborted).finishNozzle n .aborted
  | .priming => (s.quitPriming n .aborted).goOn n .aborted
  | .proving => (s.stopFlow n .aborted).recordAbort n
  | .flowFull => (s.stopFlow n .aborted).recordAbort n
  | .flowSlow => (s.stopFlow n .aborted).recordAbort n
  | .draining => s.recordAbort n
  | .held => s.finishNozzle n .aborted

def State.reqAbort (p : Port) (tag : Byte) (nozzle : Nat) (s : State) : State :=
  s.admission p .abort tag (some nozzle) fun x =>
    x.withNozzle p .abort tag nozzle fun n =>
      if (x.ctx n).state = .free then x.reply p .abort tag .nozzleState .nothing
      else (x.abortNozzle n).reply p .abort tag .ok .nothing

/-- ABORT (R100). -/
def execAbort (p : Port) (tag : Byte) (nozzle : Nat) (s : State) : Host.Outcome State Fault Refusal :=
  s.event (State.reqAbort p tag nozzle)

/-! ### PARK (R126 to R129) -/

/-- R126: the states PARK is taken in. -/
def NozzleState.parkable : NozzleState → Bool
  | .held => true
  | .awaitGrant => true
  | .flowFull => true
  | .flowSlow => true
  | .draining => true
  | .free => false
  | .loaded => false
  | .fetching => false
  | .priming => false
  | .proving => false

/-- R127, R128: a PARK that has passed its tests, into the lowest free slot. -/
def State.parkInto (s : State) (n : NozzleId) (k : ParkId) : State :=
  match (s.ctx n).state with
  | .held => s.moveToPark n k .request
  | .awaitGrant => ((s.cancelWait n .parked).addFault n .grantWait).moveToPark n k .request
  | .draining => (s.setSlot k (.reserved n)).modCtx n fun c => { c with move := .park }
  | .flowFull => ((s.setSlot k (.reserved n)).stopFlow n .stopped).modCtx n fun c => { c with move := .park }
  | .flowSlow => ((s.setSlot k (.reserved n)).stopFlow n .stopped).modCtx n fun c => { c with move := .park }
  | .free => s
  | .loaded => s
  | .fetching => s
  | .priming => s
  | .proving => s

/-- R126, R128: PARK tested in order. -/
def State.parkNozzle (s : State) (p : Port) (tag : Byte) (n : NozzleId) : State :=
  let c := s.ctx n
  if !c.state.parkable then s.reply p .park tag .nozzleState .nothing
  else if 4 ≤ (s.delivery n).legs.length then s.reply p .park tag .legLimit .nothing
  else if c.state = .draining ∧ c.move = .park then s.reply p .park tag .ok (.parkSlot (s.reservedFor n))
  else if c.state = .draining ∧ c.move = .abort then s.reply p .park tag .ok (.parkSlot none)
  else
    match s.freePark with
    | none => s.reply p .park tag .noParkSlot .nothing
    | some k => (s.parkInto n k).reply p .park tag .ok (.parkSlot (some k))

def State.reqPark (p : Port) (tag : Byte) (nozzle : Nat) (s : State) : State :=
  s.admission p .park tag (some nozzle) fun x => x.withNozzle p .park tag nozzle (x.parkNozzle p tag)

/-- PARK (R126 to R129). -/
def execPark (p : Port) (tag : Byte) (nozzle : Nat) (s : State) : Host.Outcome State Fault Refusal :=
  s.event (State.reqPark p tag nozzle)

/-! ### RESUME (R132 to R134) -/

/-- R132: whether the machine of a delivery is of an essential class. -/
def State.essential (s : State) (d : Delivery) : Bool :=
  match d.line.bind s.recordAt with
  | some r => (s.classConfig r.cls).essential
  | none => false

/-- R132: the first test that fails for a parked delivery at a nozzle. -/
def State.resumeRefusal (s : State) (n : NozzleId) (p : Parked) : Option Status :=
  let c := s.nozzleConfig n
  if (s.ctx n).state ≠ .free then some .nozzleBusy
  else if !c.enabled then some .nozzleState
  else if (s.tankConfig c.tank).product ≠ s.deliveryProduct p.delivery then some .productMismatch
  else if (s.meter n).state = .faulted then some .meterFault
  else if (s.tank c.tank).tier = .reserve ∧ !s.essential p.delivery then some .reserveOnly
  else none

/-- R132 to R134. -/
def State.resumeNozzle (s : State) (p : Port) (tag : Byte) (ticket : Nat) (n : NozzleId) : State :=
  if ticket = 0 ∨ 65535 < ticket then s.badField p .resume tag
  else
    match s.parkedTicket ticket with
    | none => s.reply p .resume tag .noSuchTicket .nothing
    | some (k, x) =>
      match s.resumeRefusal n x with
      | some st => s.reply p .resume tag st .nothing
      | none =>
        let s1 := s.resumeAt k x n
        let d := s1.delivery n
        s1.reply p .resume tag .ok (.resumed d.ticket d.fleet d.limit d.legs.length (s1.ctx n).state)

def State.reqResume (p : Port) (tag : Byte) (ticket nozzle : Nat) (s : State) : State :=
  s.admission p .resume tag (some nozzle) fun x => x.withNozzle p .resume tag nozzle (x.resumeNozzle p tag ticket)

/-- RESUME (R132 to R134). -/
def execResume (p : Port) (tag : Byte) (ticket nozzle : Nat) (s : State) : Host.Outcome State Fault Refusal :=
  s.event (State.reqResume p tag ticket nozzle)

/-! ### METER_CLEAR (R33) -/

/-- R33: a FAULTED meter returned to service; any other is left as it is. -/
def clearedMeter (m : Meter) : Meter :=
  if m.state = .faulted then
    { m with state := if m.bound then .inUse else .idle, stray := 0, creep := 0, proven := false }
  else m

def State.reqMeterClear (p : Port) (tag : Byte) (nozzle : Nat) (s : State) : State :=
  s.admission p .meterClear tag (some nozzle) fun x =>
    x.withNozzle p .meterClear tag nozzle fun n => (x.modMeter n clearedMeter).reply p .meterClear tag .ok .nothing

/-- METER_CLEAR (R33). -/
def execMeterClear (p : Port) (tag : Byte) (nozzle : Nat) (s : State) : Host.Outcome State Fault Refusal :=
  s.event (State.reqMeterClear p tag nozzle)

end Sys2Proof.Machine
end

