-- ==== Sys2Proof/Machine/Common.lean ====
section
/-! DEFINITION. Machine/Common.lean: the requests every role may make (R170): status, notices, attention. -/

namespace Sys2Proof.Machine

/-! ### NOZZLE_STATUS (R81) -/

/-- R50, R81: what NOZZLE_STATUS shows of a nozzle. -/
def State.nozzleReport (s : State) (n : NozzleId) : NozzleReport :=
  let d := s.delivery n
  { nozzle := n, config := s.nozzleConfig n, context := s.ctx n, meter := s.meter n,
    figures := d.legs.map (Leg.figures (s.productConfig (s.deliveryProduct d))), running := d.running,
    fullFlow := s.fullFlow n, slowFlow := s.slowFlow n }

def State.reqNozzleStatus (p : Port) (tag : Byte) (nozzle : Nat) (s : State) : State :=
  s.admission p .nozzleStatus tag none fun x =>
    x.withNozzle p .nozzleStatus tag nozzle fun n => x.reply p .nozzleStatus tag .ok (.nozzle (x.nozzleReport n))

/-- NOZZLE_STATUS (R81). -/
def execNozzleStatus (p : Port) (tag : Byte) (nozzle : Nat) (s : State) : Host.Outcome State Fault Refusal :=
  s.event (State.reqNozzleStatus p tag nozzle)

/-! ### MACHINE_READ (R22) -/

def State.reqMachineRead (p : Port) (tag : Byte) (fleet : Nat) (s : State) : State :=
  s.admission p .machineRead tag none fun x => x.askInHand p tag fleet (.machineRead fleet)

/-- MACHINE_READ (R22, R156). -/
def execMachineRead (p : Port) (tag : Byte) (fleet : Nat) (s : State) : Host.Outcome State Fault Refusal :=
  s.event (State.reqMachineRead p tag fleet)

/-! ### TANK_STATUS (R76) -/

/-- R76: the room left in a tank. -/
def State.ullage (s : State) (t : TankId) : Nat :=
  let k := s.tank t
  let cap : Int := (s.tankConfig t).capacity
  match k.gauge.net, k.book with
  | some g, _ => (cap - (g : Int)).toNat
  | none, some b => (cap - b).toNat
  | none, none => cap.toNat

/-- R76. -/
def State.tankReport (s : State) (t : TankId) : TankReport :=
  { tank := t, config := s.tankConfig t, dynamic := s.tank t, usable := (s.tank t).usable, ullage := s.ullage t,
    levelChannel := s.channel (levelChannel t), tempChannel := s.channel (tempChannel t) }

def State.reqTankStatus (p : Port) (tag : Byte) (tank : Nat) (s : State) : State :=
  s.admission p .tankStatus tag none fun x =>
    x.withTank p .tankStatus tag tank fun t => x.reply p .tankStatus tag .ok (.tank (x.tankReport t))

/-- TANK_STATUS (R76). -/
def execTankStatus (p : Port) (tag : Byte) (tank : Nat) (s : State) : Host.Outcome State Fault Refusal :=
  s.event (State.reqTankStatus p tag tank)

/-! ### CLOCK_READ (R180) -/

/-- R180: site time, epoch, shift number, ticks into the shift and S. -/
def State.clockPayload (s : State) : Payload :=
  .clock s.clock.siteTime s.config.time.epoch s.clock.shift s.clock.ticks s.config.time.shiftLength

def State.reqClockRead (p : Port) (tag : Byte) (s : State) : State :=
  s.admission p .clockRead tag none fun x => x.reply p .clockRead tag .ok x.clockPayload

/-- CLOCK_READ (R180). -/
def execClockRead (p : Port) (tag : Byte) (s : State) : Host.Outcome State Fault Refusal :=
  s.event (State.reqClockRead p tag)

/-! ### DEVICE_STATUS (R186, R191) -/

/-- Section 0. -/
def State.deviceReport (s : State) : DeviceReport :=
  { startUp := s.startUp, siteTime := s.clock.siteTime, shift := s.clock.shift, ticks := s.clock.ticks,
    epoch := s.config.time.epoch, faulted := s.table.faulted, failures := s.table.failures,
    duplicates := s.table.duplicates, unread := s.table.unread, entries := s.journal.entries.length,
    reservations := s.journal.reservations, head := s.journal.head, nextSeq := s.journal.nextSeq,
    threshold := s.config.service.journalThreshold, full := s.journal.full }

/-- A line of section 1. -/
def lineReport (x : CacheLine) : LineReport :=
  match x.content with
  | .empty => { fetching := false, state := none, pinned := x.pinned, fleet := none }
  | .fetching f _ => { fetching := true, state := none, pinned := x.pinned, fleet := some f }
  | .held st _ r => { fetching := false, state := some st, pinned := x.pinned, fleet := some r.fleet }

/-- A slot of section 2 (R135). -/
def State.slotReport (s : State) (k : ParkId) : SlotReport :=
  match s.slot k with
  | .empty => .empty
  | .reserved n => .reserved n
  | .holding p => .holding p (s.deliveryProduct p.delivery) p.delivery.running

/-- A port of section 3 (R166). The DEVICE_STATUS that is being answered, already handed to its block, is not counted as the
request in hand of its own port: DESIGN CHOICE (log 44). -/
def State.portReport (s : State) (p : Port) : PortReport :=
  let x := s.port p
  { role := s.role p, baud := x.baud, inHand := s.requestInHand p, notices := x.notices.length, lost := x.lost,
    mask := x.mask, select := x.select, attention := x.attention }

/-- R191: a section of DEVICE_STATUS, none above 4. -/
def State.section (s : State) (n : Nat) : Option Payload :=
  if n = 0 then some (.device s.deviceReport)
  else if n = 1 then some (.cache (allLines.map (fun l => lineReport (s.line l))))
  else if n = 2 then some (.parkTable (allSlots.map s.slotReport))
  else if n = 3 then some (.portTable (allPorts.map s.portReport))
  else if n = 4 then
    some (.probes (allChannels.map s.channel) (allNozzles.map (fun m => (s.meter m).state)))
  else none

def State.reqDeviceStatus (p : Port) (tag : Byte) (sect : Nat) (s : State) : State :=
  s.admission p .deviceStatus tag none fun x =>
    match x.section sect with
    | some f => x.reply p .deviceStatus tag .ok f
    | none => x.badField p .deviceStatus tag

/-- DEVICE_STATUS (R186, R191). -/
def execDeviceStatus (p : Port) (tag : Byte) (sect : Nat) (s : State) : Host.Outcome State Fault Refusal :=
  s.event (State.reqDeviceStatus p tag sect)

/-! ### Notices (R173, R174) -/

/-- R173: the oldest notice removed and the lost mark cleared. -/
def takeNotice (x : PortState) : PortState := { x with notices := x.notices.drop 1, lost := false }

/-- R173. -/
def State.fetchNotice (s : State) (p : Port) (tag : Byte) : State :=
  let x := s.port p
  match x.notices with
  | [] => s.reply p .nextNotice tag .empty (.notice x.lost 0 none)
  | n :: rest => (s.modPort p takeNotice).reply p .nextNotice tag .ok (.notice x.lost rest.length (some n))

def State.reqNextNotice (p : Port) (tag : Byte) (s : State) : State :=
  s.admission p .nextNotice tag none fun x => x.fetchNotice p tag

/-- NEXT_NOTICE (R173). -/
def execNextNotice (p : Port) (tag : Byte) (s : State) : Host.Outcome State Fault Refusal :=
  s.event (State.reqNextNotice p tag)

/-- R173: PEEK_NOTICE changes nothing. -/
def State.peek (s : State) (p : Port) (tag : Byte) : State :=
  let x := s.port p
  match x.notices with
  | [] => s.reply p .peekNotice tag .empty (.notice x.lost 0 none)
  | n :: _ => s.reply p .peekNotice tag .ok (.notice x.lost x.notices.length (some n))

def State.reqPeekNotice (p : Port) (tag : Byte) (s : State) : State :=
  s.admission p .peekNotice tag none fun x => x.peek p tag

/-- PEEK_NOTICE (R173). -/
def execPeekNotice (p : Port) (tag : Byte) (s : State) : Host.Outcome State Fault Refusal :=
  s.event (State.reqPeekNotice p tag)

def State.reqNoticeMask (p : Port) (tag : Byte) (kinds : Word32) (s : State) : State :=
  s.admission p .noticeMask tag none fun x =>
    if kinds &&& ~~~maskable = 0 then
      (x.modPort p fun q => { q with mask := kinds }).reply p .noticeMask tag .ok (.mask kinds)
    else x.badField p .noticeMask tag

/-- NOTICE_MASK (R174). -/
def execNoticeMask (p : Port) (tag : Byte) (kinds : Word32) (s : State) : Host.Outcome State Fault Refusal :=
  s.event (State.reqNoticeMask p tag kinds)

/-! ### Attention (R176) -/

def State.reqAttentionSelect (p : Port) (tag : Byte) (conditions : Byte) (s : State) : State :=
  s.admission p .attentionSelect tag none fun x =>
    if conditions.toNat ≤ 7 then
      let sel := conditionsOfByte conditions
      (x.modPort p fun q => { q with select := sel }).reply p .attentionSelect tag .ok
        (.attention (some sel) (x.port p).conditions (some (x.port p).attention))
    else x.badField p .attentionSelect tag

/-- ATTENTION_SELECT (R176). -/
def execAttentionSelect (p : Port) (tag : Byte) (conditions : Byte) (s : State) : Host.Outcome State Fault Refusal :=
  s.event (State.reqAttentionSelect p tag conditions)

def State.reqAttentionAck (p : Port) (tag : Byte) (s : State) : State :=
  s.admission p .attentionAck tag none fun x =>
    (x.modPort p fun q => { q with attention := false }).reply p .attentionAck tag .ok
      (.attention none (x.port p).conditions none)

/-- ATTENTION_ACK (R176). -/
def execAttentionAck (p : Port) (tag : Byte) (s : State) : Host.Outcome State Fault Refusal :=
  s.event (State.reqAttentionAck p tag)

end Sys2Proof.Machine
end

