-- ==== Sys2Proof/Machine/Layout.lean ====
section
/-! DEFINITION. Machine/Layout.lean: the bytes masters see (chapter 12): figures and enumerations (R189), the CRC (R188),
notices (R193), journal entries (R194), machine records (R195), and every response's fields. A figure whose width no
rule gives has a free width (`Config.openWidth`, log 9); a figure that does not fit its width shows a free value (log
10). -/

namespace Sys2Proof.Machine

/-! ### Figures (R189) -/

/-- The low bytes of a number, most significant first. -/
def bytesOf : Nat → Nat → List Byte
  | 0, _ => []
  | w + 1, v => bytesOf w (v / 256) ++ [BitVec.ofNat 8 v]

/-- R189: an unsigned figure of a width. -/
def fig (w v : Nat) : List Byte :=
  if v < 256 ^ w then bytesOf w v else bytesOf w (Config.unfitFigure w (v : Int))

/-- R189: a signed figure of a width, in two's complement. -/
def sfig (w : Nat) (v : Int) : List Byte :=
  if -(256 ^ w : Nat) ≤ 2 * v ∧ 2 * v < (256 ^ w : Nat) then bytesOf w (v % (256 ^ w : Nat)).toNat
  else bytesOf w (Config.unfitFigure w v)

/-- A figure whose width no rule gives (log 9). -/
def openFig (k : Config.OpenFigure) (v : Nat) : List Byte := fig (Config.openWidth k) v

/-- R189: an optional figure: a presence byte, and its value bytes, 0 when it is absent. -/
def optFig (w : Nat) (v : Option Nat) : List Byte :=
  match v with
  | none => fig 1 0 ++ fig w 0
  | some x => fig 1 1 ++ fig w x

/-- R189: an optional signed figure. -/
def optSfig (w : Nat) (v : Option Int) : List Byte :=
  match v with
  | none => fig 1 0 ++ sfig w 0
  | some x => fig 1 1 ++ sfig w x

/-- A 32-bit figure. -/
def word (v : Word32) : List Byte := fig 4 v.toNat

/-- R189: an optional 32-bit figure. -/
def optWord (v : Option Word32) : List Byte := optFig 4 (v.map (fun x => x.toNat))

/-- A flag, in a byte (log 9). -/
def flag (b : Bool) : List Byte := fig 1 (if b then 1 else 0)

/-- R189: an enumeration, numbered from 0 in the order its constructors stand in. -/
def enum (k : Nat) : List Byte := fig 1 k

/-- R189: an absent enumeration is 0xFF. -/
def optEnum (k : Option Nat) : List Byte := fig 1 (k.getD 255)

/-- R189: a list: a count byte and its items. -/
def listOf {α : Type} (f : α → List Byte) (l : List α) : List Byte := fig 1 l.length ++ l.flatMap f

/-- R189: nozzles, tanks, products and park slots are numbered from 1. -/
def num1 {n : Nat} (i : Fin n) : List Byte := fig 1 (number i)

/-- R189: ports, classes and channels are numbered from 0. -/
def num0 {n : Nat} (i : Fin n) : List Byte := fig 1 i.val

/-! ### Sets (R189) -/

def bit (b : Bool) (v : Nat) : Nat := if b then v else 0

/-- R189: pending faults, bits 2^0 upward in R98's order. -/
def faultsByte (x : FaultSet) : List Byte :=
  fig 1 (bit x.probeSubstitute 1 + bit x.tankLow 2 + bit x.meterFault 4 + bit x.stall 8 + bit x.grantWait 16)

/-- R189: NON_EMPTY, AT_16 and LOST at 2^0 to 2^2. -/
def conditionsByte (x : Conditions) : List Byte := fig 1 (bit x.nonEmpty 1 + bit x.at16 2 + bit x.lost 4)

/-- R189: a leg's flags. -/
def legFlags (substituted clamped : Bool) : List Byte := fig 1 (bit substituted 1 + bit clamped 2)

/-- R57, R71: the three flags of a gauge or receipt: substituted, over-gauge, clamped, a byte each. R189 packs other sets
of flags into one byte and does not name this one: DEDUCED (log 31). -/
def gaugeFlags (f : GaugeFlags) : List Byte := flag f.substituted ++ flag f.overGauge ++ flag f.clamped

/-! ### Notices (R193) -/

/-- A service line's state in SERVICE_STATE: ABSENT is 4 (R189). -/
def lineStateByte (x : Option LineState) : List Byte := enum ((x.map (fun y => y.ctorIdx)).getD 4)

def stageBytes : StageNote → List Byte
  | .identified t f n => enum 0 ++ fig 2 t ++ fig 2 f ++ num1 n
  | .authorised t l f => enum 1 ++ fig 2 t ++ fig 4 l ++ optEnum (f.map (fun x => x.ctorIdx))
  | .authRefused t r l => enum 2 ++ fig 2 t ++ enum r.ctorIdx ++ fig 4 l
  | .runEnded t r v => enum 3 ++ fig 2 t ++ enum r.ctorIdx ++ fig 4 (sat32 v)
  | .probeSubstitute t l v => enum 4 ++ fig 2 t ++ openFig .smallCount l ++ sfig 2 v
  | .parked t k r v l legs timer =>
    enum 5 ++ fig 2 t ++ num1 k ++ enum r.ctorIdx ++ fig 4 (sat32 v) ++ fig 4 l ++ openFig .smallCount legs
      ++ openFig .ticks timer
  | .resumed t n k l legs => enum 6 ++ fig 2 t ++ num1 n ++ num1 k ++ fig 4 l ++ openFig .smallCount legs

def wantedBytes (g : GrantWanted) : List Byte :=
  fig 2 g.ticket ++ fig 2 g.fleet ++ num0 g.cls ++ g.name.toList ++ num1 g.nozzle ++ num1 g.tank
    ++ enum g.tier.ctorIdx ++ flag g.restricted ++ flag g.first ++ fig 4 (sat32 g.netSoFar) ++ fig 4 g.a
    ++ fig 4 g.b ++ fig 4 g.shortfall ++ openFig .ticks g.timer

def findingBytes (f : TankFinding) : List Byte :=
  enum f.outcome.ctorIdx ++ optEnum (f.cause.map (fun x => x.ctorIdx)) ++ optSfig 4 f.book
    ++ optSfig 4 (f.gauged.map (fun x => (x : Int))) ++ sfig 4 f.variance

def startedBytes (n : StartedNote) : List Byte :=
  enum (if n.cold then 0 else 1) ++ enum n.cause.ctorIdx ++ flag n.defaulted ++ word n.epoch ++ word n.shift
    ++ word n.nextSeq ++ openFig .smallCount n.interrupted

/-- R189: a channel's value: a temperature takes 2 bytes; no rule gives a level its width (log 9). -/
def channelValue (channel : Nat) (v : Option Int) : List Byte :=
  optSfig (if isLevelChannel channel then Config.openWidth .level else 2) v

/-- R164: the head entry's sequence number. JOURNAL_LEVEL is posted only while there is an entry; with none the field is
a free value (log 10). -/
def headBytes : Option Word32 → List Byte
  | some x => word x
  | none => bytesOf 4 (Config.unfitFigure 4 (-1))

/-- The fields of a notice, in the order its posting rule lists them; JOURNAL_LEVEL's two counts as wide as R194 has them:
DESIGN CHOICE (log 9). GRANT_CLOSED's 'limit set or refusal reason' is both fields, each absent where it has none, and
RECEIPT_RESULT's docket-used flag is a byte of its own before the three gauge flags: DESIGN CHOICE (log 49). -/
def noticeFields : NoticeBody → List Byte
  | .deliveryStage x => stageBytes x
  | .deliveryDone t q v o r =>
    fig 2 t ++ word q ++ fig 4 v ++ enum o.ctorIdx ++ optEnum (r.map (fun x => x.ctorIdx))
  | .holdStarted t c v l f => fig 2 t ++ enum c.ctorIdx ++ fig 4 (sat32 v) ++ fig 4 l ++ faultsByte f
  | .faultReplay t f n => fig 2 t ++ enum f.ctorIdx ++ num1 n
  | .grantWanted g => wantedBytes g
  | .grantClosed t o l r x =>
    fig 2 t ++ enum o.ctorIdx ++ optFig 4 l ++ optEnum (r.map (fun y => y.ctorIdx)) ++ optFig 4 x
  | .parkExpired t f r v => fig 2 t ++ fig 2 f ++ enum r.ctorIdx ++ fig 4 v
  | .meterFault c n => enum c.ctorIdx ++ num1 n
  | .probeState c st v => num0 c ++ enum st.ctorIdx ++ channelValue c.val v
  | .serviceState f l b o n x d c =>
    fig 2 f ++ fig 1 l ++ enum b.ctorIdx ++ lineStateByte o ++ lineStateByte n ++ fig 4 x ++ fig 8 d
      ++ enum c.ctorIdx
  | .restriction f r ls => fig 2 f ++ flag r ++ listOf (fun l => fig 1 l) ls
  | .hourAnomaly f k p b a e l q =>
    fig 2 f ++ enum k.ctorIdx ++ fig 4 p ++ fig 4 b ++ fig 4 a ++ optFig 4 e ++ optFig 4 l ++ num0 q
  | .tierChange t o n u => num1 t ++ enum o.ctorIdx ++ enum n.ctorIdx ++ sfig 4 u
  | .stockVariance f o =>
    num1 f.tank ++ enum f.outcome.ctorIdx ++ optEnum (f.cause.map (fun x => x.ctorIdx)) ++ enum o.ctorIdx
      ++ optSfig 4 f.book ++ optSfig 4 (f.gauged.map (fun x => (x : Int))) ++ sfig 4 f.variance ++ gaugeFlags f.flags
  | .receiptResult t o d r x u f =>
    num1 t ++ enum o.ctorIdx ++ fig 4 d ++ sfig 4 r ++ sfig 4 x ++ flag u ++ gaugeFlags f
  | .journalLevel k e r h => enum k.ctorIdx ++ fig 2 e ++ fig 1 r ++ headBytes h
  | .shiftRollover k t => word k ++ word t
  | .storeState f => flag f
  | .started n => startedBytes n

/-- R193: a notice: code, length of its fields, site time, fields. -/
def noticeBytes (n : Notice) : List Byte :=
  fig 1 n.body.kind.code ++ fig 1 (noticeFields n.body).length ++ word n.time ++ noticeFields n.body

/-! ### Journal entries (R194) -/

/-- R189, R194: a requested amount: presence 0, 1, or 2 for FILL. R189 has the value bytes of an absent figure sent as 0 and
says nothing of the four that follow presence 2. DESIGN CHOICE (log 51), unsafe: they are sent as 0 too. -/
def requestedBytes : Option Requested → List Byte
  | none => fig 1 0 ++ fig 4 0
  | some (.amount x) => fig 1 1 ++ fig 4 x
  | some .fill => fig 1 2 ++ fig 4 0

/-- R194: the flags of an entry. -/
def entryFlags (e : JournalEntry) : List Byte :=
  fig 1 (bit e.unverified 1 + bit e.substituted 2 + bit e.clamped 4 + bit e.restricted 8 + bit e.crossedShift 16)

def entryLegBytes (l : EntryLeg) : List Byte :=
  num1 l.meter ++ fig 4 l.gross ++ fig 4 l.net ++ sfig 2 l.avgTemp ++ legFlags l.substituted l.clamped

/-- R194: the entry, position by position. -/
def entryBytes (e : JournalEntry) : List Byte :=
  word e.seq ++ fig 2 e.ticket ++ fig 2 e.fleet ++ num1 e.product ++ num1 e.tank ++ num0 e.originPort
    ++ enum e.outcome.ctorIdx ++ optEnum (e.refusal.map (fun x => x.ctorIdx)) ++ entryFlags e ++ fig 4 e.totalGross
    ++ fig 4 e.totalNet ++ sfig 2 e.avgTemp ++ requestedBytes e.requested ++ fig 4 e.limit
    ++ optEnum (e.factor.map (fun x => x.ctorIdx)) ++ optFig 4 e.grantExtra ++ fig 4 e.overrun ++ word e.finishShift
    ++ word e.startTime ++ word e.finishTime ++ listOf entryLegBytes e.legs

/-! ### Machine records (R195) -/

def serviceLineBytes (l : ServiceLine) : List Byte :=
  fig 1 l.number ++ enum l.basis.ctorIdx ++ fig 4 l.interval ++ fig 4 l.lastDone ++ fig 4 l.warn ++ fig 4 l.grace
    ++ flag l.enforcing ++ optFig 4 l.waiver ++ enum l.state.ctorIdx ++ fig 8 (duePoint l)

/-- R195: the last post stamp: presence, epoch, site time. -/
def stampBytes : Option Stamp → List Byte
  | none => fig 1 0 ++ fig 4 0 ++ fig 4 0
  | some x => fig 1 1 ++ word x.epoch ++ word x.time

/-- R195: the record, position by position. -/
def recordBytes (slot : SlotId) (r : MachineRecord) : List Byte :=
  fig 2 slot.val ++ fig 2 r.fleet ++ num0 r.cls ++ flag r.stoodDown ++ num1 r.product ++ fig 4 r.capacity
    ++ word r.tag ++ fig 4 r.allowance ++ fig 4 r.used ++ word r.usageShift ++ fig 4 r.lifetimeFuel ++ fig 4 r.reading
    ++ fig 4 r.offset ++ fig 4 (lifetime r .hours) ++ stampBytes r.stamp ++ flag r.restricted ++ optFig 2 r.openTicket
    ++ listOf serviceLineBytes r.lines

/-! ### Status responses -/

def nozzleConfigBytes (c : NozzleConfig) : List Byte :=
  num0 c.owner ++ num1 c.tank ++ num0 c.channel ++ openFig .kFactor c.km ++ flag c.enabled

def timerBytes (t : Option Nat) : List Byte := optFig (Config.openWidth .ticks) t

/-- A step of the list NOZZLE_STATUS reports (R81). R190 gives the encoding of a step in a STEPS request only, and no rule
that of a step in a response. DESIGN CHOICE (log 52), unsafe: the step is sent as its request had it, an AUTH that asks for
FILL with the amount 0. -/
def stepBytes : Step → List Byte
  | .ident f t v => fig 1 1 ++ fig 2 f ++ word t ++ flag v
  | .auth (.amount x) => fig 1 2 ++ fig 4 x
  | .auth .fill => fig 1 2 ++ fig 4 0
  | .run a => fig 1 3 ++ fig 4 a
  | .hold => fig 1 4
  | .finish => fig 1 5

def figuresBytes (f : LegFigures) : List Byte :=
  num1 f.leg.meter ++ openFig .pulses f.leg.pulses ++ fig 4 (sat32 f.leg.gross) ++ fig 4 (sat32 f.leg.net)
    ++ legFlags f.leg.substituted f.leg.clamped ++ sfig 2 f.avgTemp ++ openFig .factor f.ctl

def waitBytes : Option WaitTerms → List Byte
  | none => fig 1 0
  | some w => fig 1 1 ++ fig 4 w.a ++ fig 4 w.b ++ enum w.name.ctorIdx ++ flag w.restricted ++ flag w.first

/-- R79: the delivery's fields, in the order of its table, as far as the refusal reason; the legs, which stand next in the
table, are sent once, with the figures R81 names last (log 38). R79 has the ticket absent in a LOADED context, so it is
an optional figure (R189). -/
def deliveryBytes (d : Delivery) : List Byte :=
  optFig 2 (some d.ticket) ++ num0 d.originPort ++ word d.startTime ++ word d.startShift ++ fig 2 d.fleet
    ++ optFig 1 (d.line.map (fun x => x.val)) ++ num1 d.tank ++ requestedBytes d.requested ++ fig 4 d.limit
    ++ optEnum (d.factor.map (fun x => x.ctorIdx)) ++ optFig 4 d.grantExtra ++ flag d.restrictedAtAuth
    ++ flag d.verified ++ optEnum (d.refusal.map (fun x => x.ctorIdx))

/-- R79: the same fields in a LOADED context: no ticket, cache line, requested amount, limiting factor, grant extra or
refusal reason, the limit 0, the flags clear, and in the fields that START and the IDENT step set free values (log 38). -/
def unsetDeliveryBytes : List Byte :=
  let unset (w : Nat) (k : Config.UnsetField) : List Byte := bytesOf w (Config.unsetField k)
  optFig 2 none ++ unset 1 .originPort ++ unset 4 .startTime ++ unset 4 .startShift ++ unset 2 .fleet ++ optFig 1 none
    ++ unset 1 .tank ++ requestedBytes none ++ fig 4 0 ++ optEnum none ++ optFig 4 none ++ flag false ++ flag false
    ++ optEnum none

/-- R79, R81: the step list and the pointer, which counts from 1 and is 0 with no list (log 38). -/
def listBytes (c : Context) : List Byte :=
  listOf stepBytes c.steps ++ openFig .pointer (if c.steps.isEmpty then 0 else c.pointer + 1)

/-- R79, R81, R117: a context's fields in the order of R79's table, then the wait terms. A FREE context shows its state
alone; a LOADED one shows every field, as it stands before START (log 38). -/
def contextBytes (c : Context) : List Byte :=
  let runBytes := listBytes c ++ fig 4 (sat32 c.segmentStart) ++ optEnum (c.endReason.map (fun x => x.ctorIdx))
    ++ enum c.move.ctorIdx
  let timers := timerBytes c.hold ++ timerBytes c.stall ++ timerBytes c.drain ++ timerBytes c.grant
  enum c.state.ctorIdx ++ (match c.delivery with
    | some d => deliveryBytes d ++ runBytes ++ faultsByte d.faults ++ timers ++ waitBytes d.wait
    | none =>
      if c.state = .free then []
      else unsetDeliveryBytes ++ runBytes ++ faultsByte FaultSet.none ++ timers ++ waitBytes none)

def meterBytes (m : Meter) : List Byte :=
  enum m.state.ctorIdx ++ flag m.proven ++ openFig .smallCount m.stray ++ openFig .smallCount m.creep
    ++ openFig .pulses m.count

/-- R50, R81: the leg figures and the running net, which a FREE context does not show; a LOADED one has no leg and the
net 0. -/
def legsBytes (r : NozzleReport) : List Byte :=
  if r.context.state = .free then [] else listOf figuresBytes r.figures ++ fig 4 (sat32 r.running)

/-- R81, in its order: static configuration, context, outputs as driven, meter figures, leg figures and running net. -/
def nozzleBytes (r : NozzleReport) : List Byte :=
  nozzleConfigBytes r.config ++ contextBytes r.context ++ flag r.fullFlow ++ flag r.slowFlow ++ meterBytes r.meter
    ++ legsBytes r

/-- R34: a channel's state, value or absence, and hold count. -/
def channelBytes (channel : Nat) (c : Channel) : List Byte :=
  enum c.state.ctorIdx ++ channelValue channel c.value ++ openFig .smallCount c.hold

/-- R76: the receipt record if one is open. R189 speaks of optional figures and not of records: an absent one is the
presence byte 0 alone, DEDUCED (log 31). -/
def receiptBytes : Option Receipt → List Byte
  | none => fig 1 0
  | some r =>
    fig 1 1 ++ fig 4 r.docket ++ sfig 4 r.gaugedAtOpen ++ fig 4 r.issued
      ++ gaugeFlags { substituted := r.substituted, overGauge := r.overGauge, clamped := r.clamped }

/-- R76, in its order; the level channels are 8 to 11 and the tank temperature channels 12 to 15. -/
def tankBytes (r : TankReport) : List Byte :=
  num1 r.config.product ++ flag r.config.enabled ++ fig 4 r.config.capacity ++ fig 4 r.config.floor
    ++ fig 4 r.config.tier1 ++ fig 4 r.config.tier2 ++ fig 4 r.config.reserve ++ fig 4 r.config.hysteresis
    ++ fig 4 r.config.tolerance ++ openFig .ticks r.config.startDelay ++ openFig .ticks r.config.runOn
    ++ optSfig 4 r.dynamic.book ++ optSfig 4 (r.dynamic.gauge.net.map (fun x => (x : Int)))
    ++ gaugeFlags r.dynamic.gauge.flags ++ sfig 4 r.usable ++ fig 4 r.ullage ++ enum r.dynamic.tier.ctorIdx
    ++ receiptBytes r.dynamic.receipt ++ enum r.dynamic.pump.state.ctorIdx ++ timerBytes r.dynamic.pump.timer
    ++ channelBytes 8 r.levelChannel ++ channelBytes 12 r.tempChannel

/-- R186, section 0. STARTING is 0 and READY 1; the stages of R185 are numbered from 0 (log 27). The counts of
entries and of reservations (R157) are as wide as R194 has them: DESIGN CHOICE (log 9). 'Shift' is the shift number, without
the ticks into the shift: DESIGN CHOICE (log 49). -/
def deviceBytes (r : DeviceReport) : List Byte :=
  flag (decide (r.startUp.stage = .ready)) ++ enum r.startUp.stage.ctorIdx ++ enum (if r.startUp.cold then 0 else 1)
    ++ enum r.startUp.cause.ctorIdx ++ flag r.startUp.defaulted ++ word r.siteTime ++ word r.shift ++ word r.epoch
    ++ flag r.faulted ++ openFig .smallCount r.failures ++ openFig .smallCount r.duplicates ++ openFig .smallCount r.unread
    ++ flag (decide (0 < r.unread)) ++ fig 2 r.entries ++ fig 1 r.reservations ++ optWord r.head ++ word r.nextSeq
    ++ openFig .smallCount r.threshold ++ flag r.full

/-- R7: EMPTY 0, FETCHING 1, CLEAN 2, DIRTY 3, WRITING 4. -/
def lineReportBytes (x : LineReport) : List Byte :=
  enum (match x.state with
      | some st => st.ctorIdx + 2
      | none => if x.fetching then 1 else 0)
    ++ flag x.pinned ++ optFig 2 x.fleet

/-- R135. -/
def slotReportBytes : SlotReport → List Byte
  | .empty => enum 0
  | .reserved n => enum 1 ++ num1 n
  | .holding p k v =>
    enum 2 ++ fig 2 p.delivery.ticket ++ fig 2 p.delivery.fleet ++ num1 k ++ num1 p.delivery.tank
      ++ num0 p.parkingPort ++ num1 p.nozzleLeft ++ enum p.reason.ctorIdx ++ word p.time ++ openFig .ticks p.timer
      ++ fig 4 (sat32 v) ++ fig 4 p.delivery.limit ++ openFig .smallCount p.delivery.legs.length
      ++ faultsByte p.delivery.faults

/-- R166. The request in hand is a presence byte and its request code, the number of notices is a byte, as R193 has it in
NEXT_NOTICE, and the attention line is a flag, 1 when asserted: DESIGN CHOICE (log 49). -/
def portReportBytes (x : PortReport) : List Byte :=
  enum x.role.ctorIdx ++ openFig .baud x.baud ++ (match x.inHand with
      | none => fig 1 0 ++ fig 1 0
      | some r => fig 1 1 ++ [r.code.byte])
    ++ fig 1 x.notices ++ flag x.lost ++ word x.mask ++ conditionsByte x.select ++ flag x.attention

/-! ### A configuration group (R182, R183)

R189 packs the fields of a group in the order R182 lists its contents and the tables it names list theirs (log 8). -/

def portConfigBytes (c : PortConfig) : List Byte := enum c.role.ctorIdx ++ openFig .baud c.baud

/-- R182: the delivery settings. -/
def deliverySettingsBytes (c : DeliverySettings) : List Byte :=
  fig 4 c.prestop ++ openFig .ticks c.stall ++ openFig .ticks c.drainSettle ++ openFig .ticks c.hold
    ++ openFig .ticks c.park ++ openFig .smallCount c.strayLimit ++ openFig .ticks c.creepWindow
    ++ openFig .smallCount c.creepLimit

def productConfigBytes (c : ProductConfig) : List Byte := openFig .coefficient c.alpha ++ sfig 2 c.defaultTemp

/-- R107. -/
def classConfigBytes (c : ClassConfig) : List Byte :=
  c.name.toList ++ flag c.essential ++ flag c.grantEligible ++ fig 4 c.ration ++ fig 4 c.defaultAllowance

/-- R108. -/
def authSettingsBytes (c : AuthSettings) : List Byte :=
  openFig .tierFactor c.tier1 ++ openFig .tierFactor c.tier2 ++ fig 4 c.minIssue ++ flag c.grantsEnabled
    ++ openFig .ticks c.grantTimer ++ enum c.policy.ctorIdx

/-- An end of a span, in its channel's unit. -/
def spanEnd (i : ChannelId) (v : Int) : List Byte :=
  sfig (if isLevelChannel i.val then Config.openWidth .level else 2) v

/-- R34, R36. -/
def probeConfigBytes (c : ProbeConfig) : List Byte :=
  allChannels.flatMap (fun i => spanEnd i (c.spans.read i).low ++ spanEnd i (c.spans.read i).high)
    ++ openFig .ticks c.divisor ++ openFig .smallCount c.holdLimit

/-- R55, R60: the static part of a tank, its strapping list a list of points, level then litres. -/
def tankConfigBytes (c : TankConfig) : List Byte :=
  num1 c.product ++ flag c.enabled ++ fig 4 c.capacity
    ++ listOf (fun x : StrapPoint => openFig .level x.level ++ fig 4 x.litres) c.strapping ++ fig 4 c.floor
    ++ fig 4 c.tier1 ++ fig 4 c.tier2 ++ fig 4 c.reserve ++ fig 4 c.hysteresis ++ fig 4 c.tolerance
    ++ openFig .ticks c.startDelay ++ openFig .ticks c.runOn

/-- R182: the groups, numbered from 0 in its order (log 8). Four tanks whose strapping lists are long do not fit the 200
bytes of R188: `fieldsWithin` says what is sent then (log 10). -/
def groupBytes (c : Configuration) : Nat → List Byte
  | 0 => c.ports.toList.flatMap portConfigBytes
  | 1 => c.nozzles.toList.flatMap nozzleConfigBytes
  | 2 => deliverySettingsBytes c.delivery
  | 3 => c.products.toList.flatMap productConfigBytes
  | 4 => c.classes.toList.flatMap classConfigBytes
  | 5 => authSettingsBytes c.authorisation
  | 6 => c.tanks.toList.flatMap tankConfigBytes
  | 7 => probeConfigBytes c.probes
  | 8 => fig 4 c.service.hourTolerance ++ openFig .smallCount c.service.journalThreshold
  | 9 => openFig .ticks c.time.shiftLength ++ word c.time.epoch
  | _ => []

/-! ### Responses (R187, R188) -/

/-- The fields of a response, in the order the rule of its request lists them. The counts of entries and of reservations
have the widths R194 gives them in JOURNAL_FETCH wherever they stand: DESIGN CHOICE (log 9). A line that SET_LINE has
removed is the presence byte 0 alone, and one that is there has the presence byte 1: DESIGN CHOICE (log 35). GRANT's 'new
limit or the reason' is both fields, each absent where it has none; the conditions of R176 are packed as the attention
selection is, and the attention line beside them is a flag, 1 when asserted; RECEIPT_CLOSE's docket-used flag is a byte of
its own before the three gauge flags; STOCK_ADJUST's new book, never UNKNOWN, has no presence byte: DESIGN CHOICE (log 49).
The sections of DEVICE_STATUS that hold one item for each line, slot, port, channel or meter, and the tables of a
configuration group, have no count byte: DEDUCED (log 31). -/
def payloadBytes : Payload → List Byte
  | .nothing => []
  | .ticket t => fig 2 t
  | .parkSlot k => optFig 1 (k.map (fun x => number x))
  | .resumed t f l legs st => fig 2 t ++ fig 2 f ++ fig 4 l ++ openFig .smallCount legs ++ enum st.ctorIdx
  | .grantDecision o l r f =>
    enum o.ctorIdx ++ optFig 4 l ++ optEnum (r.map (fun x => x.ctorIdx)) ++ enum f.ctorIdx
  | .journalHead e r _ none => fig 2 e ++ fig 1 r
  | .journalHead e r full (some x) => fig 2 e ++ fig 1 r ++ flag full ++ entryBytes x
  | .released h e r => optWord h ++ fig 2 e ++ fig 1 r
  | .stale h => optWord h
  | .enrolled k => fig 2 k.val
  | .machine k r => recordBytes k r
  | .hoursTaken p st l r => fig 4 p ++ fig 4 st ++ fig 4 l ++ flag r
  | .hoursHeld p st => fig 4 p ++ fig 4 st
  | .service l x r => (match l with
      | none => fig 1 0
      | some y => fig 1 1 ++ serviceLineBytes y) ++ fig 4 x ++ flag r
  | .receiptOpened g => sfig 4 g
  | .receiptClosed t o d r x u f b =>
    num1 t ++ enum o.ctorIdx ++ fig 4 d ++ sfig 4 r ++ sfig 4 x ++ flag u ++ gaugeFlags f ++ optSfig 4 b
  | .book b => sfig 4 b
  | .reconciled l => l.flatMap findingBytes -- the four tanks, always: no count byte, DEDUCED (log 31)
  | .configGroup g c e w => fig 1 g ++ groupBytes c g ++ word e ++ flag w
  -- ticks into the shift are 32-bit figures (the units table of 00_scope.md); no rule gives the shift length a width
  | .clockSet a b c d => word a ++ fig 4 b ++ word c ++ fig 4 d
  | .clock t e k i l => word t ++ word e ++ word k ++ fig 4 i ++ openFig .ticks l
  | .nozzle r => nozzleBytes r
  | .tank r => tankBytes r
  | .device r => deviceBytes r
  | .cache l => l.flatMap lineReportBytes
  | .parkTable l => l.flatMap slotReportBytes
  | .portTable l => l.flatMap portReportBytes
  | .probes c m => (c.zipIdx.flatMap fun x => channelBytes x.2 x.1) ++ m.flatMap (fun x => enum x.ctorIdx)
  | .notice l n none => flag l ++ fig 1 n
  | .notice l n (some x) => flag l ++ fig 1 n ++ noticeBytes x
  | .mask m => word m
  | .attention sel now line => (match sel with
      | none => []
      | some x => conditionsByte x) ++ conditionsByte now ++ (match line with
      | none => []
      | some x => flag x)

/-- R188: no response body exceeds 200 bytes: fields that would take more than 197 are a free value of at most so many
(log 10). -/
def fieldsWithin (l : List Byte) : List Byte := if l.length ≤ 197 then l else (Config.overlongFields l).take 197

/-- R187: a response body: request code + 0x80, master tag, status, fields. -/
def responseBody (r : Response) : List Byte :=
  [r.code, r.tag] ++ enum r.status.ctorIdx ++ fieldsWithin (payloadBytes r.payload)

/-- R188: one bit of the CRC. -/
def crcBit (c : BitVec 16) (_ : Nat) : BitVec 16 := if c.msb then (c <<< 1) ^^^ 0x1021 else c <<< 1

/-- R188: one byte of the CRC, most significant bit first. -/
def crcByte (c : BitVec 16) (b : Byte) : BitVec 16 :=
  [0, 1, 2, 3, 4, 5, 6, 7].foldl crcBit (c ^^^ (b.setWidth 16 <<< 8))

/-- R188: the CRC: generator 0x1021, initial value 0xFFFF, no final inversion. -/
def crc (l : List Byte) : BitVec 16 := l.foldl crcByte 0xFFFF

/-- R187: a frame around a body. -/
def frame (body : List Byte) : List Byte :=
  let covered := fig 1 body.length ++ body
  0x5A :: covered ++ fig 2 (crc covered).toNat

/-- R169: what a port transmits: the frame of the response at the head of its line. -/
def State.wire (s : State) (p : Port) : Option (List Byte) :=
  (s.port p).line.head?.map (fun r => frame (responseBody r))

end Sys2Proof.Machine
end

