-- ==== Sys2Proof/Machine/PortEvents.lean ====
section
/-! DEFINITION. Machine/PortEvents.lean: the events of a serial line that are not a request: frames refused before their
code is read, the frame timer, the end of a response, a line break (R167 to R169, R177). -/

namespace Sys2Proof.Machine

/-! ### Frames refused by R168's first three tests -/

/-- R168: a frame whose CRC does not match is answered BAD_FRAME, echoing the two bytes as received. -/
def State.reqBadFrame (p : Port) (code tag : Byte) (s : State) : State :=
  s.takeFrame p fun x => x.refuseFrame p code tag .badFrame

/-- BAD_FRAME (R168). -/
def execBadFrame (p : Port) (code tag : Byte) (s : State) : Host.Outcome State Fault Refusal :=
  s.event (State.reqBadFrame p code tag)

/-- R168: an unknown code behind a request in hand is PORT_BUSY, else UNKNOWN_REQUEST. -/
def State.reqUnknown (p : Port) (code tag : Byte) (s : State) : State :=
  s.takeFrame p fun x =>
    if (x.port p).inHand.isSome then x.refuseFrame p code tag .portBusy
    else x.refuseFrame p code tag .unknownRequest

/-- UNKNOWN_REQUEST (R168). -/
def execUnknownRequest (p : Port) (code tag : Byte) (s : State) : Host.Outcome State Fault Refusal :=
  s.event (State.reqUnknown p code tag)

/-! ### The frame timer (R167) -/

/-- R167: a frame whose timer has run out is discarded. -/
def expiredFrame (x : PortState) : PortState :=
  match x.assembler with
  | .assembling _ 0 => { x with assembler := .idle }
  | .assembling _ (_ + 1) => x
  | .idle => x

/-- FRAME_TIMER_EXPIRY (R167). -/
def execFrameTimerExpiry (p : Port) (s : State) : Host.Outcome State Fault Refusal :=
  s.event fun x => x.modPort p expiredFrame

/-! ### The end of a response (R169, R184) -/

/-- R184: the OK response to INITIALISE. -/
def isInitialiseOk (r : Response) : Bool :=
  decide (r.code = responseCode ReqCode.initialise.byte) && decide (r.status = .ok)

/-- R169: the response at the head of the line has been transmitted; after INITIALISE's the part is to reset. -/
def State.sent (s : State) (p : Port) : State :=
  match (s.port p).line with
  | [] => s
  | r :: rest =>
    let s1 := (s.modPort p fun x => { x with line := rest }).takeBaud p
    if isInitialiseOk r then { s1 with power := { s1.power with initialiseDue := true } } else s1

/-- RESPONSE_SENT (R169). -/
def execResponseSent (p : Port) (s : State) : Host.Outcome State Fault Refusal :=
  s.event fun x => x.sent p

/-! ### Line break (R25, R177) -/

/-- Whether an operation is the ERASE of a port's WITHDRAW. -/
def StoreOp.askedBy (p : Port) : StoreOp → Bool
  | .erase _ a => decide (a = some p)
  | .fetch _ _ _ => false
  | .write _ _ => false
  | .headerRead _ _ => false
  | .configRead _ => false
  | .configWrite => false

/-- R25: an ERASE in flight whose port has been reset reaches no one. -/
def orphaned (p : Port) (x : InFlight) : InFlight :=
  match x.op with
  | .erase k a => if a = some p then { x with op := .erase k none } else x
  | .fetch _ _ _ => x
  | .write _ _ => x
  | .headerRead _ _ => x
  | .configRead _ => x
  | .configWrite => x

/-- R25: the slot of a queued ERASE that is removed is USED again. -/
def State.reclaim (p : Port) (s : State) (op : StoreOp) : State :=
  match op with
  | .erase k a => if a = some p then s.setSlotState k .used else s
  | .fetch _ _ _ => s
  | .write _ _ => s
  | .headerRead _ _ => s
  | .configRead _ => s
  | .configWrite => s

/-- R25: a port's request in hand withdrawn from whatever it waits on in the machine table unit. -/
def State.withdrawPort (s : State) (p : Port) : State :=
  let s1 := s.withdrawRequester (.port p)
  (s1.table.queue.foldl (State.reclaim p) s1).modTable fun t =>
    { t with queue := t.queue.filter (fun op => !op.askedBy p), inFlight := t.inFlight.map (orphaned p) }

/-- R177: the port's own state after a line break, its line low; its role, baud rate, mask and selection are kept. -/
def brokenPort (x : PortState) : PortState :=
  { x with receive := .low, assembler := .idle, inHand := none, line := [], notices := [], lost := false, attention := false }

/-- R177: a line break: the receive line found low at two ticks running. A port whose line has not returned high since
its last break is reset no further; that the line is still low is noted (log 23). -/
def State.lineBreak (s : State) (p : Port) : State :=
  if (s.port p).receive = .high then ((s.withdrawPort p).modPort p brokenPort).takeBaud p
  else s.modPort p fun x => { x with receive := .low }

/-- PORT_RESET (R177). It is carried out before the configuration is loaded too, when a port receives nothing (R178):
DESIGN CHOICE (log 23). -/
def execPortReset (p : Port) (s : State) : Host.Outcome State Fault Refusal := s.event fun x => x.lineBreak p

end Sys2Proof.Machine
end

