-- ==== Sys2Proof/Machine/Settings.lean ====
section
/-! DEFINITION. Machine/Settings.lean: CONFIG_SET and CONFIG_READ (R183), with what each changed setting does (R32, R36,
R39, R61, R180). -/

namespace Sys2Proof.Machine

/-! ### The refusals of a CONFIG_SET (R61, R183) -/

/-- R61: whether an open delivery, at a nozzle or parked, records a tank. -/
def State.openOn (s : State) (t : TankId) : Bool :=
  allNozzles.any (fun n => (s.ctx n).state.isOpen && decide ((s.delivery n).tank = t))
    || allSlots.any (fun k => match s.slot k with
      | .holding p => decide (p.delivery.tank = t)
      | .reserved _ => false
      | .empty => false)

/-- R183: a change of a nozzle whose context is not FREE, or of the product or enabling of a tank in use. -/
def State.configBusy (s : State) (c : Configuration) : Bool :=
  allNozzles.any (fun n => !decide (c.nozzles.read n = s.nozzleConfig n) && !decide ((s.ctx n).state = .free))
    || allTanks.any (fun t =>
      (!decide ((c.tanks.read t).product = (s.tankConfig t).product)
        || !decide ((c.tanks.read t).enabled = (s.tankConfig t).enabled)) && s.openOn t)

/-- R183: a change of the strapping, product or enabling of a tank with an open receipt. -/
def State.configReceipt (s : State) (c : Configuration) : Bool :=
  allTanks.any fun t =>
    (!decide ((c.tanks.read t).product = (s.tankConfig t).product)
      || !decide ((c.tanks.read t).enabled = (s.tankConfig t).enabled)
      || !decide ((c.tanks.read t).strapping = (s.tankConfig t).strapping)) && (s.tank t).receipt.isSome

/-! ### What an accepted change does at once -/

/-- R32: a written K_m clears the proven flag, even when it is the value it was. -/
def State.kmWritten (q : Tab NozzlePatch 8) (s : State) (n : NozzleId) : State :=
  if (q.read n).km.isSome then s.modMeter n fun m => { m with proven := false } else s

/-- R36: a channel becomes UNSETTLED; a span change removes its value. -/
def unsettled (spanWritten : Bool) (c : Channel) : Channel :=
  { state := .unsettled, value := if spanWritten then none else c.value, hold := 0, settle := 0 }

/-- R36, R39: one channel at a change of the probes group; leaving FAILED posts PROBE_STATE. -/
def State.probesWritten (q : ProbePatch) (s : State) (i : ChannelId) : State :=
  let span := (q.spans.read i).low.isSome || (q.spans.read i).high.isSome
  if span || q.divisor.isSome then
    let old := s.channel i
    let s1 : State :=
      { s with scanner := { s.scanner with channels := s.scanner.channels.write i (unsettled span old) } }
    if old.state = .failed then s1.postRole .workshop (.probeState i .unsettled none) else s1
  else s

/-- R36: the scan timer is loaded with a written divisor at once. -/
def State.divisorWritten (q : ProbePatch) (s : State) : State :=
  match q.divisor with
  | some d => { s with scanner := { s.scanner with timer := d } }
  | none => s

/-- R61: one tank at a change of its static part, `old` being the part it had. -/
def State.tankWritten (old : Tab TankConfig 4) (s : State) (t : TankId) : State :=
  let a := old.read t
  let b := s.tankConfig t
  if a.enabled ∧ !b.enabled then s.modTank t fun k => { k with gauge := invalidGauge, pump := stoppedPump }
  else if b.enabled ∧ (!a.enabled ∨ a.tier1 ≠ b.tier1 ∨ a.tier2 ≠ b.tier2 ∨ a.reserve ≠ b.reserve
      ∨ a.floor ≠ b.floor ∨ a.hysteresis ≠ b.hysteresis) then s.evaluateTank t
  else s

/-- R180: a changed shift length leaves a rollover due only if the ticks already counted reach it. -/
def State.shiftWritten (s : State) : State :=
  { s with clock := { s.clock with
      rolloverDue := s.clock.rolloverDue && decide (s.config.time.shiftLength ≤ s.clock.ticks) } }

/-- R183: the working copy replaced, and each changed setting taking effect where its own rule says. Several FAILED channels
that become UNSETTLED together post their PROBE_STATE in ascending channel number: DESIGN CHOICE (log 42). Several tanks
written together are dealt with in the order T1 to T4: DESIGN CHOICE (log 47). -/
def State.configChanged (s : State) (g : ConfigChange) (c : Configuration) : State :=
  let s1 : State := { s with config := c }
  match g with
  | .ports _ => allPorts.foldl State.takeBaud s1
  | .nozzles q => allNozzles.foldl (State.kmWritten q) s1
  | .probes q => State.divisorWritten q (allChannels.foldl (State.probesWritten q) s1)
  | .tanks _ => allTanks.foldl (State.tankWritten s.config.tanks) s1
  | .time _ => s1.shiftWritten
  | .delivery _ => s1
  | .products _ => s1
  | .classes _ => s1
  | .authorisation _ => s1
  | .service _ => s1

/-- R183: an accepted change: it takes effect, its CONFIG_WRITE is queued, and the request waits for that write; while
the store interface is FAULTED it is answered STORE_FAULT and the write waits. Where it changes the asking port's own
baud rate, the response line being empty, the new rate is taken first and that STORE_FAULT goes at it: DESIGN CHOICE
(log 32). -/
def State.acceptConfig (s : State) (p : Port) (tag : Byte) (g : ConfigChange) (c : Configuration) : State :=
  let s1 := s.configChanged g c
  if s1.table.faulted then s1.queueConfigWrite.reply p .configSet tag .storeFault .nothing
  else (s1.takeInHand p tag (.configSet false)).queueConfigWrite

/-- R183: the refusals of a CONFIG_SET are tested in the order BAD_FIELD, NOZZLE_BUSY, RECEIPT_OPEN: DESIGN CHOICE
(log 45). -/
def State.reqConfigSet (p : Port) (tag : Byte) (g : ConfigChange) (s : State) : State :=
  s.admission p .configSet tag none fun x =>
    match applyChange g x.config with
    | none => x.badField p .configSet tag
    | some c =>
      if x.configBusy c then x.reply p .configSet tag .nozzleBusy .nothing
      else if x.configReceipt c then x.reply p .configSet tag .receiptOpen .nothing
      else x.acceptConfig p tag g c

/-- CONFIG_SET (R183). -/
def execConfigSet (p : Port) (tag : Byte) (g : ConfigChange) (s : State) : Host.Outcome State Fault Refusal :=
  s.event (State.reqConfigSet p tag g)

def State.reqConfigRead (p : Port) (tag : Byte) (group : Nat) (s : State) : State :=
  s.admission p .configRead tag none fun x =>
    if group < 10 then
      x.reply p .configRead tag .ok (.configGroup group x.config x.config.time.epoch x.configWritePending)
    else x.badField p .configRead tag

/-- CONFIG_READ (R183). -/
def execConfigRead (p : Port) (tag : Byte) (group : Nat) (s : State) : Host.Outcome State Fault Refusal :=
  s.event (State.reqConfigRead p tag group)

end Sys2Proof.Machine
end

