-- ==== Sys2Proof/Machine/Workshop.lean ====
section
/-! DEFINITION. Machine/Workshop.lean: the requests of the WORKSHOP row (R170) that maintain machines (chapters 1 and 8),
tanks (chapter 4), the store, the clock, and INITIALISE. CONFIG_SET and CONFIG_READ stand in Machine/Settings.lean. -/

namespace Sys2Proof.Machine

/-! ### Machines (R17 to R21) -/

def State.reqEnrol (p : Port) (tag : Byte) (f : EnrolFields) (s : State) : State :=
  s.admission p .enrol tag none fun x =>
    if enrolOk f then ((x.takeInHand p tag (.enrol f)).tryEnrol p f).cameIntoLine f.fleet
    else x.badField p .enrol tag

/-- ENROL (R17). -/
def execEnrol (p : Port) (tag : Byte) (f : EnrolFields) (s : State) : Host.Outcome State Fault Refusal :=
  s.event (State.reqEnrol p tag f)

def State.reqWithdraw (p : Port) (tag : Byte) (fleet : Nat) (s : State) : State :=
  s.admission p .withdraw tag none fun x => (x.takeInHand p tag (.withdraw fleet)).tryWithdraw p fleet

/-- WITHDRAW (R18). -/
def execWithdraw (p : Port) (tag : Byte) (fleet : Nat) (s : State) : Host.Outcome State Fault Refusal :=
  s.event (State.reqWithdraw p tag fleet)

def State.reqMachineSet (p : Port) (tag : Byte) (fleet : Nat) (q : MachinePatch) (s : State) : State :=
  s.admission p .machineSet tag none fun x =>
    if machinePatchOk q then x.askInHand p tag fleet (.machineSet fleet q) else x.badField p .machineSet tag

/-- MACHINE_SET (R19). -/
def execMachineSet (p : Port) (tag : Byte) (fleet : Nat) (q : MachinePatch) (s : State) :
    Host.Outcome State Fault Refusal :=
  s.event (State.reqMachineSet p tag fleet q)

def State.reqStandDown (p : Port) (tag : Byte) (fleet : Nat) (s : State) : State :=
  s.admission p .standDown tag none fun x => x.askInHand p tag fleet (.standDown fleet)

/-- STAND_DOWN (R20). -/
def execStandDown (p : Port) (tag : Byte) (fleet : Nat) (s : State) : Host.Outcome State Fault Refusal :=
  s.event (State.reqStandDown p tag fleet)

def State.reqReturn (p : Port) (tag : Byte) (fleet : Nat) (s : State) : State :=
  s.admission p .returnMachine tag none fun x => x.askInHand p tag fleet (.returnMachine fleet)

/-- RETURN (R20). -/
def execReturn (p : Port) (tag : Byte) (fleet : Nat) (s : State) : Host.Outcome State Fault Refusal :=
  s.event (State.reqReturn p tag fleet)

def State.reqRebuild (p : Port) (tag : Byte) (f : RebuildFields) (s : State) : State :=
  s.admission p .rebuild tag none fun x =>
    ((x.takeInHand p tag (.rebuild f)).tryRebuild p f).cameIntoLine f.fleet

/-- REBUILD (R21, R153). -/
def execRebuild (p : Port) (tag : Byte) (f : RebuildFields) (s : State) : Host.Outcome State Fault Refusal :=
  s.event (State.reqRebuild p tag f)

/-! ### Service lines (R148 to R152) -/

def State.reqSetLine (p : Port) (tag : Byte) (fleet : Nat) (f : LineFields) (s : State) : State :=
  s.admission p .setLine tag none fun x =>
    if (setLineOf f).isSome then x.askInHand p tag fleet (.setLine fleet f) else x.badField p .setLine tag

/-- SET_LINE with a line's fields (R151). -/
def execSetLine (p : Port) (tag : Byte) (fleet : Nat) (f : LineFields) (s : State) :
    Host.Outcome State Fault Refusal :=
  s.event (State.reqSetLine p tag fleet f)

/-- A service line number 1 to 4. -/
def lineNumberOk (n : Nat) : Bool := decide (1 ≤ n ∧ n ≤ 4)

def State.reqSetLineRemove (p : Port) (tag : Byte) (fleet line : Nat) (s : State) : State :=
  s.admission p .setLine tag none fun x =>
    if lineNumberOk line then x.askInHand p tag fleet (.setLineRemove fleet line) else x.badField p .setLine tag

/-- SET_LINE with REMOVE (R152). -/
def execSetLineRemove (p : Port) (tag : Byte) (fleet line : Nat) (s : State) : Host.Outcome State Fault Refusal :=
  s.event (State.reqSetLineRemove p tag fleet line)

def State.reqServiceDone (p : Port) (tag : Byte) (fleet line reading : Nat) (s : State) : State :=
  s.admission p .serviceDone tag none fun x =>
    if lineNumberOk line && decide (reading ≤ maxWord) then
      x.askInHand p tag fleet (.serviceDone fleet line reading)
    else x.badField p .serviceDone tag

/-- SERVICE_DONE (R149). -/
def execServiceDone (p : Port) (tag : Byte) (fleet line reading : Nat) (s : State) :
    Host.Outcome State Fault Refusal :=
  s.event (State.reqServiceDone p tag fleet line reading)

def State.reqWaiver (p : Port) (tag : Byte) (fleet line extension : Nat) (s : State) : State :=
  s.admission p .waiver tag none fun x =>
    if lineNumberOk line && decide (extension ≤ maxWord) then
      x.askInHand p tag fleet (.waiver fleet line extension)
    else x.badField p .waiver tag

/-- WAIVER (R150). -/
def execWaiver (p : Port) (tag : Byte) (fleet line extension : Nat) (s : State) : Host.Outcome State Fault Refusal :=
  s.event (State.reqWaiver p tag fleet line extension)

def State.reqMeterChange (p : Port) (tag : Byte) (fleet oldFinal newReading : Nat) (s : State) : State :=
  s.admission p .meterChange tag none fun x =>
    if readingOk oldFinal && readingOk newReading then
      x.askInHand p tag fleet (.meterChange fleet oldFinal newReading)
    else x.badField p .meterChange tag

/-- METER_CHANGE (R148). -/
def execMeterChange (p : Port) (tag : Byte) (fleet oldFinal newReading : Nat) (s : State) :
    Host.Outcome State Fault Refusal :=
  s.event (State.reqMeterChange p tag fleet oldFinal newReading)

/-! ### Tanks (R70 to R75) -/

/-- R70: the receipt a RECEIPT_OPEN makes. -/
def openedReceipt (docket gauged : Nat) (g : Gauge) : Receipt :=
  { docket := docket, gaugedAtOpen := gauged, issued := 0, substituted := g.substituted, overGauge := g.overGauge,
    clamped := g.clamped }

/-- R70, in that rule's order of testing. -/
def State.openReceipt (s : State) (p : Port) (tag : Byte) (docket : Nat) (t : TankId) : State :=
  let c := s.tankConfig t
  let k := s.tank t
  if !c.enabled ∨ docket = 0 ∨ 1000000000 < docket then s.badField p .receiptOpen tag
  else if k.receipt.isSome then s.reply p .receiptOpen tag .receiptOpen .nothing
  else
    match k.gauge.net with
    | none => s.reply p .receiptOpen tag .gaugeInvalid .nothing
    | some g =>
      if c.capacity < g + docket then s.badField p .receiptOpen tag
      else
        (s.modTank t fun x => { x with receipt := some (openedReceipt docket g x.gauge) }).reply p .receiptOpen tag
          .ok (.receiptOpened g)

def State.reqReceiptOpen (p : Port) (tag : Byte) (tank docket : Nat) (s : State) : State :=
  s.admission p .receiptOpen tag none fun x => x.withTank p .receiptOpen tag tank (x.openReceipt p tag docket)

/-- RECEIPT_OPEN (R70). -/
def execReceiptOpen (p : Port) (tag : Byte) (tank docket : Nat) (s : State) : Host.Outcome State Fault Refusal :=
  s.event (State.reqReceiptOpen p tag tank docket)

/-- R71. -/
def State.closeReceipt (s : State) (p : Port) (tag : Byte) (t : TankId) : State :=
  let k := s.tank t
  match k.receipt with
  | none => s.badField p .receiptClose tag
  | some r =>
    let got := r.received k.gauge.net
    let diff := got - (r.docket : Int)
    let used := k.gauge.net.isNone
    let flags := r.closingFlags k.gauge
    let book := k.book.map (fun b => satBook (b + got))
    let s1 := s.modTank t fun x => { x with book := book, receipt := none }
    ((s1.postOffice (.receiptResult t .closed r.docket got diff used flags)).reply p .receiptClose tag .ok
      (.receiptClosed t .closed r.docket got diff used flags book)).evaluateTank t

def State.reqReceiptClose (p : Port) (tag : Byte) (tank : Nat) (s : State) : State :=
  s.admission p .receiptClose tag none fun x => x.withTank p .receiptClose tag tank (x.closeReceipt p tag)

/-- RECEIPT_CLOSE (R71). -/
def execReceiptClose (p : Port) (tag : Byte) (tank : Nat) (s : State) : Host.Outcome State Fault Refusal :=
  s.event (State.reqReceiptClose p tag tank)

/-- R75. -/
def State.adjustStock (s : State) (p : Port) (tag : Byte) (amount : Int) (t : TankId) : State :=
  if amount < -1000000000 ∨ 1000000000 < amount then s.badField p .stockAdjust tag
  else if (s.tank t).receipt.isSome then s.reply p .stockAdjust tag .receiptOpen .nothing
  else
    let b := adjusted (s.tank t).book amount
    ((s.modTank t fun x => { x with book := some b }).reply p .stockAdjust tag .ok (.book b)).evaluateTank t

def State.reqStockAdjust (p : Port) (tag : Byte) (tank : Nat) (amount : Int) (s : State) : State :=
  s.admission p .stockAdjust tag none fun x => x.withTank p .stockAdjust tag tank (x.adjustStock p tag amount)

/-- STOCK_ADJUST (R75). -/
def execStockAdjust (p : Port) (tag : Byte) (tank : Nat) (amount : Int) (s : State) :
    Host.Outcome State Fault Refusal :=
  s.event (State.reqStockAdjust p tag tank amount)

def State.reqReconcile (p : Port) (tag : Byte) (s : State) : State :=
  s.admission p .reconcile tag none fun x =>
    (x.reconcileAll .request).reply p .reconcile tag .ok (.reconciled (allTanks.map x.finding))

/-- RECONCILE (R73, R74). -/
def execReconcile (p : Port) (tag : Byte) (s : State) : Host.Outcome State Fault Refusal :=
  s.event (State.reqReconcile p tag)

/-! ### The store, the clock, INITIALISE (R16, R180, R184) -/

/-- R16: a FAULTED interface returned to READY. -/
def State.storeRetry (s : State) : State :=
  if s.table.faulted then
    (s.modTable fun t => { t with faulted := false, failures := 0 }).postAll (.storeState false)
  else s

def State.reqStoreRetry (p : Port) (tag : Byte) (s : State) : State :=
  s.admission p .storeRetry tag none fun x => x.storeRetry.reply p .storeRetry tag .ok .nothing

/-- STORE_RETRY (R16). -/
def execStoreRetry (p : Port) (tag : Byte) (s : State) : Host.Outcome State Fault Refusal :=
  s.event (State.reqStoreRetry p tag)

/-- R180: the shift number and the ticks into the shift replaced. -/
def State.setClock (s : State) (shift : Word32) (ticks : Nat) : State :=
  { s with clock := { s.clock with shift := shift, ticks := ticks, rolloverDue := false } }

def State.reqClockSet (p : Port) (tag : Byte) (shift : Word32) (ticks : Nat) (s : State) : State :=
  s.admission p .clockSet tag none fun x =>
    if x.config.time.shiftLength ≤ ticks then x.badField p .clockSet tag
    else
      (x.setClock shift ticks).reply p .clockSet tag .ok (.clockSet x.clock.shift x.clock.ticks shift ticks)

/-- CLOCK_SET (R180). -/
def execClockSet (p : Port) (tag : Byte) (shift : Word32) (ticks : Nat) (s : State) :
    Host.Outcome State Fault Refusal :=
  s.event (State.reqClockSet p tag shift ticks)

def State.reqInitialise (p : Port) (tag : Byte) (s : State) : State :=
  s.admission p .initialise tag none fun x => x.reply p .initialise tag .ok .nothing

/-- INITIALISE (R184): answered OK; the reset follows its transmission (RESPONSE_SENT, INITIALISE_RESET). -/
def execInitialise (p : Port) (tag : Byte) (s : State) : Host.Outcome State Fault Refusal :=
  s.event (State.reqInitialise p tag)

end Sys2Proof.Machine
end

