-- ==== Sys2Proof/Machine/Bytes.lean ====
section
/-! DEFINITION. Machine/Bytes.lean: the frame assembler byte by byte (R167), and a complete frame read as the request it
carries (R168, R187 to R191). A request read from bytes has the very effect its own command has. -/

namespace Sys2Proof.Machine

/-! ### Reading fields (R189) -/

/-- A number from bytes, most significant first. -/
def numberOf (l : List Byte) : Nat := l.foldl (fun a b => a * 256 + b.toNat) 0

/-- R189: a signed number in two's complement, of the width of its bytes. -/
def signedOf (l : List Byte) : Int :=
  let v := numberOf l
  if 2 * v < 256 ^ l.length then (v : Int) else (v : Int) - (256 ^ l.length : Nat)

/-- A 32-bit figure. -/
def wordOf (l : List Byte) : Word32 := BitVec.ofNat 32 (numberOf l)

/-- The bytes of fields of given widths; none when the body is longer or shorter. -/
def splitFields : List Nat → List Byte → Option (List (List Byte))
  | [], [] => some []
  | [], _ :: _ => none
  | w :: ws, l =>
    if l.length < w then none
    else
      match splitFields ws (l.drop w) with
      | some xs => some (l.take w :: xs)
      | none => none

/-- An optional figure: presence 0 or 1, then its value; none for any other presence byte. -/
def optOf (presence value : List Byte) : Option (Option Nat) :=
  if numberOf presence = 0 then some none
  else if numberOf presence = 1 then some (some (numberOf value))
  else none

/-! ### STEPS (R190, R191) -/

/-- R190, R191: the bytes a step takes by its kind byte. -/
def stepSize (kind : Nat) : Nat :=
  if kind = 1 then 8 else if kind = 2 then 5 else if kind = 3 then 5 else 1

/-- R190: a step from its bytes. -/
def rawStepOf (l : List Byte) : RawStep :=
  let kind := numberOf (l.take 1)
  if kind = 1 then .ident (numberOf ((l.drop 1).take 2)) (wordOf ((l.drop 3).take 4)) (numberOf ((l.drop 7).take 1))
  else if kind = 2 then .auth (numberOf ((l.drop 1).take 4))
  else if kind = 3 then .run (numberOf ((l.drop 1).take 4))
  else if kind = 4 then .hold
  else if kind = 5 then .finish
  else .other kind

/-- R191: the steps of a body read one by one up to the count; none when the length differs. -/
def rawSteps : Nat → List Byte → Option (List RawStep)
  | 0, [] => some []
  | 0, _ :: _ => none
  | _ + 1, [] => none
  | n + 1, k :: rest =>
    let w := stepSize k.toNat
    if (k :: rest).length < w then none
    else
      match rawSteps n ((k :: rest).drop w) with
      | some xs => some (rawStepOf ((k :: rest).take w) :: xs)
      | none => none

/-! ### REBUILD's lines (R195) -/

/-- R195: a service line of a REBUILD. -/
def rebuildLineFrom (l : List Byte) : Option RebuildLine :=
  match splitFields [1, 1, 4, 4, 4, 4, 1, 1, 4] l with
  | some [n, b, i, d, w, g, e, p, x] =>
    (optOf p x).map fun v =>
      { number := numberOf n, basis := numberOf b, interval := numberOf i, lastDone := numberOf d,
        warn := numberOf w, grace := numberOf g, enforcing := numberOf e, waiver := v }
  | _ => none

/-- R195: the lines of a REBUILD, 24 bytes each, and what follows them. -/
def rebuildLinesFrom : Nat → List Byte → Option (List RebuildLine × List Byte)
  | 0, l => some ([], l)
  | n + 1, l =>
    match rebuildLineFrom (l.take 24), rebuildLinesFrom n (l.drop 24) with
    | some x, some y => some (x :: y.1, y.2)
    | _, _ => none

/-- R21, R195: the fields of a REBUILD. R21 names the machine state, ACTIVE or STOOD_DOWN, in its account of the record
and not in its list of fields: it is read as one byte after the lines, the last of the body, DEDUCED (log 31). -/
def rebuildFrom (l : List Byte) : Option RebuildFields :=
  match splitFields [2, 1, 1, 4, 4, 4, 4, 4, 4, 4, 1] (l.take 33), rebuildLinesFrom (numberOf ((l.drop 32).take 1)) (l.drop 33) with
  | some [f, c, p, cap, t, a, r, u, lf, o, _], some (ls, [st]) =>
    some { fleet := numberOf f, cls := numberOf c, product := numberOf p, capacity := numberOf cap, tag := wordOf t,
           allowance := numberOf a, reading := numberOf r, used := numberOf u, lifetimeFuel := numberOf lf,
           offset := numberOf o, lines := ls, state := st.toNat }
  | _, _ => none

/-! ### CONFIG_SET (R183)

R183 names a group and gives new values for any of its fields; R189 packs them in the order R182 lists them, each optional:
a figure or a list with its presence byte, an enumeration 0xFF when it is absent (log 8). -/

/-- A reading of the front of a body: what it finds and the bytes that follow, none for a body too short or of another
form. -/
abbrev Reader (α : Type) := StateT (List Byte) Option α

/-- The next bytes of a body. -/
def nextBytes (w : Nat) : Reader (List Byte) := fun l => if l.length < w then none else some (l.take w, l.drop w)

/-- An optional field of a width: presence 0 or 1, then its value bytes. -/
def optField {α : Type} (w : Nat) (value : List Byte → α) : Reader (Option α) := do
  let presence ← nextBytes 1
  let v ← nextBytes w
  match optOf presence v with
  | some x => return x.map fun _ => value v
  | none => failure

/-- An optional unsigned figure. -/
def optNat (w : Nat) : Reader (Option Nat) := optField w numberOf

/-- An optional enumeration. -/
def optCode : Reader (Option Nat) := do
  let v ← nextBytes 1
  return if numberOf v = 255 then none else some (numberOf v)

/-- The same fields for each entry of a table, in order. -/
def readTab {α : Type} (r : Reader α) : (n : Nat) → Reader (Tab α n)
  | 0 => return #v[]
  | n + 1 => do
    let v ← readTab r n
    let x ← r
    return v.push x

/-- A body that is read to its end. -/
def whole {α : Type} (r : Reader α) (l : List Byte) : Option α :=
  match r.run l with
  | some (x, []) => some x
  | some (_, _ :: _) => none
  | none => none

/-- A number of items, one after another. -/
def readItems {α : Type} (r : Reader α) : Nat → Reader (List α)
  | 0 => return []
  | k + 1 => do
    let x ← r
    let xs ← readItems r k
    return x :: xs

/-- R189: a list, read at the count its count byte carries. -/
def readList {α : Type} (r : Reader α) : Reader (List α) := do
  let count ← nextBytes 1
  readItems r (numberOf count)

/-- An optional list: presence 0 or 1, then the list, which is sent whatever the presence (log 8). -/
def optList {α : Type} (r : Reader α) : Reader (Option (List α)) := do
  let presence ← nextBytes 1
  let l ← readList r
  match optOf presence [] with
  | some x => return x.map fun _ => l
  | none => failure

/-- The four bytes of a class name (R107). -/
def nameFrom (l : List Byte) : Tab Byte 4 := Vector.ofFn fun i => l.getD i.val 0

def portPatch : Reader PortPatch := do
  return { role := ← optCode, baud := ← optNat (Config.openWidth .baud) }

def nozzlePatch : Reader NozzlePatch := do
  return { owner := ← optNat 1, tank := ← optNat 1, channel := ← optNat 1, km := ← optNat (Config.openWidth .kFactor),
           enabled := ← optNat 1 }

def deliveryPatch : Reader DeliveryPatch := do
  let ticks := Config.openWidth .ticks
  let count := Config.openWidth .smallCount
  return { prestop := ← optNat 4, stall := ← optNat ticks, drainSettle := ← optNat ticks, hold := ← optNat ticks,
           park := ← optNat ticks, strayLimit := ← optNat count, creepWindow := ← optNat ticks,
           creepLimit := ← optNat count }

def productPatch : Reader ProductPatch := do
  return { alpha := ← optNat (Config.openWidth .coefficient), defaultTemp := ← optField 2 signedOf }

def classPatch : Reader ClassPatch := do
  return { name := ← optField 4 nameFrom, essential := ← optNat 1, grantEligible := ← optNat 1, ration := ← optNat 4,
           defaultAllowance := ← optNat 4 }

def authPatch : Reader AuthPatch := do
  let percent := Config.openWidth .tierFactor
  return { tier1 := ← optNat percent, tier2 := ← optNat percent, minIssue := ← optNat 4, grantsEnabled := ← optNat 1,
           grantTimer := ← optNat (Config.openWidth .ticks), policy := ← optCode }

/-- A point of a strapping list: its level, then its volume in litres. -/
def strapPoint : Reader StrapPoint := do
  let level ← nextBytes (Config.openWidth .level)
  let litres ← nextBytes 4
  return { level := numberOf level, litres := numberOf litres }

/-- R60: the static part of a tank. -/
def tankPatch : Reader TankPatch := do
  let ticks := Config.openWidth .ticks
  return { product := ← optNat 1, enabled := ← optNat 1, capacity := ← optNat 4, strapping := ← optList strapPoint,
           floor := ← optNat 4, tier1 := ← optNat 4, tier2 := ← optNat 4, reserve := ← optNat 4,
           hysteresis := ← optNat 4, tolerance := ← optNat 4, startDelay := ← optNat ticks, runOn := ← optNat ticks }

/-- The span of a temperature channel, or of a level channel. -/
def spanPatch (level : Bool) : Reader SpanPatch := do
  let w := if level then Config.openWidth .level else 2
  return { low := ← optField w signedOf, high := ← optField w signedOf }

/-- The spans of channels 0 to 7, 8 to 11 and 12 to 15 (section 2.2). -/
def probePatch : Reader ProbePatch := do
  let meters ← readTab (spanPatch false) 8
  let levels ← readTab (spanPatch true) 4
  let tanks ← readTab (spanPatch false) 4
  return { spans := meters ++ levels ++ tanks, divisor := ← optNat (Config.openWidth .ticks),
           holdLimit := ← optNat (Config.openWidth .smallCount) }

def servicePatch : Reader ServicePatch := do
  return { hourTolerance := ← optNat 4, journalThreshold := ← optNat (Config.openWidth .smallCount) }

def timePatch : Reader TimePatch := do
  return { shiftLength := ← optNat (Config.openWidth .ticks), epoch := ← optNat 4 }

/-- R182, R183: the change a CONFIG_SET body carries, its groups numbered from 0 in R182's order (log 8). -/
def configSetFrom : List Byte → Option ConfigChange
  | [] => none
  | g :: l =>
    match g.toNat with
    | 0 => (whole (readTab portPatch 4) l).map .ports
    | 1 => (whole (readTab nozzlePatch 8) l).map .nozzles
    | 2 => (whole deliveryPatch l).map .delivery
    | 3 => (whole (readTab productPatch 4) l).map .products
    | 4 => (whole (readTab classPatch 8) l).map .classes
    | 5 => (whole authPatch l).map .authorisation
    | 6 => (whole (readTab tankPatch 4) l).map .tanks
    | 7 => (whole probePatch l).map .probes
    | 8 => (whole servicePatch l).map .service
    | 9 => (whole timePatch l).map .time
    | _ => none

/-! ### The other requests -/

/-- R17. -/
def enrolFrom (l : List Byte) : Option EnrolFields :=
  match splitFields [2, 1, 1, 4, 4, 1, 4, 4] l with
  | some [f, c, p, cap, t, ap, a, r] =>
    (optOf ap a).map fun v =>
      { fleet := numberOf f, cls := numberOf c, product := numberOf p, capacity := numberOf cap, tag := wordOf t,
        allowance := v, reading := numberOf r }
  | _ => none

/-- R19: the fleet number and the fields present. -/
def machineSetFrom (l : List Byte) : Option (Nat × MachinePatch) :=
  match splitFields [2, 1, 1, 1, 1, 1, 4, 1, 4, 1, 4] l with
  | some [f, cp, c, pp, p, kp, k, tp, t, ap, a] =>
    match optOf cp c, optOf pp p, optOf kp k, optOf tp t, optOf ap a with
    | some c', some p', some k', some t', some a' =>
      some (numberOf f, { cls := c', product := p', capacity := k', tag := t'.map (fun x => BitVec.ofNat 32 x),
                          allowance := a' })
    | _, _, _, _, _ => none
  | _ => none

/-- R195: SET_LINE: the fleet number, the leading byte, then the line or its number. -/
def setLineFrom (p : Port) (tag : Byte) (l : List Byte) : Option Instr :=
  let f := numberOf (l.take 2)
  let rest := l.drop 3
  if l.length < 3 then none
  else if numberOf ((l.drop 2).take 1) = 0 then
    match splitFields [1, 1, 4, 4, 4, 4, 1] rest with
    | some [n, b, i, d, w, g, e] =>
      some (.setLine p tag f
        { number := numberOf n, basis := numberOf b, interval := numberOf i, lastDone := numberOf d,
          warn := numberOf w, grace := numberOf g, enforcing := numberOf e })
    | _ => none
  else if numberOf ((l.drop 2).take 1) = 1 then
    match rest with
    | [n] => some (.setLineRemove p tag f n.toNat)
    | _ => none
  else none

/-- A body of one 1-byte field. -/
def one (l : List Byte) (k : Nat → Instr) : Option Instr :=
  match l with
  | [x] => some (k x.toNat)
  | _ => none

/-- A body of one fleet number. -/
def oneFleet (l : List Byte) (k : Nat → Instr) : Option Instr :=
  match splitFields [2] l with
  | some [f] => some (k (numberOf f))
  | _ => none

/-- A body without fields. -/
def noFields (l : List Byte) (i : Instr) : Option Instr :=
  match l with
  | [] => some i
  | _ :: _ => none

/-- R168, R189: the request of a code and its fields, none when the body is not of the length or form the code calls
for. -/
def requestOf (p : Port) (tag : Byte) (c : ReqCode) (l : List Byte) : Option Instr :=
  match c with
  | .steps =>
    match l with
    | n :: k :: rest => (rawSteps k.toNat rest).map (.steps p tag n.toNat)
    | _ => none
  | .start => one l (.start p tag)
  | .continueList => one l (.continueList p tag)
  | .stop => one l (.stop p tag)
  | .abort => one l (.abort p tag)
  | .park => one l (.park p tag)
  | .resume =>
    match splitFields [2, 1] l with
    | some [t, n] => some (.resume p tag (numberOf t) (numberOf n))
    | _ => none
  | .meterClear => one l (.meterClear p tag)
  | .hours =>
    match splitFields [2, 4] l with
    | some [f, r] => some (.hours p tag (numberOf f) (numberOf r))
    | _ => none
  | .grant =>
    match splitFields [2, 4] l with
    | some [t, x] => some (.grant p tag (numberOf t) (numberOf x))
    | _ => none
  | .journalFetch => noFields l (.journalFetch p tag)
  | .journalRelease =>
    match splitFields [4] l with
    | some [q] => some (.journalRelease p tag (wordOf q))
    | _ => none
  | .enrol => (enrolFrom l).map (.enrol p tag)
  | .withdraw => oneFleet l (.withdraw p tag)
  | .machineSet => (machineSetFrom l).map fun x => .machineSet p tag x.1 x.2
  | .standDown => oneFleet l (.standDown p tag)
  | .returnMachine => oneFleet l (.returnMachine p tag)
  | .rebuild => (rebuildFrom l).map (.rebuild p tag)
  | .setLine => setLineFrom p tag l
  | .serviceDone =>
    match splitFields [2, 1, 4] l with
    | some [f, n, r] => some (.serviceDone p tag (numberOf f) (numberOf n) (numberOf r))
    | _ => none
  | .waiver =>
    match splitFields [2, 1, 4] l with
    | some [f, n, x] => some (.waiver p tag (numberOf f) (numberOf n) (numberOf x))
    | _ => none
  | .meterChange =>
    match splitFields [2, 4, 4] l with
    | some [f, o, n] => some (.meterChange p tag (numberOf f) (numberOf o) (numberOf n))
    | _ => none
  | .receiptOpen =>
    match splitFields [1, 4] l with
    | some [t, d] => some (.receiptOpen p tag (numberOf t) (numberOf d))
    | _ => none
  | .receiptClose => one l (.receiptClose p tag)
  | .stockAdjust =>
    match splitFields [1, 4] l with
    | some [t, a] => some (.stockAdjust p tag (numberOf t) (signedOf a))
    | _ => none
  | .reconcile => noFields l (.reconcile p tag)
  | .configSet => (configSetFrom l).map (.configSet p tag)
  | .configRead => one l (.configRead p tag)
  | .storeRetry => noFields l (.storeRetry p tag)
  | .clockSet =>
    match splitFields [4, 4] l with
    | some [k, t] => some (.clockSet p tag (wordOf k) (numberOf t))
    | _ => none
  | .initialise => noFields l (.initialise p tag)
  | .nozzleStatus => one l (.nozzleStatus p tag)
  | .machineRead => oneFleet l (.machineRead p tag)
  | .tankStatus => one l (.tankStatus p tag)
  | .clockRead => noFields l (.clockRead p tag)
  | .deviceStatus => one l (.deviceStatus p tag)
  | .nextNotice => noFields l (.nextNotice p tag)
  | .peekNotice => noFields l (.peekNotice p tag)
  | .noticeMask =>
    match splitFields [4] l with
    | some [m] => some (.noticeMask p tag (wordOf m))
    | _ => none
  | .attentionSelect =>
    match l with
    | [x] => some (.attentionSelect p tag x)
    | _ => none
  | .attentionAck => noFields l (.attentionAck p tag)

/-- R168, R170: the nozzle a body names, read at its place before the length is tested; a body too short to hold it names
none, DEDUCED (log 53). -/
def namedNozzle (c : ReqCode) (l : List Byte) : Option Nat :=
  match c with
  | .resume => (l[2]?).map (fun b => b.toNat)
  | _ => if c.ofIsland then (l[0]?).map (fun b => b.toNat) else none

/-- The effect of a request read from bytes: that of its own command. -/
def runRequest (i : Instr) (s : State) : State :=
  match i with
  | .steps p tag n l => State.reqSteps p tag n l s
  | .start p tag n => State.reqStart p tag n s
  | .continueList p tag n => State.reqContinue p tag n s
  | .stop p tag n => State.reqStop p tag n s
  | .abort p tag n => State.reqAbort p tag n s
  | .park p tag n => State.reqPark p tag n s
  | .resume p tag t n => State.reqResume p tag t n s
  | .meterClear p tag n => State.reqMeterClear p tag n s
  | .hours p tag f r => State.reqHours p tag f r s
  | .grant p tag t x => State.reqGrant p tag t x s
  | .journalFetch p tag => State.reqJournalFetch p tag s
  | .journalRelease p tag q => State.reqJournalRelease p tag q s
  | .enrol p tag f => State.reqEnrol p tag f s
  | .withdraw p tag f => State.reqWithdraw p tag f s
  | .machineSet p tag f q => State.reqMachineSet p tag f q s
  | .standDown p tag f => State.reqStandDown p tag f s
  | .returnMachine p tag f => State.reqReturn p tag f s
  | .rebuild p tag f => State.reqRebuild p tag f s
  | .setLine p tag f l => State.reqSetLine p tag f l s
  | .setLineRemove p tag f n => State.reqSetLineRemove p tag f n s
  | .serviceDone p tag f n r => State.reqServiceDone p tag f n r s
  | .waiver p tag f n x => State.reqWaiver p tag f n x s
  | .meterChange p tag f o n => State.reqMeterChange p tag f o n s
  | .receiptOpen p tag t d => State.reqReceiptOpen p tag t d s
  | .receiptClose p tag t => State.reqReceiptClose p tag t s
  | .stockAdjust p tag t a => State.reqStockAdjust p tag t a s
  | .reconcile p tag => State.reqReconcile p tag s
  | .configSet p tag g => State.reqConfigSet p tag g s
  | .configRead p tag g => State.reqConfigRead p tag g s
  | .storeRetry p tag => State.reqStoreRetry p tag s
  | .clockSet p tag k t => State.reqClockSet p tag k t s
  | .initialise p tag => State.reqInitialise p tag s
  | .nozzleStatus p tag n => State.reqNozzleStatus p tag n s
  | .machineRead p tag f => State.reqMachineRead p tag f s
  | .tankStatus p tag t => State.reqTankStatus p tag t s
  | .clockRead p tag => State.reqClockRead p tag s
  | .deviceStatus p tag n => State.reqDeviceStatus p tag n s
  | .nextNotice p tag => State.reqNextNotice p tag s
  | .peekNotice p tag => State.reqPeekNotice p tag s
  | .noticeMask p tag m => State.reqNoticeMask p tag m s
  | .attentionSelect p tag c => State.reqAttentionSelect p tag c s
  | .attentionAck p tag => State.reqAttentionAck p tag s
  | .badFrame _ _ _ => s
  | .unknownRequest _ _ _ => s
  | .frameTimerExpiry _ => s
  | .responseSent _ => s
  | .portReset _ => s
  | .reset => s
  | .powerUp _ => s
  | .initialiseReset => s
  | .tick => s
  | .shiftRollover => s
  | .meterPulse _ => s
  | .scanTimerExpiry => s
  | .sampleComplete _ _ => s
  | .creepWindowExpiry _ => s
  | .stallTimerExpiry _ => s
  | .drainSettleExpiry _ => s
  | .holdTimerExpiry _ => s
  | .parkTimerExpiry _ => s
  | .grantTimerExpiry _ => s
  | .pumpStartTimerExpiry _ => s
  | .runOnTimerExpiry _ => s
  | .fetchComplete _ => s
  | .writeComplete _ => s
  | .eraseComplete _ => s
  | .headerReadComplete _ => s
  | .configReadComplete _ => s
  | .configWriteComplete _ => s
  | .portByteReceived _ _ => s
  | .resetHeldLow => s
  | .powerDown => s

/-- R168: a complete frame whose CRC matches, by its body. -/
def State.requestFrame (p : Port) (body : List Byte) (s : State) : State :=
  match body with
  | code :: tag :: fields =>
    match ReqCode.ofByte code with
    | none => State.reqUnknown p code tag s
    | some c =>
      match requestOf p tag c fields with
      | some i => runRequest i s
      | none => s.admission p c tag (namedNozzle c fields) fun x => x.badField p c tag
  | _ => s

/-- R168: a complete frame: the length byte, the body and the two CRC bytes. -/
def State.completeFrame (p : Port) (bytes : List Byte) (s : State) : State :=
  let l := bytes.length - 2
  let covered := bytes.take l
  let body := covered.drop 1
  if numberOf (bytes.drop l) = (crc covered).toNat then s.requestFrame p body
  else State.reqBadFrame p (body.headD 0) ((body.drop 1).headD 0) s

/-- R167: a length outside 2 to 200 discards the frame. -/
def lengthOk (b : Byte) : Bool := decide (2 ≤ b.toNat ∧ b.toNat ≤ 200)

/-- R167, R177: a byte at a port that is not transmitting. A line held low by a break reads as bytes of zeros, which an
IDLE assembler discards as it does every byte but the lead byte; the lead byte shows that the line has returned high
(log 23). -/
def State.takeByte (p : Port) (b : Byte) (s : State) : State :=
  match (s.port p).assembler with
  | .idle =>
    if b = 0x5A then s.modPort p fun x => { x with assembler := .assembling [] 2, receive := .high } else s
  | .assembling [] _ =>
    if lengthOk b then s.modPort p fun x => { x with assembler := .assembling [b] 2 } else s.idleAssembler p
  | .assembling (l :: rest) _ =>
    let bytes := (l :: rest) ++ [b]
    if bytes.length = l.toNat + 3 then s.completeFrame p bytes
    else s.modPort p fun x => { x with assembler := .assembling bytes 2 }

/-- PORT_BYTE_RECEIVED (R167): a byte that arrives while the port transmits is discarded and the assembler IDLE. -/
def execPortByteReceived (p : Port) (b : Byte) (s : State) : Host.Outcome State Fault Refusal :=
  s.event fun x =>
    if x.heard then
      if (x.port p).transmitting then x.idleAssembler p else State.takeByte p b x
    else x

end Sys2Proof.Machine
end

