-- ==== Sys2Proof/Machine/Field.lean ====
section
/-! DEFINITION. Machine/Field.lean: the events of the field lines and of the timers of meters, probes, nozzles, park slots
and pumps. An expiry that is not due changes nothing (log 1). -/

namespace Sys2Proof.Machine

/-! ### Meters (R27, R30) -/

/-- METER_PULSE (R27). -/
def execMeterPulse (n : NozzleId) (s : State) : Host.Outcome State Fault Refusal :=
  s.event fun x => x.pulse n

/-- R30: the creep window has run out. -/
def State.creepTest (s : State) (n : NozzleId) : State :=
  let s0 := s.modMeter n fun m => { m with window := none }
  if (s.meter n).creep ≤ s.config.delivery.creepLimit then
    (s0.modMeter n fun m => { m with proven := true, creep := 0 }).enterFlow n
  else (s0.faultMeter n .proving).stopFlow n .meterFault

/-- CREEP_WINDOW_EXPIRY (R30). -/
def execCreepWindowExpiry (n : NozzleId) (s : State) : Host.Outcome State Fault Refusal :=
  s.event fun x => if (x.meter n).window = some 0 then x.creepTest n else x

/-! ### Probes (R34 to R40) -/

/-- R34: a scan begins: the timer is loaded again and channel 0 is the first to be sampled. -/
def State.beginScan (s : State) : State :=
  { s with scanner := { s.scanner with timer := s.config.probes.divisor, position := some 0 } }

/-- SCAN_TIMER_EXPIRY (R34). -/
def execScanTimerExpiry (s : State) : Host.Outcome State Fault Refusal :=
  s.event fun x => if x.scanner.timer = 0 then x.beginScan else x

/-- R37: an invalid sample in GOOD or HOLDING, the hold count having been raised. -/
def heldSample (limit : Nat) (c : Channel) (hold : Nat) : Channel :=
  if limit ≤ hold then { state := .failed, value := none, hold := hold, settle := 0 }
  else { c with state := .holding, hold := hold }

/-- R36 to R38: a channel after a sample. -/
def sampled (span : Span) (limit : Nat) (code : Nat) (c : Channel) : Channel :=
  let v := sampleValue span code
  match c.state with
  | .unsettled =>
    if c.settle < 4 then { c with settle := c.settle + 1 }
    else if sampleValid code then { c with state := .good, value := some v, hold := 0 }
    else if limit ≤ c.hold + 1 then { state := .failed, value := none, hold := c.hold + 1, settle := 0 }
    else { c with hold := c.hold + 1 }
  | .good =>
    if sampleValid code then { c with value := some v } else heldSample limit c 1
  | .holding =>
    if sampleValid code then { c with state := .good, value := some v, hold := 0 }
    else heldSample limit c (c.hold + 1)
  | .failed =>
    if sampleValid code then
      if 2 ≤ c.settle + 1 then { state := .good, value := some v, hold := 0, settle := 0 }
      else { c with settle := c.settle + 1 }
    else { c with settle := 0 }

/-- R39: PROBE_STATE when a sample takes a channel into FAILED or out of it. -/
def State.postProbe (s : State) (i : ChannelId) (old new : Channel) : State :=
  if (old.state = .failed) = (new.state = .failed) then s
  else s.postRole .workshop (.probeState i new.state (if new.state = .good then new.value else none))

/-- The channel a scan samples next. -/
def nextPosition (i : ChannelId) : Option ChannelId := fromZero 16 (i.val + 1)

/-- The tank a channel serves (section 2.2): 8 to 11 levels, 12 to 15 temperatures. -/
def tankOfChannel (i : ChannelId) : Option TankId := if 8 ≤ i.val then fromZero 4 (i.val % 4) else none

/-- R36 to R40: a sample completes on a channel. -/
def State.sample (s : State) (i : ChannelId) (code : Nat) : State :=
  let old := s.channel i
  let new := sampled (s.config.probes.spans.read i) s.config.probes.holdLimit code old
  let pos := if s.scanner.position = some i then nextPosition i else s.scanner.position
  let s1 : State :=
    { s with scanner := { s.scanner with channels := s.scanner.channels.write i new, position := pos } }
  let s2 := s1.postProbe i old new
  match tankOfChannel i with
  | some t => s2.gaugeTank t
  | none => s2

/-- SAMPLE_COMPLETE (R36 to R40). -/
def execSampleComplete (c : ChannelId) (code : BitVec 16) (s : State) : Host.Outcome State Fault Refusal :=
  s.event fun x => x.sample c code.toNat

/-! ### The timers of a nozzle context (R94, R96, R102, R120) -/

/-- STALL_TIMER_EXPIRY (R94). -/
def execStallTimerExpiry (n : NozzleId) (s : State) : Host.Outcome State Fault Refusal :=
  s.event fun x => if x.ready ∧ (x.ctx n).stall = some 0 then x.stopFlow n .stalled else x

/-- DRAIN_SETTLE_EXPIRY (R96). -/
def execDrainSettleExpiry (n : NozzleId) (s : State) : Host.Outcome State Fault Refusal :=
  s.event fun x => if x.ready ∧ (x.ctx n).drain = some 0 then x.drainSettled n else x

/-- R102: the hold has expired: parked if a slot is free and there are fewer than four legs, else finished. -/
def State.holdExpired (s : State) (n : NozzleId) : State :=
  if (s.delivery n).legs.length < 4 then
    match s.freePark with
    | some k => s.moveToPark n k .holdExpired
    | none => s.finishNozzle n .expired
  else s.finishNozzle n .expired

/-- HOLD_TIMER_EXPIRY (R102). -/
def execHoldTimerExpiry (n : NozzleId) (s : State) : Host.Outcome State Fault Refusal :=
  s.event fun x => if x.ready ∧ (x.ctx n).hold = some 0 then x.holdExpired n else x

/-- R120: a wait that ends refused. -/
def State.timeOut (s : State) (n : NozzleId) (w : WaitTerms) : State :=
  (s.postClosed n .timedOut none (some .grantTimeout)).refuseAuth n .grantTimeout w.first

/-- R120: the grant timer has run out. -/
def State.grantExpired (s : State) (n : NozzleId) : State :=
  let s0 := s.modCtx n fun c => { c with grant := none }
  let s1 : State := { s0 with expired := joinExpired (s.delivery n).ticket s0.expired }
  match (s.delivery n).wait with
  | none => s1
  | some w =>
    match s.config.authorisation.policy with
    | .refuse => s1.timeOut n w
    | .partialIssue =>
      let issue := min w.b (s1.stockTerm n)
      if s.config.authorisation.minIssue ≤ issue then
        let s2 := s1.authorise n issue w.a (if issue = w.b then w.name else .stock) w.restricted w.first
        (s2.postClosed n .timedOut (some (s2.delivery n).limit) none).runRest n
      else s1.timeOut n w

/-- GRANT_TIMER_EXPIRY (R120). -/
def execGrantTimerExpiry (n : NozzleId) (s : State) : Host.Outcome State Fault Refusal :=
  s.event fun x => if x.ready ∧ (x.ctx n).grant = some 0 then x.grantExpired n else x

/-! ### Park timers (R131) -/

/-- R131. -/
def State.parkExpires (s : State) (k : ParkId) : State :=
  match s.slot k with
  | .holding p => if p.timer = 0 then s.finishParked k p .expired else s
  | .reserved _ => s
  | .empty => s

/-- PARK_TIMER_EXPIRY (R131). -/
def execParkTimerExpiry (k : ParkId) (s : State) : Host.Outcome State Fault Refusal :=
  s.event fun x => if x.ready then x.parkExpires k else x

/-! ### Pump timers (R67) -/

/-- R67: a nozzle of the demand told that its pump is RUNNING, if it is still in PRIMING. -/
def State.tellNozzle (s : State) (n : NozzleId) : State :=
  if (s.ctx n).state = .priming then s.toldRunning n else s

/-- R67: the start timer has run out. -/
def State.pumpStarted (s : State) (t : TankId) : State :=
  if (s.demand t).isEmpty then s.runOnPump t
  else (s.demand t).foldl State.tellNozzle (s.setPump t .running none)

/-- PUMP_START_TIMER_EXPIRY (R67). -/
def execPumpStartTimerExpiry (t : TankId) (s : State) : Host.Outcome State Fault Refusal :=
  s.event fun x =>
    if (x.tank t).pump.state = .starting ∧ (x.tank t).pump.timer = some 0 then x.pumpStarted t else x

/-- RUN_ON_TIMER_EXPIRY (R67). -/
def execRunOnTimerExpiry (t : TankId) (s : State) : Host.Outcome State Fault Refusal :=
  s.event fun x =>
    if (x.tank t).pump.state = .runOn ∧ (x.tank t).pump.timer = some 0 then x.setPump t .stopped none else x

end Sys2Proof.Machine
end

