-- ==== Sys2Proof/Machine/Resets.lean ====
section
/-! DEFINITION. Machine/Resets.lean: the RESET line, the main supply and INITIALISE's reset (R184, log 22). -/

namespace Sys2Proof.Machine

/-- RESET (R184): the RESET line is released and start-up begins. -/
def execReset (s : State) : Host.Outcome State Fault Refusal :=
  let s1 : State := { s with power := { s.power with resetLow := false } }
  if s.power.powered then .next (s1.startOver .resetLine).settle else .next s1

/-- RESET_HELD_LOW (R184): the part goes into reset and is kept there. -/
def execResetHeldLow (s : State) : Host.Outcome State Fault Refusal :=
  .next { s.inReset with power := { s.inReset.power with resetLow := true } }

/-- POWER_UP (R184): the retained memory is good when it was good and the backup supply held it. -/
def execPowerUp (held : Bool) (s : State) : Host.Outcome State Fault Refusal :=
  let s1 : State := { s with power := { s.power with powered := true, checkGood := s.power.checkGood && held } }
  if s.power.resetLow then .next s1 else .next (s1.startOver .powerUp).settle

/-- POWER_DOWN (R179): the part stands still and drives nothing, its retained memory on the backup supply. -/
def execPowerDown (s : State) : Host.Outcome State Fault Refusal :=
  .next { s.inReset with power := { s.inReset.power with powered := false } }

/-- INITIALISE_RESET (R184): the reset that follows the transmission of INITIALISE's response. -/
def execInitialiseReset (s : State) : Host.Outcome State Fault Refusal :=
  s.event fun x => if x.power.initialiseDue then x.startOver .initialise else x

end Sys2Proof.Machine
end

