-- ==== Sys2Proof/Machine/StoreEvents.lean ====
section
/-! DEFINITION. Machine/StoreEvents.lean: the store completions (R12). A completion of another kind than the operation in
flight, or with none in flight, changes nothing (log 1). -/

namespace Sys2Proof.Machine

/-- FETCH_COMPLETE (R13, R14). -/
def execFetchComplete (res : FetchResult) (s : State) : Host.Outcome State Fault Refusal :=
  s.event fun x =>
    match x.table.inFlight with
    | some f =>
      match f.op with
      | .fetch l slot retry => x.endFetch f l slot retry res
      | _ => x
    | none => x

/-- WRITE_COMPLETE (R14). -/
def execWriteComplete (ok : Bool) (s : State) : Host.Outcome State Fault Refusal :=
  s.event fun x =>
    match x.table.inFlight with
    | some f =>
      match f.op with
      | .write l slot => x.endWrite f l slot ok
      | _ => x
    | none => x

/-- ERASE_COMPLETE (R14, R15, R25). -/
def execEraseComplete (ok : Bool) (s : State) : Host.Outcome State Fault Refusal :=
  s.event fun x =>
    match x.table.inFlight with
    | some f =>
      match f.op with
      | .erase slot asker => x.endErase slot asker ok
      | _ => x
    | none => x

/-- HEADER_READ_COMPLETE (R3). -/
def execHeaderReadComplete (res : HeaderResult) (s : State) : Host.Outcome State Fault Refusal :=
  s.event fun x =>
    match x.table.inFlight with
    | some f =>
      match f.op with
      | .headerRead k retry => x.endHeaderRead k retry res
      | _ => x
    | none => x

/-- CONFIG_READ_COMPLETE (R185). -/
def execConfigReadComplete (res : ConfigResult) (s : State) : Host.Outcome State Fault Refusal :=
  s.event fun x =>
    match x.table.inFlight with
    | some f =>
      match f.op with
      | .configRead retry => x.endConfigRead retry res
      | _ => x
    | none => x

/-- CONFIG_WRITE_COMPLETE (R14, R183). -/
def execConfigWriteComplete (ok : Bool) (s : State) : Host.Outcome State Fault Refusal :=
  s.event fun x =>
    match x.table.inFlight with
    | some f =>
      match f.op with
      | .configWrite => x.endConfigWrite ok
      | _ => x
    | none => x

end Sys2Proof.Machine
end

