-- ==== Sys2Proof/Machine/Time.lean ====
section
/-! DEFINITION. Machine/Time.lean: the tick and the shift rollover (R179, R180). A tick counts every running timer down by
one; a timer at 0 is due, and its owner's expiry command deals with it (log 1). -/

namespace Sys2Proof.Machine

/-- A running timer one tick on; at 0 it stays until its expiry is taken. -/
def tickTimer (t : Option Nat) : Option Nat := t.map (fun k => k - 1)

/-- The timers of a nozzle context (R79). -/
def tickContext (c : Context) : Context :=
  { c with hold := tickTimer c.hold, stall := tickTimer c.stall, drain := tickTimer c.drain,
           grant := tickTimer c.grant }

/-- The creep window (R30). -/
def tickMeter (m : Meter) : Meter := { m with window := tickTimer m.window }

/-- A pump's timer (R65). -/
def tickPump (t : Tank) : Tank := { t with pump := { t.pump with timer := tickTimer t.pump.timer } }

/-- A park timer (R131). -/
def tickSlot (x : ParkSlot) : ParkSlot :=
  match x with
  | .holding p => .holding { p with timer := p.timer - 1 }
  | .reserved n => .reserved n
  | .empty => .empty

/-- A frame timer (R167). -/
def tickAssembler : Assembler → Assembler
  | .assembling bytes t => .assembling bytes (t - 1)
  | .idle => .idle

/-- R177: a line that no break has found low since the last tick has returned high. -/
def tickReceive : ReceiveLine → ReceiveLine
  | .low => .lowBefore
  | .lowBefore => .high
  | .high => .high

/-- A port's frame timer and receive line. -/
def tickPort (x : PortState) : PortState :=
  { x with assembler := tickAssembler x.assembler, receive := tickReceive x.receive }

/-- R179, R180: site time and the ticks into the shift. -/
def tickClock (shiftLength : Nat) (c : Clock) : Clock :=
  { c with siteTime := c.siteTime + 1, ticks := c.ticks + 1,
           rolloverDue := c.rolloverDue || decide (shiftLength ≤ c.ticks + 1) }

/-- R179: the count of time. -/
def State.countTick (s : State) : State := { s with clock := tickClock s.config.time.shiftLength s.clock }

/-- R180: the clock's part of a rollover. -/
def rolledClock (c : Clock) : Clock := { c with shift := c.shift + 1, ticks := 0, rolloverDue := false }

/-- R180: a clock with no rollover due: a due one is carried out. -/
def settledClock (c : Clock) : Clock := if c.rolloverDue then rolledClock c else c

/-- R179, R180, R184: a tick under a RESET held low: site time and the shift clock go on, the rollover within the tick;
the ports are in reset and no notice is posted (log 22). The shift length is that of the working copy from before the reset:
DESIGN CHOICE (log 25). -/
def State.countInReset (s : State) : State :=
  { s with clock := settledClock (tickClock s.config.time.shiftLength (settledClock s.clock)) }

/-- R106, R136: delivery, park and grant timers do not run before READY. -/
def State.tickDeliveries (s : State) : State :=
  if s.ready then
    { s with nozzles := Tab.mapWith (fun _ c => tickContext c) s.nozzles,
             park := Tab.mapWith (fun _ x => tickSlot x) s.park }
  else s

/-- The timers that run through start-up: creep windows, pumps, the scan timer, frame timers. -/
def State.tickField (s : State) : State :=
  { s with meters := Tab.mapWith (fun _ m => tickMeter m) s.meters,
           tanks := Tab.mapWith (fun _ t => tickPump t) s.tanks,
           scanner := { s.scanner with timer := s.scanner.timer - 1 },
           ports := Tab.mapWith (fun _ x => tickPort x) s.ports }

/-- R180: the shift number advances, SHIFT_ROLLOVER is posted and reconciliation runs. -/
def State.rollover (s : State) : State :=
  (State.postAll { s with clock := rolledClock s.clock } (.shiftRollover (s.clock.shift + 1) s.clock.siteTime)).reconcileAll
    .rollover

/-- R180: a rollover that is due carried out, as an event of its own. -/
def State.lateRollover (s : State) : State := if s.clock.rolloverDue then s.rollover.settle else s

/-- TICK (R179). A rollover that an earlier tick brought and SHIFT_ROLLOVER has not taken yet is carried out first, so
that no tick is lost to the shift clock (log 7). -/
def execTick (s : State) : Host.Outcome State Fault Refusal :=
  if s.power.powered then
    if s.power.resetLow then .next s.countInReset
    else .next s.lateRollover.countTick.tickDeliveries.tickField
  else .next s

/-- SHIFT_ROLLOVER (R180). -/
def execShiftRollover (s : State) : Host.Outcome State Fault Refusal :=
  s.event fun x => if x.clock.rolloverDue then x.rollover else x

end Sys2Proof.Machine
end

