-- ==== Sys2Proof/Machine/Dispatch.lean ====
section
/-! DEFINITION. Machine/Dispatch.lean: one arm per command, each one direct call of its meaning. -/

namespace Sys2Proof.Machine

/-- The effect of a command on everything but the queue it was taken from. -/
def exec (i : Instr) (s : State) : Host.Outcome State Fault Refusal :=
  match i with
  | .steps a b c d => Sys2Proof.Machine.execSteps a b c d s
  | .start a b c => Sys2Proof.Machine.execStart a b c s
  | .continueList a b c => Sys2Proof.Machine.execContinue a b c s
  | .stop a b c => Sys2Proof.Machine.execStop a b c s
  | .abort a b c => Sys2Proof.Machine.execAbort a b c s
  | .park a b c => Sys2Proof.Machine.execPark a b c s
  | .resume a b c d => Sys2Proof.Machine.execResume a b c d s
  | .meterClear a b c => Sys2Proof.Machine.execMeterClear a b c s
  | .hours a b c d => Sys2Proof.Machine.execHours a b c d s
  | .grant a b c d => Sys2Proof.Machine.execGrant a b c d s
  | .journalFetch a b => Sys2Proof.Machine.execJournalFetch a b s
  | .journalRelease a b c => Sys2Proof.Machine.execJournalRelease a b c s
  | .enrol a b c => Sys2Proof.Machine.execEnrol a b c s
  | .withdraw a b c => Sys2Proof.Machine.execWithdraw a b c s
  | .machineSet a b c d => Sys2Proof.Machine.execMachineSet a b c d s
  | .standDown a b c => Sys2Proof.Machine.execStandDown a b c s
  | .returnMachine a b c => Sys2Proof.Machine.execReturn a b c s
  | .rebuild a b c => Sys2Proof.Machine.execRebuild a b c s
  | .setLine a b c d => Sys2Proof.Machine.execSetLine a b c d s
  | .setLineRemove a b c d => Sys2Proof.Machine.execSetLineRemove a b c d s
  | .serviceDone a b c d e => Sys2Proof.Machine.execServiceDone a b c d e s
  | .waiver a b c d e => Sys2Proof.Machine.execWaiver a b c d e s
  | .meterChange a b c d e => Sys2Proof.Machine.execMeterChange a b c d e s
  | .receiptOpen a b c d => Sys2Proof.Machine.execReceiptOpen a b c d s
  | .receiptClose a b c => Sys2Proof.Machine.execReceiptClose a b c s
  | .stockAdjust a b c d => Sys2Proof.Machine.execStockAdjust a b c d s
  | .reconcile a b => Sys2Proof.Machine.execReconcile a b s
  | .configSet a b c => Sys2Proof.Machine.execConfigSet a b c s
  | .configRead a b c => Sys2Proof.Machine.execConfigRead a b c s
  | .storeRetry a b => Sys2Proof.Machine.execStoreRetry a b s
  | .clockSet a b c d => Sys2Proof.Machine.execClockSet a b c d s
  | .initialise a b => Sys2Proof.Machine.execInitialise a b s
  | .nozzleStatus a b c => Sys2Proof.Machine.execNozzleStatus a b c s
  | .machineRead a b c => Sys2Proof.Machine.execMachineRead a b c s
  | .tankStatus a b c => Sys2Proof.Machine.execTankStatus a b c s
  | .clockRead a b => Sys2Proof.Machine.execClockRead a b s
  | .deviceStatus a b c => Sys2Proof.Machine.execDeviceStatus a b c s
  | .nextNotice a b => Sys2Proof.Machine.execNextNotice a b s
  | .peekNotice a b => Sys2Proof.Machine.execPeekNotice a b s
  | .noticeMask a b c => Sys2Proof.Machine.execNoticeMask a b c s
  | .attentionSelect a b c => Sys2Proof.Machine.execAttentionSelect a b c s
  | .attentionAck a b => Sys2Proof.Machine.execAttentionAck a b s
  | .badFrame a b c => Sys2Proof.Machine.execBadFrame a b c s
  | .unknownRequest a b c => Sys2Proof.Machine.execUnknownRequest a b c s
  | .frameTimerExpiry a => Sys2Proof.Machine.execFrameTimerExpiry a s
  | .responseSent a => Sys2Proof.Machine.execResponseSent a s
  | .portReset a => Sys2Proof.Machine.execPortReset a s
  | .reset => Sys2Proof.Machine.execReset s
  | .powerUp a => Sys2Proof.Machine.execPowerUp a s
  | .initialiseReset => Sys2Proof.Machine.execInitialiseReset s
  | .tick => Sys2Proof.Machine.execTick s
  | .shiftRollover => Sys2Proof.Machine.execShiftRollover s
  | .meterPulse a => Sys2Proof.Machine.execMeterPulse a s
  | .scanTimerExpiry => Sys2Proof.Machine.execScanTimerExpiry s
  | .sampleComplete a b => Sys2Proof.Machine.execSampleComplete a b s
  | .creepWindowExpiry a => Sys2Proof.Machine.execCreepWindowExpiry a s
  | .stallTimerExpiry a => Sys2Proof.Machine.execStallTimerExpiry a s
  | .drainSettleExpiry a => Sys2Proof.Machine.execDrainSettleExpiry a s
  | .holdTimerExpiry a => Sys2Proof.Machine.execHoldTimerExpiry a s
  | .parkTimerExpiry a => Sys2Proof.Machine.execParkTimerExpiry a s
  | .grantTimerExpiry a => Sys2Proof.Machine.execGrantTimerExpiry a s
  | .pumpStartTimerExpiry a => Sys2Proof.Machine.execPumpStartTimerExpiry a s
  | .runOnTimerExpiry a => Sys2Proof.Machine.execRunOnTimerExpiry a s
  | .fetchComplete a => Sys2Proof.Machine.execFetchComplete a s
  | .writeComplete a => Sys2Proof.Machine.execWriteComplete a s
  | .eraseComplete a => Sys2Proof.Machine.execEraseComplete a s
  | .headerReadComplete a => Sys2Proof.Machine.execHeaderReadComplete a s
  | .configReadComplete a => Sys2Proof.Machine.execConfigReadComplete a s
  | .configWriteComplete a => Sys2Proof.Machine.execConfigWriteComplete a s
  | .portByteReceived a b => Sys2Proof.Machine.execPortByteReceived a b s
  | .resetHeldLow => Sys2Proof.Machine.execResetHeldLow s
  | .powerDown => Sys2Proof.Machine.execPowerDown s

end Sys2Proof.Machine
end

