-- ==== Sys2Proof/Safety.lean ====
section
/-! DEFINITION. Safety.lean: the terms the statements are written in. When a port takes a frame and hands it to its block;
the length of a body (R168); the state with an answer on the line; the figures of a service line; what it means for a
machine to be in the cache; and the invariants of the part that the spec states for every moment (R5, R140, R159, R166,
R172). -/

namespace Sys2Proof

open Machine

/-! ### Requests -/

/-- A request command: the port it comes in at, its code, its master tag, and the nozzle it names for R170. -/
def Instr.request : Instr → Option (Port × ReqCode × Byte × Option Nat)
  | .steps p tag n _ => some (p, .steps, tag, some n)
  | .start p tag n => some (p, .start, tag, some n)
  | .continueList p tag n => some (p, .continueList, tag, some n)
  | .stop p tag n => some (p, .stop, tag, some n)
  | .abort p tag n => some (p, .abort, tag, some n)
  | .park p tag n => some (p, .park, tag, some n)
  | .resume p tag _ n => some (p, .resume, tag, some n)
  | .meterClear p tag n => some (p, .meterClear, tag, some n)
  | .hours p tag _ _ => some (p, .hours, tag, none)
  | .grant p tag _ _ => some (p, .grant, tag, none)
  | .journalFetch p tag => some (p, .journalFetch, tag, none)
  | .journalRelease p tag _ => some (p, .journalRelease, tag, none)
  | .enrol p tag _ => some (p, .enrol, tag, none)
  | .withdraw p tag _ => some (p, .withdraw, tag, none)
  | .machineSet p tag _ _ => some (p, .machineSet, tag, none)
  | .standDown p tag _ => some (p, .standDown, tag, none)
  | .returnMachine p tag _ => some (p, .returnMachine, tag, none)
  | .rebuild p tag _ => some (p, .rebuild, tag, none)
  | .setLine p tag _ _ => some (p, .setLine, tag, none)
  | .setLineRemove p tag _ _ => some (p, .setLine, tag, none)
  | .serviceDone p tag _ _ _ => some (p, .serviceDone, tag, none)
  | .waiver p tag _ _ _ => some (p, .waiver, tag, none)
  | .meterChange p tag _ _ _ => some (p, .meterChange, tag, none)
  | .receiptOpen p tag _ _ => some (p, .receiptOpen, tag, none)
  | .receiptClose p tag _ => some (p, .receiptClose, tag, none)
  | .stockAdjust p tag _ _ => some (p, .stockAdjust, tag, none)
  | .reconcile p tag => some (p, .reconcile, tag, none)
  | .configSet p tag _ => some (p, .configSet, tag, none)
  | .configRead p tag _ => some (p, .configRead, tag, none)
  | .storeRetry p tag => some (p, .storeRetry, tag, none)
  | .clockSet p tag _ _ => some (p, .clockSet, tag, none)
  | .initialise p tag => some (p, .initialise, tag, none)
  | .nozzleStatus p tag _ => some (p, .nozzleStatus, tag, none)
  | .machineRead p tag _ => some (p, .machineRead, tag, none)
  | .tankStatus p tag _ => some (p, .tankStatus, tag, none)
  | .clockRead p tag => some (p, .clockRead, tag, none)
  | .deviceStatus p tag _ => some (p, .deviceStatus, tag, none)
  | .nextNotice p tag => some (p, .nextNotice, tag, none)
  | .peekNotice p tag => some (p, .peekNotice, tag, none)
  | .noticeMask p tag _ => some (p, .noticeMask, tag, none)
  | .attentionSelect p tag _ => some (p, .attentionSelect, tag, none)
  | .attentionAck p tag => some (p, .attentionAck, tag, none)
  | .badFrame _ _ _ => none
  | .unknownRequest _ _ _ => none
  | .frameTimerExpiry _ => none
  | .responseSent _ => none
  | .portReset _ => none
  | .reset => none
  | .powerUp _ => none
  | .initialiseReset => none
  | .tick => none
  | .shiftRollover => none
  | .meterPulse _ => none
  | .scanTimerExpiry => none
  | .sampleComplete _ _ => none
  | .creepWindowExpiry _ => none
  | .stallTimerExpiry _ => none
  | .drainSettleExpiry _ => none
  | .holdTimerExpiry _ => none
  | .parkTimerExpiry _ => none
  | .grantTimerExpiry _ => none
  | .pumpStartTimerExpiry _ => none
  | .runOnTimerExpiry _ => none
  | .fetchComplete _ => none
  | .writeComplete _ => none
  | .eraseComplete _ => none
  | .headerReadComplete _ => none
  | .configReadComplete _ => none
  | .configWriteComplete _ => none
  | .portByteReceived _ _ => none
  | .resetHeldLow => none
  | .powerDown => none

/-! ### The length of a body (R168) -/

/-- R168, R189: the bytes of fields a request's code calls for, beside its code and tag: the widths R189 gives the fields
its own rule lists (an optional figure has its presence byte). None for the four whose fields tell their own length. -/
def Machine.ReqCode.fieldBytes : ReqCode → Option Nat
  | .start => some 1
  | .continueList => some 1
  | .stop => some 1
  | .abort => some 1
  | .park => some 1
  | .resume => some 3
  | .meterClear => some 1
  | .hours => some 6
  | .grant => some 6
  | .journalFetch => some 0
  | .journalRelease => some 4
  | .enrol => some 21
  | .withdraw => some 2
  | .machineSet => some 21
  | .standDown => some 2
  | .returnMachine => some 2
  | .serviceDone => some 7
  | .waiver => some 7
  | .meterChange => some 10
  | .receiptOpen => some 5
  | .receiptClose => some 1
  | .stockAdjust => some 5
  | .reconcile => some 0
  | .configRead => some 1
  | .storeRetry => some 0
  | .clockSet => some 8
  | .initialise => some 0
  | .nozzleStatus => some 1
  | .machineRead => some 2
  | .tankStatus => some 1
  | .clockRead => some 0
  | .deviceStatus => some 1
  | .nextNotice => some 0
  | .peekNotice => some 0
  | .noticeMask => some 4
  | .attentionSelect => some 1
  | .attentionAck => some 0
  | .steps => none
  | .rebuild => none
  | .setLine => none
  | .configSet => none

/-- R191: the steps of a STEPS body fill it: as many as its count byte says, each of the size its kind byte gives. -/
def Machine.StepsFill (count : Nat) (body : List Byte) : Prop :=
  ∃ steps : List (List Byte), steps.length = count ∧ body = steps.flatten
    ∧ ∀ x ∈ steps, ∃ kind rest, x = kind :: rest
      ∧ x.length = (if kind = 0x01 then 8 else if kind = 0x02 ∨ kind = 0x03 then 5 else 1)

/-- R168, R189, R191, R195: the fields of a body have the length its code calls for, each list read at its count byte:
STEPS step by step; REBUILD 34 bytes and 24 for each of its lines, whose count is its byte 32 (the place of the machine
state is log 31); SET_LINE a line or, to remove one, its number, by the byte after the fleet number (log 31). The length of
a CONFIG_SET is not among them: its layout and widths are logs 8 and 9. -/
def Machine.ReqCode.Fits (c : ReqCode) (fields : List Byte) : Prop :=
  (∀ k, c.fieldBytes = some k → fields.length = k)
  ∧ (c = .steps → ∃ nozzle count rest, fields = nozzle :: count :: rest ∧ StepsFill count.toNat rest)
  ∧ (c = .rebuild → fields.length = 34 + 24 * (fields.getD 32 0).toNat)
  ∧ (c = .setLine → fields.length = if fields.getD 2 0 = 0 then 22 else 4)

/-! ### Service lines -/

/-- R5, R151: figures of a service line that are each within its range, and the line they stand for, its state not among
them: basis 0 HOURS and 1 FUEL, the enforcing flag 0 or 1. The range of last done is that of R137's lifetime readings,
read from R5 (log 17); those of the margins and of the waiver extension in a REBUILD are the model's choice (log 14). -/
def Machine.LineFigures (number basis interval lastDone warn grace enforcing : Nat) (waiver : Option Nat)
    (l : ServiceLine) : Prop :=
  1 ≤ number ∧ number ≤ 4 ∧ basis ≤ 1 ∧ 1 ≤ interval ∧ interval ≤ (if basis = 0 then 99999 else 100000000)
  ∧ lastDone ≤ (if basis = 0 then 99999999 else 4294967295) ∧ warn ≤ interval ∧ grace ≤ interval ∧ enforcing ≤ 1
  ∧ (∀ x, waiver = some x → x ≤ interval)
  ∧ l.number = number ∧ l.basis = (if basis = 0 then .hours else .fuel) ∧ l.interval = interval ∧ l.lastDone = lastDone
  ∧ l.warn = warn ∧ l.grace = grace ∧ l.enforcing = decide (enforcing = 1) ∧ l.waiver = waiver

/-- R5, R140: the service lines of a record stand in ascending order of number, no two alike, each numbered 1 to 4, and the
restricted flag is set exactly when an enforcing one is OVERDUE. -/
abbrev MachineRecord.Sound (r : MachineRecord) : Prop :=
  r.lines.Pairwise (fun a b => a.number < b.number) ∧ (∀ l ∈ r.lines, 1 ≤ l.number ∧ l.number ≤ 4)
    ∧ (r.restricted = true ↔ ∃ l ∈ r.lines, l.enforcing = true ∧ l.state = .overdue)

namespace Machine

/-- The part runs and is READY (R184, R185). -/
abbrev State.Up (s : State) : Prop := s.running = true ∧ s.startUp.stage = .ready

/-- R168, R169: a port of a READY part takes a complete frame and hands it to its block: no response stands on its line and
no request is in hand. Whether its role permits the request is `State.permits`. -/
abbrev State.Accepts (s : State) (p : Port) : Prop :=
  s.Up ∧ (s.port p).line = [] ∧ (s.port p).inHand = none

/-- R187: the answer to a request: its code + 0x80, its tag, a status and fields. -/
def answerTo (c : ReqCode) (tag : Byte) (st : Status) (f : Payload) : Response :=
  { code := c.byte + 0x80, tag := tag, status := st, payload := f }

/-- R168, R169: a frame taken from a port's assembler and its answer alone on the port's line. -/
def State.answered (s : State) (p : Port) (c : ReqCode) (tag : Byte) (st : Status) (f : Payload) : State :=
  s.modPort p fun x => { x with assembler := .idle, line := [answerTo c tag st f] }

/-- R8, R169: a frame taken from a port's assembler and its request kept in hand, unanswered. -/
def State.kept (s : State) (p : Port) (tag : Byte) (r : WaitingRequest) : State :=
  s.modPort p fun x => { x with assembler := .idle, inHand := some { tag := tag, request := r } }

/-- R8: a machine is enrolled, its index entry GOOD, and its record, read from a slot, stands in a line. -/
abbrev State.Cached (s : State) (f : Nat) (l : LineId) (st : HeldState) (k : SlotId) (r : MachineRecord) : Prop :=
  (s.enrolled f).map (fun e => e.damaged) = some false ∧ s.lineFor f = some l
    ∧ (s.line l).content = .held st k r

/-! ### Identification (R88) -/

/-- R88: the tests of an IDENT step with a tag code and verify flag, at a nozzle whose tank holds a product, in their order:
the reason of the first that fails. -/
def identTests (product : ProductId) (tag : Word32) (verify : Bool) (r : MachineRecord) : Option Reason :=
  if r.openTicket.isSome = true then some .machineBusy
  else if r.stoodDown = true then some .stoodDown
  else if r.product ≠ product then some .productMismatch
  else if verify = true ∧ (r.tag = 0 ∨ r.tag ≠ tag) then some .identMismatch
  else none

/-- R88: what a passed IDENT does, for the delivery `d` of nozzle `n` and the record `r` of slot `k` in line `l`: the line
pinned and recorded, the open ticket set and written back, the first leg created and its meter bound, the product fixed
by the nozzle's tank, IDENTIFIED posted to the owning port. -/
def State.afterIdent (s : State) (n : NozzleId) (d : Delivery) (verify : Bool) (l : LineId) (k : SlotId)
    (r : MachineRecord) : State :=
  let new : MachineRecord :=
    { r with used := if r.usageShift = s.clock.shift then r.used else 0, usageShift := s.clock.shift,
             openTicket := some d.ticket }
  let leg : Leg :=
    { meter := n, pulses := 0, gross := 0, fwt := 0, net := 0, substituted := false, clamped := false }
  let d' : Delivery :=
    { d with line := some l, verified := verify, legs := [leg],
             product := some (s.config.tanks.read (s.config.nozzles.read n).tank).product }
  (((((s.modLine l fun x => { x with pinned := true }).putRecord l k new).modCtx n fun c =>
    { c with delivery := some d' }).modMeter n fun m =>
      { m with bound := true, count := 0, state := if m.state = .faulted then .faulted else .inUse }).postTo
        (s.config.nozzles.read n).owner (.deliveryStage (.identified d.ticket d.fleet n)))

/-! ### Resets -/

/-- R24, R42, R78, R106, R124, R136, R165, R178, R184: what a reset on the warm path leaves. Retained: the journal, the
nozzle contexts, the park table, the ticket counter, site time and shift clock, each tank's book, tier and receipt, and
each cache line's record, pin and place in the use order. Everything else is as after a cold start. -/
def State.warmStart (s : State) (cause : ResetCause) : State :=
  { State.reset with
    pending := s.pending, freeIndex := s.freeIndex,
    startUp := { State.reset.startUp with cold := false, cause := cause },
    clock := s.clock, ticketCounter := s.ticketCounter, journal := s.journal, nozzles := s.nozzles, park := s.park,
    tanks := Tab.mapWith (fun _ t => { t with gauge := invalidGauge, pump := stoppedPump }) s.tanks,
    table := { State.reset.table with
      lines := Tab.mapWith (fun _ x => settledLine x) s.table.lines, useOrder := s.table.useOrder } }

/-- R185 stage 6, R186: the part goes READY, and STARTED is posted to every port. -/
def State.becomesReady (s : State) : State :=
  ({ s with startUp := { s.startUp with stage := .ready } } : State).postAll (.started
    { cold := s.startUp.cold, cause := s.startUp.cause, defaulted := s.startUp.defaulted, epoch := s.config.time.epoch,
      shift := s.clock.shift, nextSeq := s.journal.nextSeq, interrupted := s.startUp.interrupted })

/-- R72, R106, R136, R185 stages 3 and 4: what the warm path does once the index is built. The WRITE of each DIRTY line is
queued, LOADED contexts are freed and RESERVED slots emptied; open contexts in nozzle order and then HOLDING slots in slot
order finish INTERRUPTED, and open receipts are cancelled in tank order (what RECEIPT_RESULT carries beside its zeros is
the model's choice, log 40). -/
def State.businessSettled (s : State) : State :=
  let dirty : List LineId := (List.finRange 16).filter fun l => match (s.line l).content with
    | .held .dirty _ _ => true
    | _ => false
  let freed : State := { s with
    nozzles := Tab.mapWith (fun _ c => if c.state = .loaded then freeContext else c) s.nozzles,
    park := Tab.mapWith (fun _ x => match x with
      | .reserved _ => .empty
      | _ => x) s.park,
    table := { s.table with
      lines := Tab.mapWith (fun l x => if l ∈ dirty then { x with writeQueued := true } else x) s.table.lines,
      queue := s.table.queue ++ dirty.filterMap fun l => match (s.line l).content with
        | .held _ j _ => some (.write l j)
        | _ => none } }
  let count (y : State) : State :=
    { y with startUp := { y.startUp with interrupted := y.startUp.interrupted + 1 } }
  let atNozzles : State := (List.finRange 8).foldl (fun y n =>
    if (s.ctx n).state = .free ∨ (s.ctx n).state = .loaded then y else count (y.finishNozzle n .interrupted)) freed
  let inSlots : State := (List.finRange 4).foldl (fun y j => match s.slot j with
    | .holding x => count (((y.setSlot j .empty).handOn x.delivery .interrupted).postTo x.parkingPort
      (.deliveryDone x.delivery.ticket y.journal.nextSeq (y.finalNet x.delivery) .interrupted none))
    | _ => y) atNozzles
  (List.finRange 4).foldl (fun y j => match (s.tank j).receipt with
    | some r => (y.modTank j fun x => { x with receipt := none }).postOffice (.receiptResult j .cancelled r.docket 0 0
      false { substituted := r.substituted, overGauge := r.overGauge, clamped := r.clamped })
    | none => y) inSlots

/-! ### Configuration changes (R183) -/

/-- R183: a field of a CONFIG_SET is kept when it is not named, and otherwise takes the value its figure stands for. -/
def Replaced {α β : Type} (old : α) (figure : Option β) (means : β → α → Prop) (new : α) : Prop :=
  match figure with
  | none => new = old
  | some v => means v new

/-- A figure within its range, both ends included, stands for itself. -/
def figureIn (low high : Nat) (v new : Nat) : Prop := low ≤ v ∧ v ≤ high ∧ new = v

/-- R189: a flag is 0 or 1. -/
def flagFigure (v : Nat) (new : Bool) : Prop := v = 0 ∧ new = false ∨ v = 1 ∧ new = true

/-! ### Invariants -/

/-- R159: the entries' sequence numbers are consecutive and the next number follows the last entry's. -/
abbrev Journal.Consecutive (j : Journal) : Prop :=
  ∀ i : Fin j.entries.length, (j.entries[i.val]).seq = j.nextSeq - BitVec.ofNat 32 (j.entries.length - i.val)

/-- R166, R172: a queue holds at most 32 notices, and exactly 32 while the lost mark is set. -/
abbrev PortState.Bounded (x : PortState) : Prop :=
  x.notices.length ≤ 32 ∧ (x.lost = true → x.notices.length = 32)

/-- Every port's queue is bounded. -/
abbrev State.NoticesBounded (s : State) : Prop := ∀ p : Port, (s.port p).Bounded

/-- Every record in the cache is so. -/
abbrev State.RecordsSound (s : State) : Prop :=
  ∀ (l : LineId) (st : HeldState) (k : SlotId) (r : MachineRecord), (s.line l).content = .held st k r → r.Sound

end Machine

end Sys2Proof
end

