-- ==== Sys2Proof/Certificates/Slice0/Obligations.lean ====
section
/-! DEFINITION. Certificates/Slice0/Obligations.lean: what is claimed of the model, rule by rule of the spec. Most
statements have one form: in a state that meets the hypotheses, a command answers exactly the next state given. That
state is written as edits of the state before, so that everything not named in it is as it was: the equation is the
command's frame. `State.answered` and `State.idleAssembler` take the frame from the port's assembler (R168);
`State.startStore` is what the store interface does at the end of every event (R12). -/

open Sys2Proof Sys2Proof.Machine

/-! ### The queue of commands, and every command -/

/-- A step takes the command at the front of the queue and executes it with the queue's rest; on an empty queue the part
idles. The queue is the model's own (log 1, log 2); the spec's part takes its events one at a time. -/
def Obligations.StepTakesFrontCommand : Prop :=
  (∀ (c : Instr) (q : List Instr) (s : State), step { s with pending := c :: q } = exec c { s with pending := q })
  ∧ ∀ s : State, s.pending = [] → step s = .next s

/-- No command stops the part: every command, in every state, answers a next state, and leaves the commands waiting
behind it alone. That this holds in states no run reaches too is the model's choice (log 36), and the queue is the
model's own (log 1). -/
def Obligations.EveryCommandCompletes : Prop :=
  ∀ (c : Instr) (s : State), ∃ t, exec c s = .next t ∧ t.pending = s.pending

/-! ### What holds at every moment -/

/-- R159: the sequence numbers of the journal's entries are consecutive, and stay so over every step. -/
def Obligations.JournalNumbersStayConsecutive : Prop :=
  ∀ s t : State, s.journal.Consecutive → step s = .next t → t.journal.Consecutive

/-- R166, R172: a queue never holds more than 32 notices, and the lost mark is set only while it holds 32; both stay so
over every step. -/
def Obligations.NoticeQueuesStayBounded : Prop :=
  ∀ s t : State, s.NoticesBounded → step s = .next t → t.NoticesBounded

/-- R5, R140: in every cached machine record the service lines stand in ascending order of their numbers, 1 to 4, no two
alike, and the restricted flag is set exactly when an enforcing line is OVERDUE; every step keeps this, when a record
that a FETCH brings in from the store is so too. The premise on the fetched record is the model's (log 30): what the
store holds is outside the part. -/
def Obligations.CachedRecordsStaySound : Prop :=
  ∀ s t : State, s.RecordsSound →
    (∀ (r : MachineRecord) (q : List Instr), s.pending = .fetchComplete (.record r) :: q → r.Sound) →
    step s = .next t → t.RecordsSound

/-- R165, R178: after the cold start that `State.reset` is (the model's choice among the resets, log 4; a warm reset keeps
the journal) the journal is empty with 1 as the next number, every notice queue is empty with its lost mark clear, and no
record is cached, so the three invariants hold. -/
def Obligations.ResetMeetsInvariants : Prop :=
  State.reset.journal.Consecutive ∧ State.reset.journal.entries = [] ∧ State.reset.journal.nextSeq = 1
  ∧ State.reset.NoticesBounded ∧ State.reset.RecordsSound
  ∧ ∀ p : Port, (State.reset.port p).notices = [] ∧ (State.reset.port p).lost = false

/-! ### Frames and ports (chapter 10) -/

/-- R168, R169, R178: the tests of a complete frame that its request fails, in R168's order, the last two only when the
ones before them pass: the answer is the frame's code + 0x80 (its low byte, the model's choice, where the code is at
0x80 or above, log 49), its tag and the status, and nothing else of the part is touched but the assembler. A port that
transmits loses the frame (it transmits while its response line is not empty, the model's choice, log 32), and while the
configuration has not been loaded no port hears one. The end of the event is `State.settle`, which on a part still
starting may go on with start-up. A frame whose CRC failed is answered BAD_FRAME with its first two body bytes, whatever
is in hand; a frame of an unknown code PORT_BUSY behind a request in hand, else UNKNOWN_REQUEST. A frame whose CRC
matches and whose code is known, completed byte by byte, and whose fields do not have the length the code calls for, is
answered by the first of the same tests that it fails, and BAD_FIELD when it fails none (a body too short to hold the
nozzle it should name names none: log 53); so is one whose fields read as no request for another reason (a presence byte
above 1, log 31; the layout of CONFIG_SET, logs 8 and 9). -/
def Obligations.RefusedFramesTouchNothing : Prop :=
  (∀ (i : Instr) (p : Port) (c : ReqCode) (tag : Byte) (nozzle : Option Nat) (s : State),
    i.request = some (p, c, tag, nozzle) → s.running = true →
      (s.startUp.stage = .configuration → exec i s = .next s.startStore)
      ∧ (s.startUp.stage ≠ .configuration → (s.port p).line ≠ [] →
        exec i s = .next (s.modPort p fun x => { x with assembler := .idle }).settle)
      ∧ (s.startUp.stage ≠ .configuration → (s.port p).line = [] → (s.port p).inHand.isSome = true →
        exec i s = .next (s.answered p c tag .portBusy .nothing).settle)
      ∧ (s.startUp.stage ≠ .configuration → (s.port p).line = [] → (s.port p).inHand = none →
        s.startUp.stage ≠ .ready → c ≠ .deviceStatus →
        exec i s = .next (s.answered p c tag .starting .nothing).settle)
      ∧ (s.startUp.stage = .ready → (s.port p).line = [] → (s.port p).inHand = none →
        s.permits p c nozzle = false →
        exec i s = .next (s.answered p c tag .notPermitted .nothing).settle))
  ∧ (∀ (p : Port) (code tag : Byte) (s : State), s.Up → (s.port p).line = [] →
    exec (.badFrame p code tag) s =
        .next (s.modPort p fun x =>
          { x with assembler := .idle, line := [⟨code + 0x80, tag, .badFrame, .nothing⟩] }).startStore
    ∧ exec (.unknownRequest p code tag) s =
        .next (s.modPort p fun x =>
          { x with assembler := .idle,
                   line := [⟨code + 0x80, tag, if x.inHand.isSome then .portBusy else .unknownRequest,
                     .nothing⟩] }).startStore)
  ∧ ∀ (p : Port) (b l code tag : Byte) (fields crcHigh : List Byte) (k : Nat) (c : ReqCode) (s : State),
    s.running = true → s.startUp.stage ≠ .configuration → (s.port p).line = [] →
    (s.port p).assembler = .assembling (l :: code :: tag :: fields ++ crcHigh) k →
    l.toNat = fields.length + 2 → crcHigh.length = 1 →
    numberOf (crcHigh ++ [b]) = (crc (l :: code :: tag :: fields)).toNat → ReqCode.ofByte code = some c →
    let nozzle : Option Nat := (if c = .resume then fields[2]? else fields[0]?).map fun x => x.toNat
    let refused (st : Status) : Prop :=
      exec (.portByteReceived p b) s = .next (s.answered p c tag st .nothing).settle
    (¬ c.Fits fields → requestOf p tag c fields = none)
    ∧ (requestOf p tag c fields = none →
      ((s.port p).inHand.isSome = true → refused .portBusy)
      ∧ ((s.port p).inHand = none → s.startUp.stage ≠ .ready → c ≠ .deviceStatus → refused .starting)
      ∧ ((s.port p).inHand = none → s.startUp.stage = .ready → s.permits p c nozzle = false → refused .notPermitted)
      ∧ ((s.port p).inHand = none → (s.startUp.stage = .ready ∨ c = .deviceStatus) → s.permits p c nozzle = true →
        refused .badField))

/-- R170: which requests a port's role permits, the nozzle a request names counting from 1. -/
def Obligations.RolesPermitTheirRow : Prop :=
  ∀ (s : State) (p : Port) (c : ReqCode) (nozzle : Option Nat),
    s.permits p c nozzle = true ↔
      c ∈ [.nozzleStatus, .machineRead, .tankStatus, .clockRead, .deviceStatus, .nextNotice, .peekNotice, .noticeMask,
          .attentionSelect, .attentionAck]
      ∨ (s.role p = .island ∧ c ∈ [.steps, .start, .continueList, .stop, .abort, .park, .resume, .meterClear]
          ∧ ∃ n : NozzleId, nozzle = some (n.val + 1) ∧ (s.config.nozzles.read n).owner = p)
      ∨ (s.role p = .fleet ∧ c ∈ [.hours, .grant, .journalFetch, .journalRelease])
      ∨ (s.role p = .workshop ∧ c ∈ [.enrol, .withdraw, .machineSet, .standDown, .returnMachine, .rebuild, .setLine,
          .serviceDone, .waiver, .meterChange, .receiptOpen, .receiptClose, .stockAdjust, .reconcile, .configSet,
          .configRead, .storeRetry, .meterClear, .clockSet, .initialise, .journalFetch, .journalRelease])

/-- R167: the assembler byte by byte. At a port that is not transmitting: hunting, the length, and the bytes kept before
the last. A byte that arrives while the port transmits, and a frame timer that has run out, discard the frame under way;
nothing is sent. The expiry is a command of its own (log 1); a port transmits while its response line is not empty
(log 32); the lead byte shows a receive line that a break found low to be high again (log 23). -/
def Obligations.AssemblerTakesBytes : Prop :=
  ∀ (p : Port) (b : Byte) (s : State), s.Up →
    (∀ bytes, (s.port p).assembler = .assembling bytes 0 →
      exec (.frameTimerExpiry p) s = .next (s.modPort p fun x => { x with assembler := .idle }).startStore)
    ∧ ((s.port p).line ≠ [] →
      exec (.portByteReceived p b) s = .next (s.modPort p fun x => { x with assembler := .idle }).startStore)
    ∧ ((s.port p).line = [] →
      ((s.port p).assembler = .idle → b ≠ 0x5A → exec (.portByteReceived p b) s = .next s.startStore)
      ∧ ((s.port p).assembler = .idle → b = 0x5A →
        exec (.portByteReceived p b) s =
          .next (s.modPort p fun x => { x with receive := .high, assembler := .assembling [] 2 }).startStore)
      ∧ (∀ k, (s.port p).assembler = .assembling [] k → 2 ≤ b.toNat → b.toNat ≤ 200 →
        exec (.portByteReceived p b) s = .next (s.modPort p fun x => { x with assembler := .assembling [b] 2 }).startStore)
      ∧ (∀ k, (s.port p).assembler = .assembling [] k → (b.toNat < 2 ∨ 200 < b.toNat) →
        exec (.portByteReceived p b) s = .next (s.modPort p fun x => { x with assembler := .idle }).startStore)
      ∧ (∀ k l rest, (s.port p).assembler = .assembling (l :: rest) k → rest.length + 1 < l.toNat + 2 →
        exec (.portByteReceived p b) s =
          .next (s.modPort p fun x => { x with assembler := .assembling (l :: rest ++ [b]) 2 }).startStore))

/-- R167, R168: the byte that completes a frame whose two CRC bytes match and whose body reads as a request is that
request's command. -/
def Obligations.CompletedFrameIsItsRequest : Prop :=
  ∀ (p : Port) (b l code tag : Byte) (fields crcHigh : List Byte) (k : Nat) (c : ReqCode) (i : Instr) (s : State),
    s.Up → (s.port p).line = [] →
    (s.port p).assembler = .assembling (l :: code :: tag :: fields ++ crcHigh) k →
    l.toNat = fields.length + 2 → crcHigh.length = 1 →
    numberOf (crcHigh ++ [b]) = (crc (l :: code :: tag :: fields)).toNat →
    ReqCode.ofByte code = some c → requestOf p tag c fields = some i →
    exec (.portByteReceived p b) s = exec i s

/-- R169, R183, R184: the response at the head of the line has been sent; a line left empty takes the configured baud
rate; the OK to INITIALISE makes its reset due, which the model takes as a command of its own (log 24). -/
def Obligations.SentResponseLeavesLine : Prop :=
  ∀ (p : Port) (r : Response) (rest : List Response) (s : State), s.Up → (s.port p).line = r :: rest →
    exec (.responseSent p) s =
      .next ({ s with
        ports := s.ports.write p
          { s.port p with line := rest,
                          baud := if rest = [] then (s.config.ports.read p).baud else (s.port p).baud },
        power := { s.power with initialiseDue :=
          s.power.initialiseDue || decide (r.code = 0xB2 ∧ r.status = .ok) } } : State).startStore

/-- R177: a line break on a port with nothing waiting in the machine table unit: the assembler IDLE, no request in hand,
the response line, the notices, the lost mark and the attention line clear; its mask and selection, and everything
outside the port, are kept. Its response line being empty, the port takes its configured baud rate (R183, as log 32 reads
it). A port whose receive line has not returned high since its last break is reset no further (log 23). -/
def Obligations.BreakResetsItsPort : Prop :=
  ∀ (p : Port) (s : State), s.Up →
    (∀ l, Requester.port p ∉ (s.line l).waiters) → s.table.lineWait = [] →
    (∀ op ∈ s.table.queue, op.askedBy p = false) → (∀ x, s.table.inFlight = some x → x.op.askedBy p = false) →
    ((s.port p).receive = .high → exec (.portReset p) s =
      .next (s.modPort p fun x =>
        { x with receive := .low, assembler := .idle, inHand := none, line := [], notices := [], lost := false,
                 attention := false, baud := (s.config.ports.read p).baud }).startStore)
    ∧ ((s.port p).receive ≠ .high → exec (.portReset p) s =
      .next (s.modPort p fun x => { x with receive := .low }).startStore)

/-- R25, R177: a line break takes its port's request, and no other, out of every waiting list, and a number left with no
requester out of the line wait list; an ERASE it asked for and still queued is removed and its slot is USED again, and
one in flight runs to its end and reaches no one. First, what a withdrawal of any requester, a port or the IDENT of a
nozzle (R100), takes out of those lists. -/
def Obligations.BreakWithdrawsItsRequest : Prop :=
  (∀ (who : Requester) (s : State),
    let keep (ws : List Requester) : List Requester := ws.filter fun w => !decide (w = who)
    s.withdrawRequester who = { s with table := { s.table with
      lines := Tab.mapWith (fun _ x => { x with waiters := keep x.waiters }) s.table.lines,
      lineWait := (s.table.lineWait.map fun x => (x.1, keep x.2)).filter fun x => decide (x.2 ≠ []) } })
  ∧ ∀ (p : Port) (s : State), s.Up → (s.port p).receive = .high → ∃ t, exec (.portReset p) s = .next (State.startStore t)
    ∧ (t.port p).inHand = none
    ∧ (∀ l, t.line l = { s.line l with waiters := (s.line l).waiters.filter (fun w => !decide (w = .port p)) })
    ∧ t.table.lineWait = (s.table.lineWait.map fun x => (x.1, x.2.filter (fun w => !decide (w = .port p)))).filter
        (fun x => decide (x.2 ≠ []))
    ∧ (∀ x, s.table.inFlight = some x →
        (∀ k, x.op = .erase k (some p) → t.table.inFlight = some { x with op := .erase k none })
        ∧ (x.op.askedBy p = false → t.table.inFlight = some x))
    ∧ (s.table.inFlight = none → t.table.inFlight = none)
    ∧ t.table.queue = s.table.queue.filter (fun op => !op.askedBy p)
    ∧ (∀ k, StoreOp.erase k (some p) ∈ s.table.queue → t.slotState k = .used)
    ∧ (∀ k, StoreOp.erase k (some p) ∉ s.table.queue → t.slotState k = s.slotState k)
    ∧ (∀ q, q ≠ p → t.port q = s.port q)
    ∧ t.table.index = s.table.index ∧ t.table.useOrder = s.table.useOrder ∧ t.table.faulted = s.table.faulted
    ∧ t.table.failures = s.table.failures ∧ t.table.duplicates = s.table.duplicates ∧ t.table.unread = s.table.unread
    ∧ { t with table := s.table, ports := s.ports } = s

/-- R171, R172, R175: what a notice does at each port it is posted to, and which ports each routing names: one port, the
ports whose role, read at the moment of posting, is the one named, every WORKSHOP and FLEET port, and every port. Nothing
but the ports is touched. -/
def Obligations.NoticeEntersQueue : Prop :=
  ∀ (s : State) (d : Port → Bool) (b : NoticeBody) (p : Port),
    let n : Notice := { time := s.clock.siteTime, body := b }
    let x := s.port p
    let y := (s.postWhere d b).port p
    (d p = false → y = x)
    ∧ (d p = true → maskHas x.mask b.kind = true → y = x)
    ∧ (d p = true → maskHas x.mask b.kind = false → x.notices.length < 32 →
        y = { x with notices := x.notices ++ [n], attention := x.attention
                || (x.select.nonEmpty && x.notices.isEmpty)
                || (x.select.at16 && decide (x.notices.length = 15)) })
    ∧ (d p = true → maskHas x.mask b.kind = false → 32 ≤ x.notices.length →
        y = { x with lost := true, attention := x.attention || (x.select.lost && !x.lost) })
    ∧ { s.postWhere d b with ports := s.ports } = s
    ∧ s.postTo p b = s.postWhere (fun q => decide (q = p)) b
    ∧ (∀ r, s.postRole r b = s.postWhere (fun q => decide ((s.config.ports.read q).role = r)) b)
    ∧ s.postOffice b = s.postWhere
        (fun q => decide ((s.config.ports.read q).role = .workshop ∨ (s.config.ports.read q).role = .fleet)) b
    ∧ (∀ l, s.postOffices (b :: l) = (s.postOffice b).postOffices l ∧ s.postOffices [] = s)
    ∧ s.postAll b = s.postWhere (fun _ => true) b

/-- R173: NEXT_NOTICE and PEEK_NOTICE, from any role. -/
def Obligations.NoticesReadOldestFirst : Prop :=
  ∀ (p : Port) (tag : Byte) (s : State), s.Accepts p →
    ((s.port p).notices = [] →
      exec (.nextNotice p tag) s =
        .next (s.answered p .nextNotice tag .empty (.notice (s.port p).lost 0 none)).startStore
      ∧ exec (.peekNotice p tag) s =
        .next (s.answered p .peekNotice tag .empty (.notice (s.port p).lost 0 none)).startStore)
    ∧ ∀ n rest, (s.port p).notices = n :: rest →
      exec (.nextNotice p tag) s =
        .next ((s.modPort p fun x => { x with notices := rest, lost := false }).answered p .nextNotice tag .ok
          (.notice (s.port p).lost rest.length (some n))).startStore
      ∧ exec (.peekNotice p tag) s =
        .next (s.answered p .peekNotice tag .ok
          (.notice (s.port p).lost (rest.length + 1) (some n))).startStore

/-- R174: NOTICE_MASK, from any role. The bits 1 to 18 stand for the kinds that can be masked; bit 19 is STARTED and no
other bit is a kind. A masked notice does not enter the queue, and notices already queued stay. -/
def Obligations.NoticeMaskReplaced : Prop :=
  ∀ (p : Port) (tag : Byte) (kinds : Word32) (s : State), s.Accepts p →
    ((∀ i : Fin 32, kinds.getLsbD i = true → 1 ≤ i.val ∧ i.val ≤ 18) →
      exec (.noticeMask p tag kinds) s =
        .next ((s.modPort p fun x => { x with mask := kinds }).answered p .noticeMask tag .ok (.mask kinds)).startStore
      ∧ ∀ n : Notice, kinds.getLsbD n.body.kind.code = true →
        enterNotice n { s.port p with mask := kinds } = { s.port p with mask := kinds })
    ∧ (∀ i : Fin 32, kinds.getLsbD i = true → (i.val = 0 ∨ 19 ≤ i.val) →
      exec (.noticeMask p tag kinds) s = .next (s.answered p .noticeMask tag .badField .nothing).startStore)

/-- R176: ATTENTION_SELECT and ATTENTION_ACK, from any role. -/
def Obligations.AttentionSelectedAndAcknowledged : Prop :=
  ∀ (p : Port) (tag b : Byte) (s : State), s.Accepts p →
    let now : Conditions :=
      { nonEmpty := decide ((s.port p).notices ≠ []), at16 := decide (16 ≤ (s.port p).notices.length),
        lost := (s.port p).lost }
    let sel : Conditions := { nonEmpty := b.getLsbD 0, at16 := b.getLsbD 1, lost := b.getLsbD 2 }
    (b.toNat < 8 → exec (.attentionSelect p tag b) s =
      .next ((s.modPort p fun x => { x with select := sel }).answered p .attentionSelect tag .ok
        (.attention (some sel) now (some (s.port p).attention))).startStore)
    ∧ (8 ≤ b.toNat → exec (.attentionSelect p tag b) s =
      .next (s.answered p .attentionSelect tag .badField .nothing).startStore)
    ∧ exec (.attentionAck p tag) s =
      .next ((s.modPort p fun x => { x with attention := false }).answered p .attentionAck tag .ok
        (.attention none now none)).startStore

/-! ### Status requests -/

/-- R50, R76, R81, R157, R166, R180, R186: the status requests, from any role, answer what stands and change nothing
else: NOZZLE_STATUS with each leg's average temperature and CTL, TANK_STATUS with the usable stock and the ullage,
CLOCK_READ, and the five sections of DEVICE_STATUS, with the journal's figures in section 0, the cache lines, the park
table, the ports, and the channels and meters. DEVICE_STATUS is answered before READY too, from the moment the ports are
heard. That its own request is not counted in hand is the model's reading (log 44). -/
def Obligations.StatusRequestsOnlyAnswer : Prop :=
  ∀ (p : Port) (tag : Byte) (s : State),
    let sections : List Payload :=
      [.device
        { startUp := s.startUp, siteTime := s.clock.siteTime, shift := s.clock.shift, ticks := s.clock.ticks,
          epoch := s.config.time.epoch, faulted := s.table.faulted, failures := s.table.failures,
          duplicates := s.table.duplicates, unread := s.table.unread, entries := s.journal.entries.length,
          reservations := s.journal.reservations, head := s.journal.entries.head?.map (fun x => x.seq),
          nextSeq := s.journal.nextSeq, threshold := s.config.service.journalThreshold,
          full := decide (256 ≤ s.journal.entries.length + s.journal.reservations) },
       .cache ((List.finRange 16).map fun l =>
        let x := s.line l
        { fetching := match x.content with | .fetching _ _ => true | _ => false,
          state := match x.content with | .held st _ _ => some st | _ => none,
          pinned := x.pinned,
          fleet := match x.content with | .empty => none | .fetching f _ => some f | .held _ _ r => some r.fleet }),
       .parkTable ((List.finRange 4).map fun k => match s.slot k with
        | .empty => .empty
        | .reserved n => .reserved n
        | .holding x => .holding x (x.delivery.product.getD (s.config.tanks.read x.delivery.tank).product)
          (x.delivery.legs.map fun l => l.net).sum),
       .portTable ((List.finRange 4).map fun q =>
        let x := s.port q
        { role := (s.config.ports.read q).role, baud := x.baud, inHand := x.inHand.map fun h => h.request,
          notices := x.notices.length, lost := x.lost, mask := x.mask, select := x.select, attention := x.attention }),
       .probes ((List.finRange 16).map fun i => s.scanner.channels.read i)
        ((List.finRange 8).map fun n => (s.meter n).state)]
    (s.running = true → s.startUp.stage ≠ .configuration → s.startUp.stage ≠ .ready → (s.port p).line = [] →
        (s.port p).inHand = none → ∀ (k : Nat) (f : Payload), sections[k]? = some f →
      exec (.deviceStatus p tag k) s = .next (s.answered p .deviceStatus tag .ok f).settle)
    ∧ (s.Accepts p →
      (∀ n : NozzleId,
        let d := s.delivery n
        let product := s.config.products.read (d.product.getD (s.config.tanks.read d.tank).product)
        let temp (l : Leg) : Int := if l.gross = 0 then product.defaultTemp else divAway l.fwt l.gross
        exec (.nozzleStatus p tag (n.val + 1)) s =
          .next (s.answered p .nozzleStatus tag .ok (.nozzle
            { nozzle := n, config := s.config.nozzles.read n, context := s.ctx n, meter := s.meter n,
              figures := d.legs.map fun l => { leg := l, avgTemp := temp l, ctl := ctlOf product.alpha (temp l) },
              running := (d.legs.map fun l => l.net).sum, fullFlow := decide ((s.ctx n).state = .flowFull),
              slowFlow := decide ((s.ctx n).state = .flowFull ∨ (s.ctx n).state = .flowSlow) })).startStore)
      ∧ (∀ (t : TankId) (level temp : ChannelId), level.val = 8 + t.val → temp.val = 12 + t.val →
        let k := s.tank t
        let capacity : Int := (s.config.tanks.read t).capacity
        exec (.tankStatus p tag (t.val + 1)) s =
          .next (s.answered p .tankStatus tag .ok (.tank
            { tank := t, config := s.config.tanks.read t, dynamic := k,
              usable := match k.book, k.gauge.net with
                | some b, some g => min b (g : Int)
                | some b, none => b
                | none, some g => (g : Int)
                | none, none => 0,
              ullage := (max 0 (match k.book, k.gauge.net with
                | _, some g => capacity - (g : Int)
                | some b, none => capacity - b
                | none, none => capacity)).toNat,
              levelChannel := s.scanner.channels.read level,
              tempChannel := s.scanner.channels.read temp })).startStore)
      ∧ exec (.clockRead p tag) s =
        .next (s.answered p .clockRead tag .ok (.clock s.clock.siteTime s.config.time.epoch s.clock.shift s.clock.ticks
          s.config.time.shiftLength)).startStore
      ∧ ∀ (k : Nat) (f : Payload), sections[k]? = some f →
        exec (.deviceStatus p tag k) s = .next (s.answered p .deviceStatus tag .ok f).startStore)

/-- A nozzle, tank or section outside its range is answered BAD_FIELD: nozzles 1 to 8, tanks 1 to 4, sections 0 to 4,
configuration groups 0 to 9 (for these the answer is the model's reading, log 17); and so are the tanks of RECEIPT_OPEN,
RECEIPT_CLOSE and STOCK_ADJUST. -/
def Obligations.NumbersOutOfRangeAreBadField : Prop :=
  ∀ (p : Port) (tag : Byte) (k : Nat) (s : State), s.Accepts p →
    (k = 0 ∨ 8 < k → exec (.nozzleStatus p tag k) s =
      .next (s.answered p .nozzleStatus tag .badField .nothing).startStore)
    ∧ (k = 0 ∨ 4 < k → exec (.tankStatus p tag k) s =
      .next (s.answered p .tankStatus tag .badField .nothing).startStore)
    ∧ (4 < k → exec (.deviceStatus p tag k) s =
      .next (s.answered p .deviceStatus tag .badField .nothing).startStore)
    ∧ (k = 0 ∨ 8 < k → s.role p = .workshop → exec (.meterClear p tag k) s =
      .next (s.answered p .meterClear tag .badField .nothing).startStore)
    ∧ (9 < k → s.role p = .workshop → exec (.configRead p tag k) s =
      .next (s.answered p .configRead tag .badField .nothing).startStore)
    ∧ (k = 0 ∨ 4 < k → s.role p = .workshop →
      (∀ docket, exec (.receiptOpen p tag k docket) s =
        .next (s.answered p .receiptOpen tag .badField .nothing).startStore)
      ∧ exec (.receiptClose p tag k) s = .next (s.answered p .receiptClose tag .badField .nothing).startStore
      ∧ ∀ amount, exec (.stockAdjust p tag k amount) s =
        .next (s.answered p .stockAdjust tag .badField .nothing).startStore)

/-! ### Resets and start-up (chapter 11) -/

/-- R184, R23, R42, R77, R106, R136, R165, R178: with the retained check bad, or the backup supply lost, a reset takes the
cold path: the part is as after the first power-up, with start-up in its first stage. The commands waiting and the
counter of free values are the model's own (log 1, log 11); the check word is a flag (log 21), and how the RESET line and
the supply act together is the model's reading (log 22). Before the configuration is loaded the working configuration, the
baud rates and the scan timer are the defaults (log 25), the slot map is FREE and the CONFIG_READ is in flight (log 4). -/
def Obligations.ColdResetClearsEverything : Prop :=
  ∀ (s : State),
    (s.power.powered = true → s.power.checkGood = false →
      exec .reset s = .next { State.reset with
        pending := s.pending, freeIndex := s.freeIndex,
        startUp := { State.reset.startUp with cause := .resetLine } })
    ∧ (∀ held : Bool, s.power.resetLow = false → (s.power.checkGood && held) = false →
      exec (.powerUp held) s = .next { State.reset with pending := s.pending, freeIndex := s.freeIndex })
    ∧ (s.Up → s.power.checkGood = false → s.power.initialiseDue = true →
      exec .initialiseReset s = .next { State.reset with
        pending := s.pending, freeIndex := s.freeIndex,
        startUp := { State.reset.startUp with cause := .initialise } })

/-- R24, R184: with the retained check good a reset takes the warm path, whatever its cause, and what becomes of each
cache line then, by its state. The check word is a flag (log 21); how the RESET line and the supply act together is the
model's reading (log 22). Before the configuration is loaded the working configuration, the baud rates and the scan
timer are the defaults (log 25), the slot map is FREE and the CONFIG_READ is in flight (log 4). The count of INTERRUPTED
deliveries starts again at 0, also after a reset that cut a start-up short: the model's choice (log 46). The commands
waiting and the counter of free values are the model's own, and are kept (logs 1 and 11). -/
def Obligations.WarmResetRetains : Prop :=
  ∀ (s : State), s.power.checkGood = true →
    (s.power.powered = true → exec .reset s = .next (s.warmStart .resetLine))
    ∧ (s.power.resetLow = false → exec (.powerUp true) s = .next (s.warmStart .powerUp))
    ∧ (s.Up → s.power.initialiseDue = true → exec .initialiseReset s = .next (s.warmStart .initialise))
    ∧ ∀ (cause : ResetCause) (l : LineId) (k : SlotId) (r : MachineRecord),
      let x := s.line l
      let y := (s.warmStart cause).line l
      y.waiters = [] ∧ y.pinned = (x.pinned && (s.recordAt l).isSome)
      ∧ (x.content = .empty → y.content = .empty)
      ∧ (∀ f, x.content = .fetching f k → y.content = .empty)
      ∧ (x.content = .held .clean k r → y.content = .held .clean k r)
      ∧ (x.content = .held .dirty k r → y.content = .held .dirty k r ∧ y.writeQueued = true)
      ∧ (x.content = .held .writing k r → y.content = .held .dirty k r ∧ y.writeQueued = true)

/-- R179, R184: a RESET held low and a loss of the main supply put the part in reset: the retained items and the clock
stand, everything else has its reset value, no operation is in flight, and every output is off. While it lasts no event
but a reset or a power change reaches the part, except that under RESET a tick goes on counting time, with the rollover of
the shift in the same tick. Of the RESET line and the supply together this is the model's reading (log 22). -/
def Obligations.StoppedPartStandsStill : Prop :=
  ∀ s : State,
    let stopped (p : Power) : State := { s with
      power := { p with initialiseDue := false }, startUp := { s.startUp with stage := .configuration },
      table := { State.reset.table with
        inFlight := none, lines := Tab.mapWith (fun _ x => settledLine x) s.table.lines,
        useOrder := s.table.useOrder },
      meters := State.reset.meters, scanner := State.reset.scanner, expired := [], ports := State.reset.ports,
      tanks := Tab.mapWith (fun _ t => { t with gauge := invalidGauge, pump := stoppedPump }) s.tanks }
    exec .resetHeldLow s = .next (stopped { s.power with resetLow := true })
    ∧ exec .powerDown s = .next (stopped { s.power with powered := false })
    ∧ (s.running = false →
      (∀ n, s.fullFlow n = false ∧ s.slowFlow n = false) ∧ (∀ k, s.pumpRun k = false)
      ∧ ∀ i : Instr, i ≠ .tick → i ≠ .reset → i ≠ .resetHeldLow → i ≠ .powerDown →
        (∀ b, i ≠ .powerUp b) → exec i s = .next s)
    ∧ (s.power.powered = false → exec .tick s = .next s)
    ∧ (s.power.powered = true → s.power.resetLow = true → s.clock.rolloverDue = false →
      exec .tick s = .next { s with clock :=
        if s.clock.ticks + 1 < s.config.time.shiftLength then
          { s.clock with siteTime := s.clock.siteTime + 1, ticks := s.clock.ticks + 1 }
        else { s.clock with siteTime := s.clock.siteTime + 1, shift := s.clock.shift + 1, ticks := 0 } })

/-- R15, R77, R78, R181, R185 stages 1 and 2: the configuration read in start-up, with nothing queued behind it. A first
read that fails, or fails its check, is tried once more; a good image is loaded as it is, and after a second failure the
defaults are. The ports take their bauds, the scan timer its divisor (log 25), and the tanks are evaluated (R77, R78),
in the order T1 to T4, which is the model's choice (log 47). On the cold path a good image has its epoch advanced,
passing over 0, and written before the headers are read; its CONFIG_WRITE failing short of the third failure running is
tried again. On the warm path, and with the defaults, the read of slot 0's header starts. -/
def Obligations.ConfigurationLoaded : Prop :=
  (∀ (retry : Bool) (s : State),
    s.running = true → s.startUp.stage = .configuration → s.table.faulted = false → s.table.queue = [] →
    s.table.inFlight = some { op := .configRead retry, data := .nothing, discarded := false } →
    (∀ p, (s.port p).inHand = none) →
    let loaded (c : Configuration) (defaulted : Bool) : State :=
      let y : State := { s with
        config := c, startUp := { s.startUp with defaulted := defaulted },
        scanner := { s.scanner with timer := c.probes.divisor },
        ports := Tab.mapWith (fun p x => if x.line = [] then { x with baud := (c.ports.read p).baud } else x) s.ports }
      (((y.evaluateTank 0).evaluateTank 1).evaluateTank 2).evaluateTank 3
    let goesOn (y : State) (stage : Stage) (failures : Nat) (op : StoreOp) (data : StoreData) : State :=
      { y with
        startUp := { y.startUp with stage := stage },
        table := { s.table with
          failures := failures, inFlight := some { op := op, data := data, discarded := false } } }
    (∀ c : Configuration,
      (s.startUp.cold = false → exec (.configReadComplete (.image c)) s =
        .next (goesOn (loaded c false) .index 0 (.headerRead 0 false) .nothing))
      ∧ (s.startUp.cold = true →
        let new : Configuration := { c with time := { c.time with
          epoch := if c.time.epoch = 0xFFFFFFFF then 1 else c.time.epoch + 1 } }
        exec (.configReadComplete (.image c)) s =
          .next { goesOn (loaded c false) .epoch 0 .configWrite (.image new) with config := new }))
    ∧ ∀ res : ConfigResult, (res = .failed ∨ res = .badCheck) →
      (retry = false → exec (.configReadComplete res) s =
        .next (goesOn s .configuration (s.table.failures + 1) (.configRead true) .nothing))
      ∧ (retry = true → exec (.configReadComplete res) s =
        .next (goesOn (loaded defaultConfiguration true) .index (s.table.failures + 1) (.headerRead 0 false)
          .nothing)))
  ∧ ∀ (data : StoreData) (s : State),
    s.running = true → s.startUp.stage = .epoch → s.table.faulted = false → s.table.queue = [] →
    s.table.inFlight = some { op := .configWrite, data := data, discarded := false } →
    (∀ p, (s.port p).inHand = none) →
    exec (.configWriteComplete true) s = .next { s with
      startUp := { s.startUp with stage := .index },
      table := { s.table with
        failures := 0, inFlight := some { op := .headerRead 0 false, data := .nothing, discarded := false } } }
    ∧ (s.table.failures + 1 < 3 → exec (.configWriteComplete false) s = .next { s with table := { s.table with
        failures := s.table.failures + 1,
        inFlight := some { op := .configWrite, data := .image s.config, discarded := false } } })

/-- R1, R3: a header read in start-up, with another slot after it. A slot that a CLEAN or DIRTY line holds is taken to
hold that line's number. Otherwise a slot read free is FREE, and one read with a number 1 to 9,999 is USED, with an
entry GOOD for a new number and counted as duplicate for one already in the index. A header that fails, or reads out of
range, is tried once more (for a held slot too: the model's choice, log 20; the read of one out of range counts as a
success in the run of failures: its reading, log 19); on a second failure the slot is USED and counted as unread. A
failed read counts toward the interface's failures, here short of the third. The next slot's header is read. An entry
inserted stands at its place in the ascending order of fleet numbers. -/
def Obligations.HeaderReadBuildsIndex : Prop :=
  (∀ (e : IndexEntry) (l : List IndexEntry), l.Pairwise (fun a b => a.fleet < b.fleet) → (∀ x ∈ l, x.fleet ≠ e.fleet) →
    insertEntry e l = l.filter (fun x => decide (x.fleet < e.fleet)) ++ [e]
      ++ l.filter (fun x => decide (e.fleet < x.fleet)))
  ∧ ∀ (k : SlotId) (retry : Bool) (s : State), s.running = true → s.startUp.stage = .index →
    s.table.faulted = false → s.table.queue = [] →
    s.table.inFlight = some { op := .headerRead k retry, data := .nothing, discarded := false } →
    ∀ (hk : k.val + 1 < 512),
    let after (failures : Nat) (x : SlotState) (index : List IndexEntry) (dup unread : Nat) : State := { s with
      startUp := { s.startUp with nextHeader := k.val + 1 },
      table := { s.table with
        failures := failures, slots := s.table.slots.write k x, index := index,
        duplicates := s.table.duplicates + dup, unread := s.table.unread + unread,
        inFlight := some { op := .headerRead ⟨k.val + 1, hk⟩ false, data := .nothing, discarded := false } } }
    let number (failures n : Nat) : State :=
      if (s.entry n).isSome then after failures .used s.table.index 1 0
      else after failures .used (insertEntry { fleet := n, slot := k, damaged := false } s.table.index) 0 0
    let takes (res : HeaderResult) (y : State) : Prop := exec (.headerReadComplete res) s = .next y
    let again (failures : Nat) : State := { s with table := { s.table with
      failures := failures, inFlight := some { op := .headerRead k true, data := .nothing, discarded := false } } }
    (∀ m, s.slotHolder k = some m ↔ ∃ l : LineId, (∃ st r, (s.line l).content = .held st k r ∧ r.fleet = m)
      ∧ ∀ j : LineId, j < l → ∀ st r, (s.line j).content ≠ .held st k r)
    ∧ (s.slotHolder k = none → takes .free (after 0 .free s.table.index 0 0))
    ∧ (∀ n, s.slotHolder k = none → 1 ≤ n → n ≤ 9999 → takes (.fleet n) (number 0 n))
    ∧ (∀ m, s.slotHolder k = some m →
      takes .free (number 0 m) ∧ ∀ n, 1 ≤ n → n ≤ 9999 → takes (.fleet n) (number 0 m))
    ∧ (retry = false →
      (∀ n, (n = 0 ∨ 9999 < n) → takes (.fleet n) (again 0))
      ∧ (s.table.failures + 1 < 3 → takes .failed (again (s.table.failures + 1))))
    ∧ (retry = true →
      (∀ n, (n = 0 ∨ 9999 < n) →
        (s.slotHolder k = none → takes (.fleet n) (after 0 .used s.table.index 0 1))
        ∧ ∀ m, s.slotHolder k = some m → takes (.fleet n) (number 0 m))
      ∧ (s.table.failures + 1 < 3 →
        (s.slotHolder k = none → takes .failed (after (s.table.failures + 1) .used s.table.index 0 1))
        ∧ ∀ m, s.slotHolder k = some m → takes .failed (number (s.table.failures + 1) m)))

/-- R72, R106, R136, R185 stages 3 to 6, R186: the last header, here of a free slot that no line holds, ends the index.
On the cold path the part is READY in the same event and STARTED is posted to every port. On the warm path the WRITE of
each DIRTY line is queued and open business is settled, as `State.businessSettled` has it (with the model's choice of
log 40). The part is READY at once when that leaves no write, and otherwise when the last WRITE has ended. -/
def Obligations.StartUpSettlesOpenBusiness : Prop :=
  (∀ (k : SlotId) (retry : Bool) (s : State), k.val = 511 → s.running = true → s.startUp.stage = .index →
    s.table.faulted = false → s.table.queue = [] → s.slotHolder k = none →
    s.table.inFlight = some { op := .headerRead k retry, data := .nothing, discarded := false } →
    let read : State := { s with
      startUp := { s.startUp with nextHeader := 512 },
      table := { s.table with failures := 0, slots := s.table.slots.write k .free, inFlight := none } }
    (s.startUp.cold = true → exec (.headerReadComplete .free) s = .next read.becomesReady)
    ∧ (s.startUp.cold = false →
      (read.businessSettled.table.queue = [] → exec (.headerReadComplete .free) s =
        .next read.businessSettled.becomesReady)
      ∧ (read.businessSettled.table.queue ≠ [] → exec (.headerReadComplete .free) s =
        .next ({ read.businessSettled with
          startUp := { read.businessSettled.startUp with stage := .writes } } : State).startStore)))
  ∧ ∀ (l : LineId) (k : SlotId) (data : StoreData) (r : MachineRecord) (s : State), s.running = true →
    s.startUp.stage = .writes → s.table.faulted = false → s.table.queue = [] → s.table.lineWait = [] →
    s.table.inFlight = some { op := .write l k, data := data, discarded := false } →
    (s.line l).content = .held .writing k r → (s.line l).writeQueued = false →
    let line (x : HeldState) : Tab CacheLine 16 := s.table.lines.write l { s.line l with content := .held x k r }
    exec (.writeComplete true) s = .next
      ({ s with table := { s.table with failures := 0, inFlight := none, lines := line .clean } } : State).becomesReady
    ∧ (s.table.failures + 1 < 3 → exec (.writeComplete false) s = .next { s with table := { s.table with
      failures := s.table.failures + 1,
      inFlight := some { op := .write l k, data := .record r, discarded := false }, lines := line .writing } })

/-- R3, R15, R185: the third failure running in start-up, of a header read, of the CONFIG_WRITE of the new epoch, or of a
WRITE that start-up waits for. The interface is FAULTED, STORE_STATE is told to every port (before the notices of open
business, the model's reading, log 13), and start-up does not wait on the store: every slot not yet read is USED and
counted as unread, the index stays as built so far, open business is settled on the warm path, the writes stay queued, and
the part is READY in the same event. That a slot not yet read is counted also where a cache line holds it, and that a
header whose retry has failed is settled first as any second failure, is the model's choice (log 20). -/
def Obligations.FaultedStoreDoesNotHoldStartUp : Prop :=
  ∀ (data : StoreData) (s : State), s.running = true → s.table.failures = 2 → s.table.faulted = false →
    s.table.lineWait = [] → (∀ p, (s.port p).inHand = none) →
    let faulted (y : State) : State :=
      ({ y with table := { y.table with failures := 3, inFlight := none, faulted := true } } : State).postAll
        (.storeState true)
    let unread (j : Nat) (y : State) : State := { y with table := { y.table with
      slots := Tab.mapWith (fun i x => if j ≤ i.val then .used else x) y.table.slots,
      unread := y.table.unread + (512 - j) } }
    let goesOn (y : State) : State := (if s.startUp.cold = true then y else y.businessSettled).becomesReady
    (∀ k retry, s.startUp.stage = .index → s.table.queue = [] →
        s.table.inFlight = some { op := .headerRead k retry, data := data, discarded := false } →
      ((retry = false ∨ s.slotHolder k = none) →
        exec (.headerReadComplete .failed) s = .next (goesOn (faulted (unread k.val s))))
      ∧ (∀ m, retry = true → s.slotHolder k = some m →
        let entered : MachineTable :=
          if (s.entry m).isSome then { s.table with duplicates := s.table.duplicates + 1 }
          else { s.table with index := insertEntry { fleet := m, slot := k, damaged := false } s.table.index }
        exec (.headerReadComplete .failed) s =
          .next (goesOn (faulted (unread (k.val + 1)
            { s with table := { entered with slots := s.table.slots.write k .used } })))))
    ∧ (s.startUp.stage = .epoch → s.table.queue = [] →
        s.table.inFlight = some { op := .configWrite, data := data, discarded := false } →
      exec (.configWriteComplete false) s =
        .next (goesOn (faulted (unread 0 { s with table := { s.table with queue := [.configWrite] } }))))
    ∧ (∀ l k st r, s.startUp.stage = .writes → (∀ op ∈ s.table.queue, op = .configWrite ∨ ∃ j i, op = .write j i) →
        s.table.inFlight = some { op := .write l k, data := data, discarded := false } →
        (s.line l).content = .held st k r →
      exec (.writeComplete false) s = .next (faulted { s with table := { s.table with
        lines := s.table.lines.write l { s.line l with content := .held .dirty k r, writeQueued := true },
        queue := if (s.line l).writeQueued then s.table.queue else s.table.queue ++ [.write l k] } }).becomesReady)

/-! ### Time (section 11.1) -/

/-- R179, R180: a tick counts site time and the ticks into the shift up, and every running timer down: those of contexts
and park slots, which do not run before READY (R106, R136), the creep windows, the pumps' timers, the scan timer and the
frame timers; a shift that has run its length makes a rollover due. A timer at 0 waits there for its own expiry, and a
rollover that is due for its own command; one still waiting at the next tick is carried out before it counts (log 1, log
7). A receive line that a break found low is taken to be high again at the second tick after (log 23). -/
def Obligations.TickCountsTime : Prop :=
  ∀ s : State, s.running = true →
    let x : State :=
      if s.clock.rolloverDue then
        (({ s with clock := { s.clock with shift := s.clock.shift + 1, ticks := 0, rolloverDue := false } } :
          State).postAll (.shiftRollover (s.clock.shift + 1) s.clock.siteTime)).reconcileAll .rollover |>.settle
      else s
    ∃ t, exec .tick s = .next t
    ∧ t.clock = { x.clock with siteTime := x.clock.siteTime + 1, ticks := x.clock.ticks + 1,
                               rolloverDue := decide (s.config.time.shiftLength ≤ x.clock.ticks + 1) }
    ∧ (x.startUp.stage = .ready → ∀ n, t.ctx n = { x.ctx n with
        hold := (x.ctx n).hold.map (· - 1), stall := (x.ctx n).stall.map (· - 1),
        drain := (x.ctx n).drain.map (· - 1), grant := (x.ctx n).grant.map (· - 1) })
    ∧ (x.startUp.stage = .ready → ∀ k p, x.slot k = .holding p → t.slot k = .holding { p with timer := p.timer - 1 })
    ∧ (x.startUp.stage = .ready → ∀ k, (∀ p, x.slot k ≠ .holding p) → t.slot k = x.slot k)
    ∧ (x.startUp.stage ≠ .ready → t.nozzles = x.nozzles ∧ t.park = x.park)
    ∧ (∀ n, t.meter n = { x.meter n with window := (x.meter n).window.map (· - 1) })
    ∧ (∀ k, t.tank k = { x.tank k with
        pump := { (x.tank k).pump with timer := (x.tank k).pump.timer.map (· - 1) } })
    ∧ t.scanner = { x.scanner with timer := x.scanner.timer - 1 }
    ∧ (∀ p, t.port p = { x.port p with
        assembler := match (x.port p).assembler with
          | .assembling bytes timer => .assembling bytes (timer - 1)
          | .idle => .idle,
        receive := if (x.port p).receive = .low then .lowBefore else .high })
    ∧ { t with clock := x.clock, nozzles := x.nozzles, park := x.park, meters := x.meters, tanks := x.tanks,
               scanner := x.scanner, ports := x.ports } = x

/-- R73, R180: a rollover that is due advances the shift number, sets the ticks to 0, posts SHIFT_ROLLOVER to every
port, and then reconciles the four tanks; that it is a step after the tick that reached S is the model's choice (log 7).
CLOCK_SET replaces the shift number and the ticks into the shift; ticks at or above the shift length are BAD_FIELD. That
it withdraws a rollover that is due and not yet taken is the model's reading (log 7). -/
def Obligations.ShiftRollsOverAndIsSet : Prop :=
  (∀ s : State, s.Up → s.clock.rolloverDue = true →
    exec .shiftRollover s =
      .next (((({ s with clock := { s.clock with shift := s.clock.shift + 1, ticks := 0, rolloverDue := false } } :
        State).postAll (.shiftRollover (s.clock.shift + 1) s.clock.siteTime)).reconcileAll .rollover)).startStore)
  ∧ ∀ (p : Port) (tag : Byte) (shift : Word32) (ticks : Nat) (s : State), s.Accepts p → s.role p = .workshop →
    (ticks < s.config.time.shiftLength → exec (.clockSet p tag shift ticks) s =
      .next (({ s with clock := { s.clock with shift := shift, ticks := ticks, rolloverDue := false } } :
        State).answered p .clockSet tag .ok (.clockSet s.clock.shift s.clock.ticks shift ticks)).startStore)
    ∧ (s.config.time.shiftLength ≤ ticks → exec (.clockSet p tag shift ticks) s =
      .next (s.answered p .clockSet tag .badField .nothing).startStore)

/-! ### Meters and probes (chapter 2) -/

/-- R27, R28: a pulse on a FAULTED meter counts nowhere. A stray pulse, on an IDLE meter or with the context outside
PROVING, FLOW_FULL, FLOW_SLOW and DRAINING, adds one to the stray count alone; at the stray limit the meter faults for
creep, which leaves a context in FREE, LOADED or FETCHING as it is, reaches one in HELD or AWAIT_GRANT as a pending fault,
and ends the RUN of one in PRIMING: RUN_ENDED, the pump left without that demand, the fault pending, and HELD. That
METER_FAULT enters the queue before the RUN_ENDED it brings is the model's reading (log 13). -/
def Obligations.StrayPulsesFaultAtLimit : Prop :=
  ∀ (n : NozzleId) (s : State), s.Up →
    let x := s.ctx n
    let owner := (s.config.nozzles.read n).owner
    let k := (s.config.nozzles.read n).tank
    let strays (m : Meter) : Meter := { m with stray := m.stray + 1 }
    let faulted : State := (s.modMeter n fun m => { strays m with state := .faulted, proven := false }).postTo owner
      (.meterFault .creep n)
    ((s.meter n).state = .faulted → exec (.meterPulse n) s = .next s.startStore)
    ∧ (((s.meter n).state = .idle ∨ (s.meter n).state = .inUse ∧ x.state ≠ .proving ∧ x.state ≠ .flowFull
          ∧ x.state ≠ .flowSlow ∧ x.state ≠ .draining) → (s.meter n).stray < 255 →
        ((s.meter n).stray + 1 < s.config.delivery.strayLimit →
          exec (.meterPulse n) s = .next (s.modMeter n strays).startStore)
        ∧ (s.config.delivery.strayLimit ≤ (s.meter n).stray + 1 →
            (x.state = .free ∨ x.state = .loaded ∨ x.state = .fetching) →
          exec (.meterPulse n) s = .next faulted.startStore)
        ∧ (s.config.delivery.strayLimit ≤ (s.meter n).stray + 1 → (x.state = .held ∨ x.state = .awaitGrant) →
          exec (.meterPulse n) s = .next (faulted.addFault n .meterFault).startStore)
        ∧ (s.config.delivery.strayLimit ≤ (s.meter n).stray + 1 → x.state = .priming →
          let left : State :=
            if (s.tank k).pump.state = .running ∧ s.demand k = [n] then faulted.modTank k fun y =>
              { y with pump := if (s.config.tanks.read k).runOn = 0 then { state := .stopped, timer := none }
                else { state := .runOn, timer := some (s.config.tanks.read k).runOn } }
            else faulted
          exec (.meterPulse n) s =
            .next (((left.postTo owner (.deliveryStage (.runEnded (s.delivery n).ticket .meterFault
              (s.delivery n).running))).addFault n .meterFault).enterHeld n .meterFault).startStore))

/-- R27, R30, R41, R45 to R49, R51, R92, R94, R96: first the arithmetic. A quotient is rounded to the nearest integer,
halves away from zero (R47), in integers by its magnitude and the sign of what is divided; the correction factor is
1,000,000 less α × (T − 150) / 10 so rounded, and one outside 900,000 to 1,100,000 is clamped to the nearer end and
marked (R48); the target of a RUN is the authorised limit, or with a segment amount the lesser of it and the net the
segment began at plus that amount (R91). Then a counted pulse, the last of the delivery's legs the current one. The leg
count goes up by one and the leg's gross and flow-weighted temperature are computed from the whole count, with the value
of the nozzle's channel, or the product's default temperature where that has none; the net of every leg is computed
afresh. A substituted temperature that raises the gross sets the leg's flag and the pending fault, told the first time.
In PROVING the creep count goes up by one; from 255 it is a free value (log 11). In DRAINING the settle timer is loaded
again. In flow the stall timer is loaded again and the stage test made: at the target the RUN ends, LIMIT when the
target is the authorised limit and TARGET otherwise, and within the prestop of it full flow becomes slow flow. At the
count limit the pulse is not counted: the meter faults and the RUN ends METER_FAULT, or, in DRAINING, takes that as its
reason. That a leg left behind takes its clamped flag from its correction factor as recomputed, one of zero gross from
the product's default temperature, is the model's choice (log 39), and that METER_FAULT enters the queue before
RUN_ENDED its reading (log 13). -/
def Obligations.CountedPulseMetersVolume : Prop :=
  (∀ (x : Int) (d : Nat), 0 < d →
    (divAway x d).natAbs = (2 * x.natAbs + d) / (2 * d) ∧ (0 ≤ x → 0 ≤ divAway x d) ∧ (x ≤ 0 → divAway x d ≤ 0)
    ∧ 2 * (x - divAway x d * d).natAbs ≤ d
    ∧ (2 * (x - divAway x d * d).natAbs = d → x.natAbs < (divAway x d * d).natAbs))
  ∧ (∀ (alpha : Nat) (t : Int),
    let raw : Int := 1000000 - divAway (alpha * (t - 150)) 10
    (raw < 900000 → ctlOf alpha t = 900000 ∧ ctlClamped alpha t = true)
    ∧ (900000 ≤ raw → raw ≤ 1100000 → (ctlOf alpha t : Int) = raw ∧ ctlClamped alpha t = false)
    ∧ (1100000 < raw → ctlOf alpha t = 1100000 ∧ ctlClamped alpha t = true))
  ∧ (∀ (n : NozzleId) (s : State),
    let limit := (s.delivery n).limit
    s.target n = match (s.ctx n).steps[(s.ctx n).pointer]? with
      | some (.run a) => if a = 0 then limit else min limit ((s.ctx n).segmentStart + a)
      | _ => limit)
  ∧ ∀ (n : NozzleId) (s : State), s.Up → (s.meter n).state = .inUse →
    let owner := (s.config.nozzles.read n).owner
    let flowing : Prop := (s.ctx n).state = .flowFull ∨ (s.ctx n).state = .flowSlow
    ((s.meter n).count = 4294967295 →
      let faulted : State := (s.modMeter n fun m => { m with state := .faulted, proven := false }).postTo owner
        (.meterFault .countLimit n)
      (((s.ctx n).state = .proving ∨ flowing) →
        exec (.meterPulse n) s = .next (faulted.stopFlow n .meterFault).startStore)
      ∧ ((s.ctx n).state = .draining → exec (.meterPulse n) s =
        .next (faulted.modCtx n fun c => { c with endReason := some .meterFault }).startStore))
    ∧ ∀ (d : Delivery) (before : List Leg) (l : Leg), (s.meter n).count < 4294967295 →
      (s.ctx n).delivery = some d → d.legs = before ++ [l] →
      let channel := s.scanner.channels.read ⟨(s.config.nozzles.read n).channel.val, by omega⟩
      let usable : Option Int := if channel.state = .failed then none else channel.value
      let v : Int := usable.getD
        (s.config.products.read (s.config.tanks.read (s.config.nozzles.read n).tank).product).defaultTemp
      let pulses := (s.meter n).count + 1
      let gross := pulses * 100000 / (s.config.nozzles.read n).km
      let weighed : Bool := usable.isNone && decide (l.gross < gross)
      let p := s.config.products.read (d.product.getD (s.config.tanks.read d.tank).product)
      let settled (x : Leg) : Leg :=
        let temp : Int := if x.gross = 0 then p.defaultTemp else divAway x.fwt x.gross
        { x with net := (x.gross * ctlOf p.alpha temp + 500000) / 1000000, clamped := ctlClamped p.alpha temp }
      let legs := (before ++ [{ l with pulses := pulses, gross := gross,
                                       fwt := l.fwt + ((gross : Int) - (l.gross : Int)) * v,
                                       substituted := l.substituted || weighed }]).map settled
      let net := (legs.map fun x => x.net).sum
      let metered : State := (s.modMeter n fun m => { m with count := pulses }).modCtx n fun c =>
        { c with delivery := some { d with
          legs := legs, faults := if weighed then { d.faults with probeSubstitute := true } else d.faults } }
      let counted : State :=
        if weighed = true ∧ l.substituted = false then
          metered.postTo owner (.deliveryStage (.probeSubstitute d.ticket d.legs.length v))
        else metered
      let flows : State := counted.modCtx n fun c => { c with stall := some s.config.delivery.stall }
      ((s.ctx n).state = .proving →
        ((s.meter n).creep < 255 → exec (.meterPulse n) s =
          .next (counted.modMeter n fun m => { m with creep := m.creep + 1 }).startStore)
        ∧ ((s.meter n).creep = 255 → ∃ c, c ≤ 255 ∧ exec (.meterPulse n) s =
          .next ({ counted.modMeter n fun m => { m with creep := c } with
            freeIndex := s.freeIndex + 1 } : State).startStore))
      ∧ ((s.ctx n).state = .draining → exec (.meterPulse n) s =
        .next (counted.modCtx n fun c => { c with drain := some s.config.delivery.drainSettle }).startStore)
      ∧ ((s.ctx n).state = .flowSlow → net < s.target n → exec (.meterPulse n) s = .next flows.startStore)
      ∧ ((s.ctx n).state = .flowFull → net < s.target n - s.config.delivery.prestop →
        exec (.meterPulse n) s = .next flows.startStore)
      ∧ ((s.ctx n).state = .flowFull → s.target n - s.config.delivery.prestop ≤ net → net < s.target n →
        exec (.meterPulse n) s = .next (flows.modCtx n fun c => { c with state := .flowSlow }).startStore)
      ∧ (flowing → s.target n ≤ net → exec (.meterPulse n) s =
          .next (flows.stopFlow n (if s.target n = d.limit then .limit else .target)).startStore)

/-- R31, R67, R95, R96, R105: what the end of a RUN in flow or in proving leaves: the context DRAINING with the reason
recorded, its stall timer stopped and its settle timer loaded; a proving abandoned; the pump, having lost its last
demand, running on, and RUN_ENDED told to the owning port with the reason and the running net. No other context or meter
changes, nor any record, tank book or journal. A RUN that ends in PRIMING leaves the demand and is told in the same way,
and its event goes on from there (`quitPriming`): the context is out of PRIMING, and no valve, timer or meter of it is
touched. -/
def Obligations.EndedRunDrains : Prop :=
  ∀ (n : NozzleId) (r : RunEnd) (s : State),
    let k := (s.config.nozzles.read n).tank
    let last : Prop := ∀ m, m ≠ n → (s.config.nozzles.read m).tank = k → (s.ctx m).state.inDemand = false
    let ended (t : State) : Prop :=
      (∀ m, m ≠ n → t.ctx m = s.ctx m ∧ t.meter m = s.meter m)
      ∧ (∀ j, j ≠ k → t.tank j = s.tank j)
      ∧ ((s.tank k).pump.state = .running → last → t.tank k = { s.tank k with
          pump := if (s.config.tanks.read k).runOn = 0 then { state := .stopped, timer := none }
            else { state := .runOn, timer := some (s.config.tanks.read k).runOn } })
      ∧ ((s.tank k).pump.state ≠ .running ∨ ¬ last → t.tank k = s.tank k)
      ∧ t.ports = (s.postTo (s.config.nozzles.read n).owner
          (.deliveryStage (.runEnded (s.delivery n).ticket r (s.delivery n).running))).ports
      ∧ { t with nozzles := s.nozzles, meters := s.meters, tanks := s.tanks, ports := s.ports } = s
    (∃ t, t = s.stopFlow n r ∧ ended t
      ∧ t.ctx n = { s.ctx n with state := .draining, endReason := some r, stall := none,
                                 drain := some s.config.delivery.drainSettle }
      ∧ t.meter n = if (s.meter n).window.isSome then { s.meter n with window := none, creep := 0 } else s.meter n)
    ∧ ∃ t, t = s.quitPriming n r ∧ ended t ∧ t.ctx n = { s.ctx n with state := .held } ∧ t.meter n = s.meter n

/-- R30: the creep window has run out. With the creep count at or below the creep limit the meter is proven and the
context goes to full flow, here short of its prestop point; above it the meter faults and the RUN ends METER_FAULT. That
METER_FAULT enters the queue before the RUN_ENDED it brings is the model's reading (log 13). -/
def Obligations.CreepWindowProvesMeter : Prop :=
  ∀ (n : NozzleId) (s : State), s.Up → (s.meter n).window = some 0 →
    ((s.meter n).creep ≤ s.config.delivery.creepLimit →
        (s.delivery n).running < s.target n - s.config.delivery.prestop →
      exec (.creepWindowExpiry n) s =
        .next ((s.modMeter n fun m => { m with window := none, proven := true, creep := 0 }).modCtx n fun c =>
          { c with state := .flowFull, stall := some s.config.delivery.stall }).startStore)
    ∧ (s.config.delivery.creepLimit < (s.meter n).creep →
      exec (.creepWindowExpiry n) s =
        .next (((s.modMeter n fun m => { m with window := none, state := .faulted, proven := false }).postTo
          (s.config.nozzles.read n).owner (.meterFault .proving n)).stopFlow n .meterFault).startStore)

/-- R34, R35, R36, R37, R38, R39, R40, R56, R57, R58: the scan timer at 0 is loaded again and channel 0 is sampled
first. A sample on the channel the scan is at moves it by its state: UNSETTLED discards four samples, and the fifth or a
later one makes it GOOD when valid and counts toward the hold limit when not; GOOD and HOLDING take a valid code's
value, floored and clamped to the span, and count invalid ones, the value kept until the hold limit; FAILED needs two
valid samples in a row. Entering and leaving FAILED is told to every WORKSHOP port. A sample on channels 8 to 15 then
gauges its tank anew from the usable values of the tank's two channels, when the tank is enabled, and the tank is
evaluated; last, the volume a strapping list gives a level, below, between and above its points. Each sample's
completion is a command (log 28); that a channel enters FAILED with a settle count of 0, and that one going from
UNSETTLED to GOOD keeps its settle count, is the model's reading (log 35). -/
def Obligations.SamplesSettleChannels : Prop :=
  (∀ s : State, s.Up → s.scanner.timer = 0 →
    exec .scanTimerExpiry s =
      .next ({ s with scanner := { s.scanner with timer := s.config.probes.divisor, position := some 0 } } :
        State).startStore)
  ∧ ∀ (i : ChannelId) (code : BitVec 16) (s : State), s.Up → s.scanner.position = some i →
    let c := s.scanner.channels.read i
    let span := s.config.probes.spans.read i
    let limit := s.config.probes.holdLimit
    let value : Int := max span.low (min span.high
      (span.low + Int.fdiv (((code.toNat : Int) - 10486) * (span.high - span.low)) 41943))
    let valid : Bool := decide (9437 ≤ code.toNat ∧ code.toNat ≤ 55050)
    let after (x : Channel) : State := { s with scanner := { s.scanner with
      channels := s.scanner.channels.write i x,
      position := if h : i.val + 1 < 16 then some ⟨i.val + 1, h⟩ else none } }
    let takes (y : State) : Prop :=
      (i.val < 8 → exec (.sampleComplete i code) s = .next y.startStore)
      ∧ ∀ k level temp, (level : ChannelId).val = 8 + (k : TankId).val → (temp : ChannelId).val = 12 + k.val →
        i = level ∨ i = temp →
        let cfg := s.config.tanks.read k
        let product := s.config.products.read cfg.product
        let usable (j : ChannelId) : Option Int :=
          if (y.scanner.channels.read j).state = .failed then none else (y.scanner.channels.read j).value
        (cfg.enabled = false → exec (.sampleComplete i code) s = .next y.startStore)
        ∧ (cfg.enabled = true → usable level = none → exec (.sampleComplete i code) s =
          .next ((y.modTank k fun x => { x with
            gauge := { net := none, substituted := false, overGauge := false, clamped := false } }).evaluateTank
              k).startStore)
        ∧ ∀ v, cfg.enabled = true → usable level = some v →
          let volume := strapVolume cfg.strapping v.toNat
          let t := (usable temp).getD product.defaultTemp
          exec (.sampleComplete i code) s =
            .next ((y.modTank k fun x => { x with gauge :=
              { net := some ((volume.1 * ctlOf product.alpha t + 500000) / 1000000),
                substituted := decide (usable temp = none), overGauge := volume.2,
                clamped := ctlClamped product.alpha t } }).evaluateTank k).startStore
    (c.state = .unsettled → c.settle < 4 → takes (after { c with settle := c.settle + 1 }))
    ∧ (c.state = .unsettled → 4 ≤ c.settle → valid = true →
      takes (after { c with state := .good, value := some value, hold := 0 }))
    ∧ (c.state = .unsettled → 4 ≤ c.settle → valid = false → c.hold + 1 < limit →
      takes (after { c with hold := c.hold + 1 }))
    ∧ ((c.state = .unsettled ∧ 4 ≤ c.settle ∨ c.state = .holding) → valid = false → limit ≤ c.hold + 1 →
      takes ((after { state := .failed, value := none, hold := c.hold + 1, settle := 0 }).postRole .workshop
        (.probeState i .failed none)))
    ∧ (c.state = .good → valid = true → takes (after { c with value := some value }))
    ∧ (c.state = .good → valid = false → 1 < limit → takes (after { c with state := .holding, hold := 1 }))
    ∧ (c.state = .good → valid = false → limit ≤ 1 →
      takes ((after { state := .failed, value := none, hold := 1, settle := 0 }).postRole .workshop
        (.probeState i .failed none)))
    ∧ (c.state = .holding → valid = true →
      takes (after { c with state := .good, value := some value, hold := 0 }))
    ∧ (c.state = .holding → valid = false → c.hold + 1 < limit → takes (after { c with hold := c.hold + 1 }))
    ∧ (c.state = .failed → valid = false → takes (after { c with settle := 0 }))
    ∧ (c.state = .failed → valid = true → c.settle = 0 → takes (after { c with settle := 1 }))
    ∧ (c.state = .failed → valid = true → 1 ≤ c.settle →
      takes ((after { state := .good, value := some value, hold := 0, settle := 0 }).postRole .workshop
        (.probeState i .good (some value))))
    ∧ ∀ (points : List StrapPoint) (level : Nat), points.Pairwise (fun a b => a.level < b.level) →
      (∀ p q rest, points = p :: q :: rest → level ≤ p.level → strapVolume points level = (100 * p.litres, false))
      ∧ (∀ before p q rest, points = before ++ p :: q :: rest → p.level ≤ level → level < q.level →
        strapVolume points level =
          (100 * p.litres + 100 * (level - p.level) * (q.litres - p.litres) / (q.level - p.level), false))
      ∧ (∀ before p, points = before ++ [p] → p.level ≤ level → strapVolume points level = (100 * p.litres, true))

/-! ### Timers of deliveries (chapters 4 to 7) -/

/-- R94, R96, R97, R98, R100, R101, R128: a stall ends the RUN. A drain that has settled goes on as the pending move
says: an ABORT finishes the delivery; a PARK moves it to the slot kept for it, STALLED, TANK_LOW and METER_FAULT joining
the pending faults first; with neither the list goes on after TARGET, LIMIT, STOPPED and, STALL having joined the
pending faults, STALLED (`runRest`, which `StopAbortContinueTakeEffect` says step by step; a closing HOLD is written
out), and the context is HELD for TANK_LOW or METER_FAULT. Every entry to HELD discards the list, loads the hold timer
and posts HOLD_STARTED; that the segment start net reads 0 there is the model's choice (log 48). A pending fault already
present changes nothing. -/
def Obligations.StallsAndDrainsEnd : Prop :=
  ∀ (n : NozzleId) (s : State), s.Up →
    (∀ cause : HoldCause, s.enterHeld n cause =
      (s.modCtx n fun c => { c with
        state := .held, steps := [], pointer := 0, segmentStart := 0, endReason := none, move := .none,
        hold := some s.config.delivery.hold, stall := none, drain := none, grant := none }).postTo
          (s.config.nozzles.read n).owner
            (.holdStarted (s.delivery n).ticket cause (s.delivery n).running (s.delivery n).limit (s.delivery n).faults))
    ∧ (∀ f : PendingFault, s.addFault n f =
        (s.modCtx n fun c => { c with delivery := c.delivery.map fun d => { d with faults := d.faults.add f } })
      ∧ ∀ (x : FaultSet) (g : PendingFault), (x.add f).has g = true ↔ g = f ∨ x.has g = true)
    ∧ ((s.ctx n).stall = some 0 → exec (.stallTimerExpiry n) s = .next (s.stopFlow n .stalled).startStore)
    ∧ ((s.ctx n).drain = some 0 →
      let still : State := s.modCtx n fun c => { c with drain := none }
      let done : State := s.modCtx n fun c => { c with drain := none, endReason := none }
      ((s.ctx n).move = .abort →
        exec (.drainSettleExpiry n) s = .next (still.finishNozzle n .aborted).startStore)
      ∧ (∀ k r, (s.ctx n).move = .park → s.reservedFor n = some k → (s.ctx n).endReason = some r →
        let dealt : State := match r with
          | .stalled => still.addFault n .stall
          | .tankLow => still.addFault n .tankLow
          | .meterFault => still.addFault n .meterFault
          | _ => still
        exec (.drainSettleExpiry n) s = .next (dealt.moveToPark n k .preempt).startStore)
      ∧ (∀ r, (s.ctx n).move = .none → (s.ctx n).endReason = some r → r ∈ [.target, .limit, .stopped] →
        exec (.drainSettleExpiry n) s = .next (done.runRest n).startStore)
      ∧ ((s.ctx n).move = .none → (s.ctx n).endReason = some .stalled →
        exec (.drainSettleExpiry n) s = .next ((done.addFault n .stall).runRest n).startStore)
      ∧ (∀ r, (s.ctx n).move = .none → (s.ctx n).endReason = some r → r ∈ [.target, .limit, .stopped] →
          (s.ctx n).steps.drop ((s.ctx n).pointer + 1) = [.hold] →
        exec (.drainSettleExpiry n) s =
          .next ((done.modCtx n fun c => { c with pointer := c.pointer + 1 }).enterHeld n .hold).startStore)
      ∧ ((s.ctx n).move = .none → (s.ctx n).endReason = some .tankLow →
        exec (.drainSettleExpiry n) s = .next ((done.addFault n .tankLow).enterHeld n .tankLow).startStore)
      ∧ ((s.ctx n).move = .none → (s.ctx n).endReason = some .meterFault →
        exec (.drainSettleExpiry n) s = .next ((done.addFault n .meterFault).enterHeld n .meterFault).startStore))

/-- R102, R125, R129, R131: a hold that has expired is parked in the lowest free slot when it has fewer than four legs,
and finishes EXPIRED otherwise; a park timer at 0 finishes the delivery in its slot, told to the parking port. The slot
taken is the lowest EMPTY one, the slot kept for a nozzle the one RESERVED for it, and the move writes the same whatever
the park reason. -/
def Obligations.HoldsAndParksExpire : Prop :=
  ∀ (s : State), s.Up →
    (∀ k, s.freePark = some k ↔ s.slot k = .empty ∧ ∀ j, j < k → s.slot j ≠ .empty)
    ∧ (∀ n k, s.reservedFor n = some k ↔ s.slot k = .reserved n ∧ ∀ j, j < k → s.slot j ≠ .reserved n)
    ∧ (∀ n k why,
      let d := s.delivery n
      let port := (s.config.nozzles.read n).owner
      s.moveToPark n k why =
        (((s.setSlot k (.holding
              { delivery := d, parkingPort := port, nozzleLeft := n, reason := why, time := s.clock.siteTime,
                timer := s.config.delivery.park })).modCtx n fun _ => freeContext).modMeter n fun m =>
            { m with bound := false, count := 0, state := if m.state = .faulted then .faulted else .idle }).postTo port
          (.deliveryStage (.parked d.ticket k why d.running d.limit d.legs.length s.config.delivery.park)))
    ∧ (∀ (n : NozzleId) (d : Delivery), (s.ctx n).hold = some 0 → (s.ctx n).delivery = some d →
      let port := (s.config.nozzles.read n).owner
      (∀ k, d.legs.length < 4 → s.freePark = some k →
        exec (.holdTimerExpiry n) s =
          .next ((((s.setSlot k (.holding
                { delivery := d, parkingPort := port, nozzleLeft := n, reason := .holdExpired,
                  time := s.clock.siteTime, timer := s.config.delivery.park })).modCtx n fun _ => freeContext).modMeter n
              fun m => { m with bound := false, count := 0,
                                state := if m.state = .faulted then .faulted else .idle }).postTo port
            (.deliveryStage (.parked d.ticket k .holdExpired d.running d.limit d.legs.length
              s.config.delivery.park))).startStore)
      ∧ (4 ≤ d.legs.length ∨ s.freePark = none →
        exec (.holdTimerExpiry n) s = .next (s.finishNozzle n .expired).startStore))
    ∧ ∀ (k : ParkId) (x : Parked), s.slot k = .holding x → x.timer = 0 →
      exec (.parkTimerExpiry k) s =
        .next ((((s.setSlot k .empty).handOn x.delivery .expired).postTo x.parkingPort
            (.parkExpired x.delivery.ticket x.delivery.fleet x.reason (s.finalNet x.delivery))).postTo x.parkingPort
          (.deliveryDone x.delivery.ticket s.journal.nextSeq (s.finalNet x.delivery) .expired none)).startStore

/-- R119, R120, R122: a grant timer that has run out puts the ticket last on the expired-wait list, which holds no
ticket twice and 16 at most: the oldest of 16 others is dropped. Under REFUSE the wait ends refused with GRANT_TIMEOUT.
Under PARTIAL the lesser of the allowance and stock terms is issued when it reaches the minimum issue, and the list goes
on. That GRANT_CLOSED enters the queue before the notices of a refusal is the model's reading (log 13). -/
def Obligations.GrantTimerEndsWait : Prop :=
  ∀ (n : NozzleId) (d : Delivery) (w : WaitTerms) (s : State), s.Up → (s.ctx n).grant = some 0 →
    (s.ctx n).delivery = some d → d.wait = some w →
    let others := s.expired.filter fun x => !decide (x = d.ticket)
    let late : State := { s.modCtx n (fun c => { c with grant := none }) with
      expired := (if others.length < 16 then others else others.drop 1) ++ [d.ticket] }
    let closed (l : Option Nat) (r : Option Reason) : NoticeBody := .grantClosed d.ticket .timedOut l r d.grantExtra
    (s.config.authorisation.policy = .refuse → exec (.grantTimerExpiry n) s =
      .next ((late.postRole .fleet (closed none (some .grantTimeout))).refuseAuth n .grantTimeout w.first).startStore)
    ∧ (s.config.authorisation.policy = .partialIssue → min w.b (s.stockTerm n) < s.config.authorisation.minIssue →
      exec (.grantTimerExpiry n) s =
      .next ((late.postRole .fleet (closed none (some .grantTimeout))).refuseAuth n .grantTimeout w.first).startStore)
    ∧ (s.config.authorisation.policy = .partialIssue → s.config.authorisation.minIssue ≤ min w.b (s.stockTerm n) →
        w.a ≠ 0 →
      let issue := min w.b (s.stockTerm n)
      exec (.grantTimerExpiry n) s =
        .next (((late.authorise n issue w.a (if issue = w.b then w.name else .stock) w.restricted w.first).postRole .fleet
          (closed (some (d.running + issue)) none)).runRest n).startStore)

/-- R29, R65, R66, R67, R91, R92, R93: a RUN step begins. A FAULTED meter ends it METER_FAULT before PRIMING; otherwise
the stray count goes to 0 and the pump deals with the nozzle by its state: STOPPED starts, STARTING lets it wait in
PRIMING, RUNNING and RUN_ON take it on at once, to PROVING or, with the meter proven, to FLOW_FULL and its stage test;
HELD_LOW and a tank not enabled end the RUN TANK_LOW. The start timer of a pump has run out: with no demand the pump
runs on, or stops at a run-on count of 0; with a demand it is RUNNING, and each nozzle of the demand that waits in
PRIMING is told, lowest number first (the model's choice, log 41): it begins to prove its meter if it is not proven, and
goes to FLOW_FULL and its stage test if it is. The demand is R65's. A run-on timer that has run out stops the pump. -/
def Obligations.RunsBeginAndPumpTimersEnd : Prop :=
  (∀ (n : NozzleId) (s : State),
    let k := (s.config.nozzles.read n).tank
    let cfg := s.config.tanks.read k
    let set := s.config.delivery
    let d := s.delivery n
    let held (y : State) (r : RunEnd) (f : PendingFault) (cause : HoldCause) : State :=
      ((y.postTo (s.config.nozzles.read n).owner (.deliveryStage (.runEnded d.ticket r d.running))).addFault n
        f).enterHeld n cause
    let begun (x : NozzleState) : State :=
      (s.modCtx n fun c => { c with segmentStart := d.running, state := x }).modMeter n fun m => { m with stray := 0 }
    ((s.meter n).state = .faulted →
      s.beginRun n = held (s.modCtx n fun c => { c with segmentStart := d.running }) .meterFault .meterFault .meterFault)
    ∧ ((s.meter n).state ≠ .faulted →
      (cfg.enabled = true ∧ (s.tank k).pump.state = .heldLow ∨ cfg.enabled = false ∧ (s.tank k).pump.state = .stopped →
        s.beginRun n = held (begun .priming) .tankLow .tankLow .tankLow)
      ∧ (cfg.enabled = true → (s.tank k).pump.state = .stopped →
        s.beginRun n = (begun .priming).modTank k fun x =>
          { x with pump := { state := .starting, timer := some cfg.startDelay } })
      ∧ (cfg.enabled = true → (s.tank k).pump.state = .starting → s.beginRun n = begun .priming)
      ∧ (cfg.enabled = true → ((s.tank k).pump.state = .running ∨ (s.tank k).pump.state = .runOn) →
        let told (x : NozzleState) : State :=
          if (s.tank k).pump.state = .running then begun x
          else (begun x).modTank k fun y => { y with pump := { state := .running, timer := none } }
        let segment := match (s.ctx n).steps[(s.ctx n).pointer]? with
          | some (.run a) => a
          | _ => 0
        let target := if segment = 0 then d.limit else min d.limit (d.running + segment)
        let flow (x : NozzleState) : State := (told x).modCtx n fun c => { c with stall := some set.stall }
        ((s.meter n).proven = false →
          s.beginRun n = (told .proving).modMeter n fun m => { m with creep := 0, window := some set.creepWindow })
        ∧ ((s.meter n).proven = true → d.running < target - set.prestop → s.beginRun n = flow .flowFull)
        ∧ ((s.meter n).proven = true → target - set.prestop ≤ d.running → d.running < target →
          s.beginRun n = flow .flowSlow)
        ∧ ((s.meter n).proven = true → target ≤ d.running →
          s.beginRun n = (flow .flowFull).stopFlow n (if target = d.limit then .limit else .target)))))
  ∧ ∀ (k : TankId) (s : State), s.Up →
    s.demand k = (List.finRange 8).filter (fun n => decide ((s.config.nozzles.read n).tank = k
      ∧ (s.ctx n).state ∈ [NozzleState.priming, .proving, .flowFull, .flowSlow]))
    ∧ ((s.tank k).pump = { state := .starting, timer := some 0 } →
      (s.demand k = [] → exec (.pumpStartTimerExpiry k) s =
        .next (s.modTank k fun x => { x with
          pump := if (s.config.tanks.read k).runOn = 0 then { state := .stopped, timer := none }
            else { state := .runOn, timer := some (s.config.tanks.read k).runOn } }).startStore)
      ∧ (s.demand k ≠ [] →
        let told (y : State) (n : NozzleId) : State :=
          let c := y.ctx n
          let d := y.delivery n
          let segment := match c.steps[c.pointer]? with
            | some (.run a) => a
            | _ => 0
          let target := if segment = 0 then d.limit else min d.limit (c.segmentStart + segment)
          let flow (x : NozzleState) : State :=
            y.modCtx n fun c => { c with state := x, stall := some s.config.delivery.stall }
          if c.state ≠ .priming then y
          else if (y.meter n).proven = false then
            (y.modCtx n fun c => { c with state := .proving }).modMeter n fun m =>
              { m with creep := 0, window := some s.config.delivery.creepWindow }
          else if target ≤ d.running then (flow .flowFull).stopFlow n (if target = d.limit then .limit else .target)
          else if target - s.config.delivery.prestop ≤ d.running then flow .flowSlow
          else flow .flowFull
        exec (.pumpStartTimerExpiry k) s = .next ((s.demand k).foldl told
          (s.modTank k fun x => { x with pump := { state := .running, timer := none } })).startStore))
    ∧ ((s.tank k).pump = { state := .runOn, timer := some 0 } → exec (.runOnTimerExpiry k) s =
      .next (s.modTank k fun x => { x with pump := { state := .stopped, timer := none } }).startStore)

/-- R53, R54, R69, R103, R104, R105, R141, R159, R160, R161, R164: what finishing hands on. An entry with the next
sequence number, its fields those of the delivery with the figures of each leg computed afresh, takes a reservation's
place, told when the entries reach the threshold; the machine of a line recorded is charged and written back, its open
ticket removed; the tank's book falls and an open receipt's issued amount rises by the net, and the tank is evaluated;
the FUEL lines are evaluated (`ServiceChangesOfALine` says what `monitored` is), written back and told; the line is
unpinned. A delivery at a nozzle leaves its context FREE and its meter released, FAULTED or IDLE, and DELIVERY_DONE is
posted last. The charge to the tank may end other RUNs on it with TANK_LOW (R68); no context outside the demand on a
pump changes. -/
def Obligations.FinishingHandsOn : Prop :=
  ∀ (d : Delivery) (o : DeliveryOutcome) (s : State),
    let net := s.finalNet d
    let product := s.config.products.read (d.product.getD (s.config.tanks.read d.tank).product)
    let temp (l : Leg) : Int := if l.gross = 0 then product.defaultTemp else divAway l.fwt l.gross
    let told (y : State) : State :=
      let entries := y.journal.entries ++ [y.entryFor d o]
      let z : State := { y with journal :=
        { entries := entries, reservations := y.journal.reservations - 1, nextSeq := y.journal.nextSeq + 1 } }
      if entries.length = y.config.service.journalThreshold then
        z.postOffice (.journalLevel .threshold entries.length (y.journal.reservations - 1)
          (entries.head?.map fun x => x.seq))
      else z
    net = min 4294967295 ((d.legs.map fun l => (l.gross * ctlOf product.alpha (temp l) + 500000) / 1000000).sum)
    ∧ (let legs : List EntryLeg := d.legs.map fun l =>
        { meter := l.meter, gross := min 4294967295 l.gross,
          net := min 4294967295 ((l.gross * ctlOf product.alpha (temp l) + 500000) / 1000000), avgTemp := temp l,
          substituted := l.substituted, clamped := ctlClamped product.alpha (temp l) }
      let gross := (d.legs.map fun l => l.gross).sum
      s.entryFor d o =
        { seq := s.journal.nextSeq, ticket := d.ticket, fleet := d.fleet,
          product := d.product.getD (s.config.tanks.read d.tank).product, tank := d.tank, originPort := d.originPort,
          outcome := o, refusal := if o = .refused then d.refusal else none, legs := legs,
          totalGross := min 4294967295 gross, totalNet := net,
          avgTemp := if gross = 0 then product.defaultTemp
            else divAway ((d.legs.map fun l => (l.gross : Int) * temp l).sum) gross,
          requested := d.requested, limit := d.limit, factor := d.factor, grantExtra := d.grantExtra,
          overrun := net - d.limit, unverified := !d.verifyAsked, substituted := legs.any (fun l => l.substituted),
          clamped := legs.any (fun l => l.clamped), restricted := d.restrictedAtAuth,
          crossedShift := decide (s.clock.shift ≠ d.startShift), finishShift := s.clock.shift, startTime := d.startTime,
          finishTime := s.clock.siteTime })
    ∧ (d.line = none → s.handOn d o = told s)
    ∧ (∀ (l : LineId) (st : HeldState) (k : SlotId) (r : MachineRecord), d.line = some l →
        (s.line l).content = .held st k r →
      let charged : MachineRecord := { r with
        used := min 4294967295 ((if r.usageShift = s.clock.shift then r.used else 0) + net),
        usageShift := s.clock.shift, lifetimeFuel := min 4294967295 (r.lifetimeFuel + net), openTicket := none }
      let new := monitored (fun x => decide (x.basis = .fuel)) charged
      s.handOn d o =
        (((((((told s).putRecord l k charged).modTank d.tank fun x => { x with
          book := x.book.map fun b => max (-2147483648) (min 2147483647 (b - (net : Int))),
          receipt := x.receipt.map fun y => { y with issued := min 4294967295 (y.issued + net) } }).evaluateTank
            d.tank).putRecord l k new).postOffices (serviceNotes r.lines r.restricted new .fuel)).modLine l
              fun x => { x with pinned := false }))
    ∧ ∀ n : NozzleId, (s.ctx n).delivery = some d →
      let freed : State := (s.modCtx n fun _ => freeContext).modMeter n fun m =>
        { m with bound := false, count := 0, state := if m.state = .faulted then .faulted else .idle }
      s.finishNozzle n o = (freed.handOn d o).postTo (s.config.nozzles.read n).owner
        (.deliveryDone d.ticket s.journal.nextSeq net o (if o = .refused then d.refusal else none))
      ∧ ∀ (l : LineId) (st : HeldState) (k : SlotId) (r : MachineRecord), d.line = some l →
          (s.line l).content = .held st k r →
        ∃ t, t = s.finishNozzle n o
          ∧ t.ctx n = freeContext ∧ (∀ m, m ≠ n → (s.ctx m).state.inDemand = false → t.ctx m = s.ctx m)
          ∧ (t.meter n).bound = false ∧ (t.meter n).count = 0
          ∧ (t.meter n).state = (if (s.meter n).state = .faulted then .faulted else .idle)
          ∧ t.journal.entries = s.journal.entries ++ [s.entryFor d o]
          ∧ t.journal.reservations = s.journal.reservations - 1 ∧ t.journal.nextSeq = s.journal.nextSeq + 1
          ∧ (t.line l).pinned = false
          ∧ (∃ r', t.recordAt l = some r' ∧ r'.openTicket = none ∧ r'.usageShift = s.clock.shift
              ∧ r'.used = min 4294967295 ((if r.usageShift = s.clock.shift then r.used else 0) + net)
              ∧ r'.lifetimeFuel = min 4294967295 (r.lifetimeFuel + net) ∧ r'.reading = r.reading)
          ∧ (t.tank d.tank).book = (s.tank d.tank).book.map
              (fun b => max (-2147483648) (min 2147483647 (b - (net : Int))))
          ∧ (t.tank d.tank).receipt = (s.tank d.tank).receipt.map
              (fun y => { y with issued := min 4294967295 (y.issued + net) })
          ∧ t.clock = s.clock ∧ t.config = s.config ∧ t.park = s.park

/-! ### Step lists, START, CONTINUE, STOP, ABORT (chapter 5) -/

/-- R82, R83: which step lists are valid, and what their figures stand for: a list of 1 to 8 steps, each with its
parameters in range, closed by a HOLD or FINISH and holding none before it; loaded in FREE it begins IDENT, AUTH and
holds no other IDENT; loaded in HELD it holds no IDENT. STEPS from the island port that owns the nozzle, in FREE, in
HELD, and in any other state. -/
def Obligations.StepsLoadTheirList : Prop :=
  (∀ (first : Bool) (raw : List RawStep) (l : List Step),
    let names (r : RawStep) (x : Step) : Prop :=
      (∃ f t v, r = .ident f t v ∧ 1 ≤ f ∧ f ≤ 9999 ∧ v ≤ 1 ∧ x = .ident f t (decide (v = 1)))
      ∨ (r = .auth 0 ∧ x = .auth .fill)
      ∨ (∃ a, 1 ≤ a ∧ a ≤ 4294967295 ∧ r = .auth a ∧ x = .auth (.amount a))
      ∨ (∃ a, a ≤ 2500000 ∧ r = .run a ∧ x = .run a)
      ∨ (r = .hold ∧ x = .hold) ∨ (r = .finish ∧ x = .finish)
    loadedList first raw = some l ↔
      1 ≤ l.length ∧ l.length ≤ 8 ∧ List.Forall₂ names raw l
      ∧ (∀ i x, l[i]? = some x → ((x = .hold ∨ x = .finish) ↔ i + 1 = l.length))
      ∧ (first = true → (∃ f t v, l[0]? = some (.ident f t v)) ∧ (∃ a, l[1]? = some (.auth a)))
      ∧ (∀ i f t v, l[i]? = some (.ident f t v) → first = true ∧ i = 0))
  ∧ ∀ (p : Port) (tag : Byte) (n : NozzleId) (raw : List RawStep) (s : State), s.Accepts p → s.role p = .island →
    (s.config.nozzles.read n).owner = p →
    (∀ l, (s.ctx n).state = .free → (s.config.nozzles.read n).enabled = true → loadedList true raw = some l →
      exec (.steps p tag (n.val + 1) raw) s =
        .next ((s.modCtx n fun _ => { freeContext with state := .loaded, steps := l }).answered p .steps tag .ok
          .nothing).startStore)
    ∧ (∀ l, (s.ctx n).state = .held → loadedList false raw = some l →
      exec (.steps p tag (n.val + 1) raw) s =
        .next ((s.modCtx n fun c => { c with steps := l, pointer := 0 }).answered p .steps tag .ok
          .nothing).startStore)
    ∧ (((s.ctx n).state = .free ∧ (s.config.nozzles.read n).enabled = true ∧ loadedList true raw = none
          ∨ (s.ctx n).state = .held ∧ loadedList false raw = none) →
      exec (.steps p tag (n.val + 1) raw) s =
        .next (s.answered p .steps tag .badList .nothing).startStore)
    ∧ (((s.ctx n).state = .free ∧ (s.config.nozzles.read n).enabled = false
          ∨ (s.ctx n).state ≠ .free ∧ (s.ctx n).state ≠ .held) →
      exec (.steps p tag (n.val + 1) raw) s =
        .next (s.answered p .steps tag .nozzleState .nothing).startStore)

/-- R8, R85, R86, R87, R88, R89, R158, R164: START opens a delivery and executes its IDENT. A machine that is not
enrolled, or whose record is damaged or cannot be read, finishes the delivery refused. One that is not cached is waited
for in FETCHING: behind a fetch under way, with a line to take set to FETCHING, or for a line. The record of one in the
cache is tested at once; a test that fails finishes the delivery REFUSED with its reason, and with all passed the
machine is identified and the list goes on from its second step. A full journal and a context not LOADED refuse the
START. The fields of a delivery that no rule has set yet are the model's reading (log 33). The ticket that START takes
is held by no open delivery, at a nozzle or parked, and lies in 1 to 65,535; it is the counter's own value when no open
delivery holds that one. -/
def Obligations.StartOpensDelivery : Prop :=
  (∀ s : State, 1 ≤ s.ticketCounter → s.ticketCounter ≤ 65535 →
    let t := s.findTicket 12 s.ticketCounter
    let free (k : Nat) : Prop :=
      (∀ n, (s.ctx n).state ≠ .free → (s.ctx n).state ≠ .loaded → (s.delivery n).ticket ≠ k)
      ∧ ∀ i x, s.slot i = .holding x → x.delivery.ticket ≠ k
    free t ∧ 1 ≤ t ∧ t ≤ 65535 ∧ (free s.ticketCounter → t = s.ticketCounter))
  ∧ ∀ (p : Port) (tag : Byte) (n : NozzleId) (s : State), s.Accepts p → s.role p = .island →
    (s.config.nozzles.read n).owner = p →
    ((s.ctx n).state ≠ .loaded → exec (.start p tag (n.val + 1)) s =
      .next (s.answered p .start tag .nozzleState .nothing).startStore)
    ∧ ((s.ctx n).state = .loaded → 256 ≤ s.journal.entries.length + s.journal.reservations →
      exec (.start p tag (n.val + 1)) s = .next (s.answered p .start tag .journalFull .nothing).startStore)
    ∧ ∀ f t v rest, (s.ctx n).state = .loaded → s.journal.entries.length + s.journal.reservations < 256 →
      (s.ctx n).steps = .ident f t v :: rest →
      let ticket := s.findTicket 12 s.ticketCounter
      let reserved : State :=
        { s.idleAssembler p with journal := { s.journal with reservations := s.journal.reservations + 1 } }
      let told : State :=
        if s.journal.entries.length + (s.journal.reservations + 1) = 256 then reserved.postOffice
          (.journalLevel .full s.journal.entries.length (s.journal.reservations + 1)
            (s.journal.entries.head?.map (fun x => x.seq)))
        else reserved
      let d : Delivery := { blankDelivery with
        ticket := ticket, originPort := p, startTime := s.clock.siteTime, startShift := s.clock.shift,
        tank := (s.config.nozzles.read n).tank, fleet := f, verifyAsked := v }
      let opened (x : NozzleState) : State := { told.reply p .start tag .ok (.ticket ticket) with
        ticketCounter := if 65535 ≤ ticket then 1 else ticket + 1,
        expired := s.expired.filter (fun x => !decide (x = ticket)),
        nozzles := s.nozzles.write n { s.ctx n with state := x, pointer := 0, delivery := some d } }
      let takes (t : State) : Prop := exec (.start p tag (n.val + 1)) s = .next t.startStore
      (s.enrolled f = none → takes ((opened .loaded).finishRefused n .notEnrolled))
      ∧ ∀ e, s.enrolled f = some e →
        (e.damaged = true → takes ((opened .loaded).finishRefused n .recordDamaged))
        ∧ (e.damaged = false →
          (s.lineFor f = none → s.table.faulted = true → takes ((opened .loaded).finishRefused n .storeFault))
          ∧ (∀ l, s.lineFor f = none → s.table.faulted = false → s.freeLine = some l →
            takes ((opened .fetching).beginFetch l f e.slot [.ident n]))
          ∧ (s.lineFor f = none → s.table.faulted = false → s.freeLine = none →
            takes ((opened .fetching).waitForLine f (.ident n)))
          ∧ (∀ l k, s.lineFor f = some l → (s.line l).content = .fetching f k →
            takes ((opened .fetching).modLine l fun x => { x with waiters := x.waiters ++ [.ident n] }))
          ∧ (∀ l st k r, s.lineFor f = some l → (s.line l).content = .held st k r →
            let tests := identTests (s.config.tanks.read (s.config.nozzles.read n).tank).product t v r
            (∀ why, tests = some why → takes (((opened .loaded).touch l).finishRefused n why))
            ∧ (tests = none →
              takes ((((opened .loaded).touch l).afterIdent n d v l k r).runFrom n 1 rest))))

/-- R84, R90, R91, R99, R100, R102, R121: STOP, ABORT and CONTINUE from the island port that owns the nozzle, in each
state that takes them and in those that refuse them. `runAll` and `runRest` are the step list carried on from its first
step, and from the step after the one under way, and the list is said step by step: an AUTH goes on to the next step,
waits, or is refused, as `AuthStepDecides` has it decide; a RUN begins, as `RunsBeginAndPumpTimersEnd` has it begin or
end at once; a HOLD holds the context and a FINISH finishes the delivery. A list lost with its nozzle, met after a
resumed wait, holds the context (the model's reading, log 12). That the GRANT_CLOSED of an ABORT enters a queue before
the notices of the finishing is the model's reading (log 13). -/
def Obligations.StopAbortContinueTakeEffect : Prop :=
  (∀ (n : NozzleId) (k : Nat) (rest : List Step) (s : State),
    let here : State := s.modCtx n fun c => { c with pointer := k }
    s.runAll n = s.runFrom n 0 (s.ctx n).steps
    ∧ s.runRest n = s.runFrom n ((s.ctx n).pointer + 1) ((s.ctx n).steps.drop ((s.ctx n).pointer + 1))
    ∧ (∀ req y, here.authStep n req = (y, .authorised) →
      s.runFrom n k (.auth req :: rest) = y.runFrom n (k + 1) rest)
    ∧ (∀ req y, here.authStep n req = (y, .deferred) → s.runFrom n k (.auth req :: rest) = y)
    ∧ (∀ req y why first, here.authStep n req = (y, .refused why first) →
      s.runFrom n k (.auth req :: rest) = y.refuseAuth n why first)
    ∧ (∀ a, s.runFrom n k (.run a :: rest) = here.beginRun n)
    ∧ s.runFrom n k (.hold :: rest) = here.enterHeld n .hold
    ∧ s.runFrom n k (.finish :: rest) = here.finishNozzle n .complete
    ∧ s.runFrom n k [] = s.enterHeld n .resumed)
  ∧ ∀ (p : Port) (tag : Byte) (n : NozzleId) (s : State), s.Accepts p → s.role p = .island →
    (s.config.nozzles.read n).owner = p →
    let x := (s.ctx n).state
    let i := s.idleAssembler p
    (x ∈ [.proving, .flowFull, .flowSlow] → exec (.stop p tag (n.val + 1)) s =
      .next ((i.stopFlow n .stopped).reply p .stop tag .ok .nothing).startStore)
    ∧ (x = .priming → exec (.stop p tag (n.val + 1)) s =
      .next (((i.quitPriming n .stopped).runRest n).reply p .stop tag .ok .nothing).startStore)
    ∧ (x = .priming → (s.ctx n).steps.drop ((s.ctx n).pointer + 1) = [.hold] → exec (.stop p tag (n.val + 1)) s =
      .next ((((i.quitPriming n .stopped).modCtx n fun c => { c with pointer := c.pointer + 1 }).enterHeld n
        .hold).reply p .stop tag .ok .nothing).startStore)
    ∧ (x ∈ [.free, .loaded, .fetching, .awaitGrant, .draining, .held] → exec (.stop p tag (n.val + 1)) s =
      .next (s.answered p .stop tag .nozzleState .nothing).startStore)
    ∧ (x = .free → exec (.abort p tag (n.val + 1)) s =
      .next (s.answered p .abort tag .nozzleState .nothing).startStore)
    ∧ (x = .loaded → exec (.abort p tag (n.val + 1)) s =
      .next ((s.modCtx n fun _ => freeContext).answered p .abort tag .ok .nothing).startStore)
    ∧ (x = .held → exec (.abort p tag (n.val + 1)) s =
      .next ((i.finishNozzle n .aborted).reply p .abort tag .ok .nothing).startStore)
    ∧ (x = .fetching → exec (.abort p tag (n.val + 1)) s =
      .next (((i.withdrawRequester (.ident n)).finishNozzle n .aborted).reply p .abort tag .ok .nothing).startStore)
    ∧ (x = .awaitGrant → exec (.abort p tag (n.val + 1)) s =
      .next ((((i.modCtx n fun c => { c with grant := none }).postRole .fleet
        (.grantClosed (s.delivery n).ticket .aborted none none (s.delivery n).grantExtra)).finishNozzle n
          .aborted).reply p .abort tag .ok .nothing).startStore)
    ∧ (x = .priming → exec (.abort p tag (n.val + 1)) s =
      .next (((i.quitPriming n .aborted).finishNozzle n .aborted).reply p .abort tag .ok .nothing).startStore)
    ∧ (x ∈ [.proving, .flowFull, .flowSlow] → s.reservedFor n = none → exec (.abort p tag (n.val + 1)) s =
      .next (((i.stopFlow n .aborted).modCtx n fun c => { c with move := .abort }).reply p .abort tag .ok
        .nothing).startStore)
    ∧ (x = .draining → s.reservedFor n = none → exec (.abort p tag (n.val + 1)) s =
      .next ((s.modCtx n fun c => { c with move := .abort }).answered p .abort tag .ok .nothing).startStore)
    ∧ (∀ k, x = .draining → s.reservedFor n = some k → exec (.abort p tag (n.val + 1)) s =
      .next (((s.modCtx n fun c => { c with move := .abort }).setSlot k .empty).answered p .abort tag .ok
        .nothing).startStore)
    ∧ (x = .held → (s.ctx n).steps ≠ [] → exec (.continueList p tag (n.val + 1)) s =
      .next (((i.modCtx n fun c => { c with hold := none }).reply p .continueList tag .ok .nothing).runAll
        n).startStore)
    ∧ (let on : State := (i.modCtx n fun c => { c with hold := none, pointer := 0 }).reply p .continueList tag .ok .nothing
      let takes (y : State) : Prop := exec (.continueList p tag (n.val + 1)) s = .next y.startStore
      (∀ a rest, x = .held → (s.ctx n).steps = .run a :: rest → takes (on.beginRun n))
      ∧ ∀ req rest, x = .held → (s.ctx n).steps = .auth req :: rest →
        (∀ y, on.authStep n req = (y, .authorised) → takes (y.runFrom n 1 rest))
        ∧ (∀ y, on.authStep n req = (y, .deferred) → takes y)
        ∧ ∀ y why first, on.authStep n req = (y, .refused why first) → takes (y.refuseAuth n why first))
    ∧ (x = .held → (s.ctx n).steps = [.finish] → exec (.continueList p tag (n.val + 1)) s =
      .next (((i.modCtx n fun c => { c with hold := none, pointer := 0 }).reply p .continueList tag .ok
        .nothing).finishNozzle n .complete).startStore)
    ∧ (x = .held → (s.ctx n).steps = [.hold] → exec (.continueList p tag (n.val + 1)) s =
      .next (((i.modCtx n fun c => { c with hold := none, pointer := 0 }).reply p .continueList tag .ok
        .nothing).enterHeld n .hold).startStore)
    ∧ (x = .held → (s.ctx n).steps = [] → exec (.continueList p tag (n.val + 1)) s =
      .next (s.answered p .continueList tag .badList .nothing).startStore)
    ∧ (x ≠ .held → exec (.continueList p tag (n.val + 1)) s =
      .next (s.answered p .continueList tag .nozzleState .nothing).startStore)

/-! ### Authorisation (chapter 6) -/

/-- R90, R109, R110, R111, R112, R113, R114, R115, R116, R117, R161: an AUTH step on a delivery whose machine's record
is pinned. `e` is the effective allowance, `cap` the cap built on it; the issue is the least of the three terms. A
machine not of an essential class is refused RESERVE_ONLY in tier RESERVE. The stock term is what the tank's usable
stock leaves above the floor beyond every other open delivery's limit on it. An authorisation sets the limit, a deferral
enters AWAIT_GRANT, and a refusal finishes the delivery at its first AUTH and holds it at a later one. The requested
amount is recorded when the first AUTH is executed, whatever it decides (R161). -/
def Obligations.AuthStepDecides : Prop :=
  ∀ (n : NozzleId) (req : Requested) (d : Delivery) (l : LineId) (r : MachineRecord) (s : State),
    (s.ctx n).delivery = some d → d.line = some l → s.recordAt l = some r →
    let cls := s.config.classes.read r.cls
    let set := s.config.authorisation
    let first := decide (d.limit = 0 ∧ d.factor = none)
    let asked : State :=
      if first then s.modCtx n fun c => { c with delivery := some { d with requested := some req } } else s
    let e : Nat := match (s.tank d.tank).tier with
      | .normal => r.allowance
      | .tier1 => r.allowance * set.tier1 / 100
      | .tier2 => r.allowance * set.tier2 / 100
      | .reserve => r.allowance
    let cap := if r.restricted then min e cls.ration else e
    let name : Factor := if r.restricted = true ∧ cls.ration < e then .restriction else .allowance
    let wanted : Nat := match req with
      | .amount x => x
      | .fill => r.capacity
    let a := min wanted (min (r.capacity - d.running) (2500000 - d.running))
    let b := cap - (if r.usageShift = s.clock.shift then r.used else 0) - d.running
    let tank := s.tank d.tank
    let usable : Int := match tank.book, tank.gauge.net with
      | some x, some y => min x (y : Int)
      | some x, none => x
      | none, some y => (y : Int)
      | none, none => 0
    let others : Nat :=
      (∑ m : NozzleId,
        if m ≠ n ∧ (s.ctx m).state ∉ [.free, .loaded, .fetching] ∧ (s.delivery m).tank = d.tank then (s.delivery m).limit
        else 0)
      + ∑ k : ParkId, match s.slot k with
        | .holding x => if x.delivery.tank = d.tank then x.delivery.limit else 0
        | _ => 0
    let c := if (s.config.tanks.read d.tank).enabled then
        (usable - ((s.config.tanks.read d.tank).floor : Int) - (others : Int) - (d.running : Int)).toNat
      else 0
    let g := min a (min b c)
    let factor : Factor := if g = a then .request else if g = b then name else .stock
    let now (x : Delivery) : State := s.modCtx n fun y => { y with delivery := some x }
    let owner := (s.config.nozzles.read n).owner
    s.stockTerm n = c
    ∧ (∀ (issue a' : Nat) (f : Factor) (flag fst : Bool),
      let limit := if a' = 0 ∧ fst = false then min d.limit d.running else d.running + issue
      s.authorise n issue a' f flag fst =
        (now { d with limit := limit, factor := some f, restrictedAtAuth := flag, wait := none }).postTo owner
          (.deliveryStage (.authorised d.ticket limit (some f))))
    ∧ (∀ w : WaitTerms, s.awaitGrant n w =
      ({ s.modCtx n (fun y => { y with
          state := .awaitGrant, grant := some set.grantTimer, delivery := some { d with wait := some w } }) with
        expired := s.expired.filter fun x => !decide (x = d.ticket) } : State).postRole .fleet (.grantWanted
          { ticket := d.ticket, fleet := d.fleet, cls := r.cls, name := cls.name, nozzle := n, tank := d.tank,
            tier := tank.tier, restricted := w.restricted, first := w.first, netSoFar := d.running, a := w.a, b := w.b,
            shortfall := min w.a c - w.b, timer := set.grantTimer }))
    ∧ (∀ why : Reason,
      s.refuseAuth n why true = (now { d with wait := none, refusal := some why }).finishNozzle n .refused
      ∧ s.refuseAuth n why false =
        ((now { d with wait := none }).postTo owner (.deliveryStage (.authRefused d.ticket why d.limit))).enterHeld n
          .authRefused)
    ∧ ((s.tank d.tank).tier = .reserve → cls.essential = false →
      s.authStep n req = (asked, .refused .reserveOnly first))
    ∧ ((s.tank d.tank).tier ≠ .reserve ∨ cls.essential = true →
      (b < min a c → cls.grantEligible = true → set.grantsEnabled = true →
        s.authStep n req =
          (asked.awaitGrant n { a := a, b := b, name := name, restricted := r.restricted, first := first }, .deferred))
      ∧ ((min a c ≤ b ∨ cls.grantEligible = false ∨ set.grantsEnabled = false) →
          (set.minIssue ≤ g ∨ g = a) →
        s.authStep n req = (asked.authorise n g a factor r.restricted first, .authorised))
      ∧ ((min a c ≤ b ∨ cls.grantEligible = false ∨ set.grantsEnabled = false) → g < set.minIssue → g ≠ a →
        s.authStep n req = (asked, .refused
          (if g = 0 then (if factor = .stock then .noStock else .noAllowance) else .belowMinimum) first)))

/-- R118, R119, R122: GRANT from a fleet port. It decides the wait of the context in AWAIT_GRANT that holds the ticket
(the lowest nozzle's, in states no run reaches, where two could hold one: log 36): authorised when the issue reaches the
minimum issue or the request term, denied otherwise. A ticket that no context waits with is TOO_LATE when it is on the
expired-wait list, NO_SUCH_TICKET when it is not; a figure outside its range is BAD_FIELD. That GRANT_CLOSED enters the
queue before the notices of a refusal is the model's reading (log 13). -/
def Obligations.GrantDecidesItsWait : Prop :=
  ∀ (p : Port) (tag : Byte) (ticket extra : Nat) (s : State), s.Accepts p → s.role p = .fleet →
    (ticket = 0 ∨ 2500000 < extra → exec (.grant p tag ticket extra) s =
      .next (s.answered p .grant tag .badField .nothing).startStore)
    ∧ (∀ n, s.waitingFor ticket = some n ↔ ((s.ctx n).state = .awaitGrant ∧ (s.delivery n).ticket = ticket)
      ∧ ∀ m, m < n → ¬ ((s.ctx m).state = .awaitGrant ∧ (s.delivery m).ticket = ticket))
    ∧ (s.waitingFor ticket = none ↔ ∀ n, ¬ ((s.ctx n).state = .awaitGrant ∧ (s.delivery n).ticket = ticket))
    ∧ (ticket ≠ 0 → extra ≤ 2500000 → s.waitingFor ticket = none → exec (.grant p tag ticket extra) s =
      .next (s.answered p .grant tag (if ticket ∈ s.expired then .tooLate else .noSuchTicket) .nothing).startStore)
    ∧ ∀ n d w, ticket ≠ 0 → extra ≤ 2500000 → s.waitingFor ticket = some n → (s.ctx n).delivery = some d →
      d.wait = some w →
      let total := min 2500000 (d.grantExtra.getD 0 + extra)
      let x : State := (s.idleAssembler p).modCtx n fun c =>
        { c with grant := none, delivery := some { d with grantExtra := some total } }
      let issue := min w.a (min (w.b + extra) (s.stockTerm n))
      let factor : Factor := if issue = w.a then .request else if issue = w.b + extra then w.name else .stock
      let limit := if w.a = 0 ∧ w.first = false then min d.limit d.running else d.running + issue
      (s.config.authorisation.minIssue ≤ issue ∨ issue = w.a → exec (.grant p tag ticket extra) s =
        .next ((((x.authorise n issue w.a factor w.restricted w.first).postRole .fleet
          (.grantClosed ticket .granted (some limit) none (some total))).reply p .grant tag .ok
            (.grantDecision .granted (some limit) none factor)).runRest n).startStore)
      ∧ (issue < s.config.authorisation.minIssue → issue ≠ w.a → exec (.grant p tag ticket extra) s =
        .next (((x.postRole .fleet (.grantClosed ticket .denied none (some .grantDenied) (some total))).reply p .grant
          tag .ok (.grantDecision .denied none (some .grantDenied) factor)).refuseAuth n .grantDenied
            w.first).startStore)

/-! ### Parking and resumption (chapter 7), METER_CLEAR -/

/-- R126, R127, R128: PARK from the island port that owns the nozzle, in each state, and in DRAINING by the pending
move: with none a slot is reserved, with PARK the slot already reserved is answered, with ABORT no slot. -/
def Obligations.ParkTakesEffect : Prop :=
  ∀ (p : Port) (tag : Byte) (n : NozzleId) (s : State), s.Accepts p → s.role p = .island →
    (s.config.nozzles.read n).owner = p →
    let x := (s.ctx n).state
    let i := s.idleAssembler p
    let few := (s.delivery n).legs.length < 4
    (x ∈ [.free, .loaded, .fetching, .priming, .proving] → exec (.park p tag (n.val + 1)) s =
      .next (s.answered p .park tag .nozzleState .nothing).startStore)
    ∧ (x ∈ [.held, .awaitGrant, .flowFull, .flowSlow, .draining] → ¬ few → exec (.park p tag (n.val + 1)) s =
      .next (s.answered p .park tag .legLimit .nothing).startStore)
    ∧ (x ∈ [.held, .awaitGrant, .flowFull, .flowSlow] ∨ x = .draining ∧ (s.ctx n).move = .none → few →
        s.freePark = none → exec (.park p tag (n.val + 1)) s =
      .next (s.answered p .park tag .noParkSlot .nothing).startStore)
    ∧ (x = .draining → (s.ctx n).move = .park → few → exec (.park p tag (n.val + 1)) s =
      .next (s.answered p .park tag .ok (.parkSlot (s.reservedFor n))).startStore)
    ∧ (x = .draining → (s.ctx n).move = .abort → few → exec (.park p tag (n.val + 1)) s =
      .next (s.answered p .park tag .ok (.parkSlot none)).startStore)
    ∧ ∀ k, few → s.freePark = some k →
      (x = .held → exec (.park p tag (n.val + 1)) s =
        .next ((i.moveToPark n k .request).reply p .park tag .ok (.parkSlot (some k))).startStore)
      ∧ (x = .awaitGrant → exec (.park p tag (n.val + 1)) s =
        .next (((((i.modCtx n fun c => { c with grant := none }).postRole .fleet
          (.grantClosed (s.delivery n).ticket .parked none none (s.delivery n).grantExtra)).addFault n
            .grantWait).moveToPark n k .request).reply p .park tag .ok (.parkSlot (some k))).startStore)
      ∧ (x = .flowFull ∨ x = .flowSlow → exec (.park p tag (n.val + 1)) s =
        .next ((((i.setSlot k (.reserved n)).stopFlow n .stopped).modCtx n fun c => { c with move := .park }).reply p
          .park tag .ok (.parkSlot (some k))).startStore)
      ∧ (x = .draining → (s.ctx n).move = .none → exec (.park p tag (n.val + 1)) s =
        .next (((s.setSlot k (.reserved n)).modCtx n fun c => { c with move := .park }).answered p .park tag .ok
          (.parkSlot (some k))).startStore)

/-- R117, R132, R133, R134: RESUME from an island port that owns the nozzle. The tests in their order; then the move: the
slot EMPTY, a leg added, the meter bound, the limit lowered to what a new tank's stock bears. One FAULT_REPLAY for each
pending fault is posted to the resuming port in R98's order, PROBE_SUBSTITUTE alone stays pending, RESUMED is posted, and
the context is HELD; one parked out of a grant wait waits for its grant again. -/
def Obligations.ResumeTakesUpDelivery : Prop :=
  ∀ (p : Port) (tag : Byte) (ticket : Nat) (n : NozzleId) (s : State), s.Accepts p → s.role p = .island →
    (s.config.nozzles.read n).owner = p →
    let refused (st : Status) : Prop :=
      exec (.resume p tag ticket (n.val + 1)) s = .next (s.answered p .resume tag st .nothing).startStore
    let tank := (s.config.nozzles.read n).tank
    (∀ k x, s.parkedTicket ticket = some (k, x) ↔ s.slot k = .holding x ∧ x.delivery.ticket = ticket
      ∧ ∀ j y, j < k → s.slot j = .holding y → y.delivery.ticket ≠ ticket)
    ∧ (ticket = 0 ∨ 65535 < ticket → refused .badField)
    ∧ (1 ≤ ticket → ticket ≤ 65535 → s.parkedTicket ticket = none → refused .noSuchTicket)
    ∧ ∀ k x, 1 ≤ ticket → ticket ≤ 65535 → s.parkedTicket ticket = some (k, x) →
      ((s.ctx n).state ≠ .free → refused .nozzleBusy)
      ∧ ((s.ctx n).state = .free → (s.config.nozzles.read n).enabled = false → refused .nozzleState)
      ∧ ((s.ctx n).state = .free → (s.config.nozzles.read n).enabled = true →
        ((s.config.tanks.read tank).product ≠ s.deliveryProduct x.delivery → refused .productMismatch)
        ∧ ((s.config.tanks.read tank).product = s.deliveryProduct x.delivery →
          ((s.meter n).state = .faulted → refused .meterFault)
          ∧ ((s.meter n).state ≠ .faulted → (s.tank tank).tier = .reserve → s.essential x.delivery = false →
            refused .reserveOnly)
          ∧ ((s.meter n).state ≠ .faulted → ((s.tank tank).tier ≠ .reserve ∨ s.essential x.delivery = true) →
            (let d : Delivery := { x.delivery with tank := tank, legs := x.delivery.legs ++ [newLeg n] }
              let s1 : State := ((s.idleAssembler p).setSlot k .empty).modCtx n fun _ =>
                { freeContext with state := .held, delivery := some d }
              let d2 : Delivery :=
                if x.delivery.tank ≠ tank ∧ d.running + s1.stockTerm n < d.limit then
                  { d with limit := d.running + s1.stockTerm n, factor := some .stock }
                else d
              let s2 : State := (s1.modCtx n fun c => { c with delivery := some d2 }).modMeter n fun m =>
                { m with bound := true, count := 0, state := .inUse }
              let replayed : State :=
                [PendingFault.probeSubstitute, .tankLow, .meterFault, .stall, .grantWait].foldl (fun y f =>
                  if x.delivery.faults.has f = true then y.postTo p (.faultReplay d.ticket f x.nozzleLeft) else y) s2
              let told : State := (replayed.modCtx n fun c => { c with delivery := some { d2 with
                  faults := { FaultSet.none with probeSubstitute := x.delivery.faults.probeSubstitute } } }).postTo p
                (.deliveryStage (.resumed d.ticket n tank d2.limit d.legs.length))
              let takes (y : State) (z : NozzleState) : Prop := exec (.resume p tag ticket (n.val + 1)) s =
                .next (y.reply p .resume tag .ok (.resumed d.ticket d.fleet d2.limit d.legs.length z)).startStore
              (x.delivery.faults.grantWait = false → takes (told.enterHeld n .resumed) .held)
              ∧ ∀ w, x.delivery.faults.grantWait = true → x.delivery.wait = some w →
                takes (told.awaitGrant n w) .awaitGrant)
            ∧ (∀ w, x.delivery.faults.grantWait = true → x.delivery.wait = some w →
              ∃ t, exec (.resume p tag ticket (n.val + 1)) s = .next (State.startStore t)
                ∧ t.slot k = .empty ∧ (t.ctx n).state = .awaitGrant
                ∧ (t.ctx n).grant = some s.config.authorisation.grantTimer
                ∧ (t.delivery n).wait = some w ∧ (t.delivery n).faults.grantWait = false
                ∧ (t.meter n).bound = true ∧ (t.meter n).count = 0))))

/-- R33, R170: METER_CLEAR from the port that owns the nozzle when its role is ISLAND, and from any WORKSHOP port; from
any other port it is not permitted. -/
def Obligations.MeterClearReturnsMeter : Prop :=
  ∀ (p : Port) (tag : Byte) (n : NozzleId) (s : State), s.Accepts p →
    (s.role p = .workshop ∨ s.role p = .island ∧ (s.config.nozzles.read n).owner = p →
      ((s.meter n).state = .faulted → exec (.meterClear p tag (n.val + 1)) s =
        .next ((s.modMeter n fun m =>
          { m with state := if m.bound then .inUse else .idle, stray := 0, creep := 0, proven := false }).answered p
            .meterClear tag .ok .nothing).startStore)
      ∧ ((s.meter n).state ≠ .faulted → exec (.meterClear p tag (n.val + 1)) s =
        .next (s.answered p .meterClear tag .ok .nothing).startStore))
    ∧ ((s.role p = .fleet ∨ s.role p = .monitor ∨ s.role p = .island ∧ (s.config.nozzles.read n).owner ≠ p) →
      exec (.meterClear p tag (n.val + 1)) s =
        .next (s.answered p .meterClear tag .notPermitted .nothing).startStore)

/-! ### The issue journal (chapter 9) -/

/-- R162, R163: JOURNAL_FETCH and JOURNAL_RELEASE, from a FLEET or WORKSHOP port. -/
def Obligations.JournalIsCollectedFromItsHead : Prop :=
  ∀ (p : Port) (tag : Byte) (seq : Word32) (s : State), s.Accepts p → (s.role p = .fleet ∨ s.role p = .workshop) →
    let full := decide (256 ≤ s.journal.entries.length + s.journal.reservations)
    (∀ e rest, s.journal.entries = e :: rest →
      exec (.journalFetch p tag) s =
        .next (s.answered p .journalFetch tag .ok
          (.journalHead (rest.length + 1) s.journal.reservations full (some e))).startStore
      ∧ (e.seq = seq → exec (.journalRelease p tag seq) s =
        .next (({ s with journal := { s.journal with entries := rest } } : State).answered p .journalRelease tag .ok
          (.released (rest.head?.map (fun x => x.seq)) rest.length s.journal.reservations)).startStore)
      ∧ (e.seq ≠ seq → exec (.journalRelease p tag seq) s =
        .next (s.answered p .journalRelease tag .stale (.stale (some e.seq))).startStore))
    ∧ (s.journal.entries = [] →
      exec (.journalFetch p tag) s =
        .next (s.answered p .journalFetch tag .empty (.journalHead 0 s.journal.reservations full none)).startStore
      ∧ exec (.journalRelease p tag seq) s =
        .next (s.answered p .journalRelease tag .stale (.stale none)).startStore)

/-! ### Machines (chapters 1 and 8) -/

/-- R8, R9, R13, R21: a request for a machine's record that is not in the cache: refused when the machine is not
enrolled, its record damaged, or the store interface FAULTED; otherwise the port keeps the request in hand, and a line
is set to FETCHING with the port on its waiting list, or the machine's number joins the line wait list; behind a fetch
under way the port joins that line's waiting list. The line of a machine is the one that fetches or holds its record; a
machine is enrolled when it has an index entry whose slot is not ERASING (R2); a number on the line wait list stands
there once, its requesters in order of arrival. One that has waited is dealt with as it would be if it came then. The
line taken is an EMPTY one (the lowest-numbered, the model's choice, log 34), else the least recent unpinned CLEAN one.
The number at the head of the line wait list takes a line, FETCHING with all its requesters in their order, or filled by
a REBUILD that waits alone, and so on down the list while lines can be taken. The ranges that `machinePatchOk`,
`setLineOf` and `rebuildOk` test, and the record a REBUILD gives, are said in `CachedMachineRequests`,
`CachedServiceRequests` and `WithdrawAndRebuild`. -/
def Obligations.RecordRequestsWaitForTheirRecord : Prop :=
  (∀ (f : Nat) (l : LineId) (k : SlotId) (e : IndexEntry) (who : Requester) (ws : List Requester) (s : State),
    let holds (j : LineId) : Prop :=
      (∃ i, (s.line j).content = .fetching f i) ∨ ∃ st i r, (s.line j).content = .held st i r ∧ r.fleet = f
    (s.lineFor f = some l ↔ holds l ∧ ∀ j, j < l → ¬ holds j)
    ∧ (s.enrolled f = some e ↔
      s.table.index.find? (fun x => decide (x.fleet = f)) = some e ∧ s.table.slots.read e.slot ≠ .erasing)
    ∧ s.beginFetch l f k ws = { s with table := { s.table with
        lines := s.table.lines.write l { content := .fetching f k, pinned := false, writeQueued := false,
                                         waiters := ws },
        queue := s.table.queue ++ [.fetch l k false] } }
    ∧ ((∀ x ∈ s.table.lineWait, x.1 ≠ f) →
      s.waitForLine f who = { s with table := { s.table with lineWait := s.table.lineWait ++ [(f, [who])] } })
    ∧ ∀ before after, s.table.lineWait = before ++ (f, ws) :: after → (∀ x ∈ before, x.1 ≠ f) →
      s.waitForLine f who = { s with table := { s.table with lineWait := before ++ (f, ws ++ [who]) :: after } })
  ∧ (∀ (p : Port) (tag : Byte) (f : Nat) (c : Instr) (code : ReqCode) (q : WaitingRequest) (s : State), s.Accepts p →
     (c = .machineRead p tag f ∧ code = .machineRead ∧ q = .machineRead f
       ∨ s.role p = .fleet ∧ code = .hours ∧ (∃ x, x ≤ 999999 ∧ c = .hours p tag f x ∧ q = .hours f x)
       ∨ s.role p = .workshop ∧
         (code = .machineSet ∧ (∃ x, machinePatchOk x = true ∧ c = .machineSet p tag f x ∧ q = .machineSet f x)
           ∨ code = .standDown ∧ c = .standDown p tag f ∧ q = .standDown f
           ∨ code = .returnMachine ∧ c = .returnMachine p tag f ∧ q = .returnMachine f
           ∨ code = .setLine ∧ (∃ x, (setLineOf x).isSome = true ∧ c = .setLine p tag f x ∧ q = .setLine f x)
           ∨ code = .setLine ∧ (∃ k, 1 ≤ k ∧ k ≤ 4 ∧ c = .setLineRemove p tag f k ∧ q = .setLineRemove f k)
           ∨ code = .serviceDone ∧ (∃ k x, 1 ≤ k ∧ k ≤ 4 ∧ x ≤ 4294967295 ∧ c = .serviceDone p tag f k x
               ∧ q = .serviceDone f k x)
           ∨ code = .waiver ∧ (∃ k x, 1 ≤ k ∧ k ≤ 4 ∧ x ≤ 4294967295 ∧ c = .waiver p tag f k x ∧ q = .waiver f k x)
           ∨ code = .meterChange ∧ (∃ x y, x ≤ 999999 ∧ y ≤ 999999 ∧ c = .meterChange p tag f x y
               ∧ q = .meterChange f x y))) →
     exec c s = .next ((s.kept p tag q).dealWith f (.port p)).startStore
     ∧ (s.enrolled f = none → exec c s = .next (s.answered p code tag .noSuchMachine .nothing).startStore)
     ∧ ∀ e, s.enrolled f = some e →
       (e.damaged = true → exec c s = .next (s.answered p code tag .recordDamaged .nothing).startStore)
       ∧ (e.damaged = false →
         (∀ l k, s.lineFor f = some l → (s.line l).content = .fetching f k → exec c s =
           .next ((s.kept p tag q).modLine l fun x => { x with waiters := x.waiters ++ [.port p] }).startStore)
         ∧ (s.lineFor f = none → s.table.faulted = true → exec c s =
           .next (s.answered p code tag .storeFault .nothing).startStore)
         ∧ (∀ l, s.lineFor f = none → s.table.faulted = false → s.freeLine = some l → exec c s =
           .next ((s.kept p tag q).beginFetch l f e.slot [.port p]).startStore)
         ∧ (s.lineFor f = none → s.table.faulted = false → s.freeLine = none → exec c s =
           .next ((s.kept p tag q).waitForLine f (.port p)).startStore)))
  ∧ (∀ (s : State) (l : LineId), s.freeLine = some l ↔
      ((s.line l).content = .empty ∧ ∀ j, j < l → (s.line j).content ≠ .empty)
      ∨ (∀ j, (s.line j).content ≠ .empty) ∧ s.table.useOrder.reverse.find? (fun j =>
          !(s.line j).pinned && match (s.line j).content with
            | .held .clean _ _ => true
            | _ => false) = some l)
  ∧ (∀ s : State, s.table.lineWait = [] ∨ s.freeLine = none → s.lineFreed = s)
  ∧ ∀ (s : State) (f : Nat) (ws : List Requester) (rest : List (Nat × List Requester)) (l : LineId) (e : IndexEntry),
    s.table.lineWait = (f, ws) :: rest → (∀ x ∈ rest, x.1 ≠ f) → s.freeLine = some l → s.enrolled f = some e →
    s.lineFor f = none → s.table.faulted = false →
    (e.damaged = false → ws ≠ [] →
        (∀ p, .port p ∈ ws → ∃ q, s.requestInHand p = some q ∧ (∀ x, q ≠ .enrol x) ∧ ∀ x, q ≠ .rebuild x) →
      s.lineFreed = ({ s with table := { s.table with
        lineWait := rest, queue := s.table.queue ++ [.fetch l e.slot false],
        lines := s.table.lines.write l { content := .fetching f e.slot, pinned := false, writeQueued := false,
                                         waiters := ws } } } : State).lineFreed)
    ∧ ∀ p tag x, ws = [.port p] → (s.port p).inHand = some { tag := tag, request := .rebuild x } → x.fleet = f →
        rebuildOk x = true →
      let r := monitored (fun _ => true) (rebuiltRecord s.clock.shift x)
      let good : State := { s with table := { s.table with
        lineWait := rest, index := s.table.index.map fun y => if y.fleet = f then { y with damaged := false } else y } }
      s.lineFreed = ((((good.emptyOut l).putRecord l e.slot r).postOffices (serviceNotes [] false r .rebuild)).modPort p
        fun y => { y with inHand := none, line := y.line ++ [answerTo .rebuild tag .ok .nothing] }).lineFreed

/-- R6, R7, R11, R19, R20, R22: MACHINE_READ, MACHINE_SET, STAND_DOWN and RETURN of a machine in the cache. Each is a
use of the line; a change is made after the lazy shift reset and written back (R11); a state already as asked changes
nothing. That MACHINE_SET's fields are tested before the record is sought is the model's reading (log 17), and that a
product set to what it is does not change it (log 16). A field present is in its range when the class is 0 to 7, the
product 1 to 4, the capacity 1 to 2,500,000 and the allowance 0 to 2,500,000. First R7's use order, the most recent line
first, and R11's three cases: a CLEAN line becomes DIRTY with a WRITE queued, a DIRTY one has no second WRITE, and a
WRITING one stays so with one WRITE behind. -/
def Obligations.CachedMachineRequests : Prop :=
  (∀ (l : LineId) (k : SlotId) (r : MachineRecord) (s : State),
    let used : List LineId := l :: s.table.useOrder.filter (fun x => !decide (x = l))
    let line (st : HeldState) : Tab CacheLine 16 :=
      s.table.lines.write l { s.line l with content := .held st k r, writeQueued := true }
    let behind : List StoreOp := s.table.queue ++ [.write l k]
    s.touch l = { s with table := { s.table with useOrder := used } }
    ∧ (∀ j x, (s.line l).content = .held .clean j x → (s.line l).writeQueued = false → s.putRecord l k r =
      { s with table := { s.table with lines := line .dirty, queue := behind, useOrder := used } })
    ∧ (∀ j x, (s.line l).content = .held .dirty j x → (s.line l).writeQueued = true → s.putRecord l k r =
      { s with table := { s.table with lines := line .dirty, useOrder := used } })
    ∧ (∀ j x, (s.line l).content = .held .writing j x → s.putRecord l k r =
      { s with table := { s.table with
        lines := line .writing, queue := if (s.line l).writeQueued then s.table.queue else behind, useOrder := used } }))
  ∧ ∀ (p : Port) (tag : Byte) (f : Nat) (l : LineId) (st : HeldState) (k : SlotId) (r : MachineRecord) (s : State),
    s.Accepts p → s.Cached f l st k r →
    let now : MachineRecord :=
      { r with used := if r.usageShift = s.clock.shift then r.used else 0, usageShift := s.clock.shift }
    exec (.machineRead p tag f) s =
      .next ((s.touch l).answered p .machineRead tag .ok (.machine k now)).startStore
    ∧ (s.role p = .workshop →
      (∀ q, machinePatchOk q = true →
        let new : MachineRecord := { now with
          cls := (q.cls.bind (fromZero 8)).getD r.cls, product := (q.product.bind (fromOne 4)).getD r.product,
          capacity := q.capacity.getD r.capacity, tag := q.tag.getD r.tag, allowance := q.allowance.getD r.allowance }
        (new.product ≠ r.product → r.openTicket.isSome = true → exec (.machineSet p tag f q) s =
          .next ((s.touch l).answered p .machineSet tag .machineBusy .nothing).startStore)
        ∧ (new.product = r.product ∨ r.openTicket = none → exec (.machineSet p tag f q) s =
          .next (((s.touch l).putRecord l k new).answered p .machineSet tag .ok .nothing).startStore))
      ∧ (∀ q : MachinePatch, machinePatchOk q = true ↔
        (∀ x, q.cls = some x → x ≤ 7) ∧ (∀ x, q.product = some x → 1 ≤ x ∧ x ≤ 4)
        ∧ (∀ x, q.capacity = some x → 1 ≤ x ∧ x ≤ 2500000) ∧ ∀ x, q.allowance = some x → x ≤ 2500000)
      ∧ (∀ q, machinePatchOk q = false → exec (.machineSet p tag f q) s =
          .next (s.answered p .machineSet tag .badField .nothing).startStore)
      ∧ (r.stoodDown = false →
        exec (.standDown p tag f) s =
          .next (((s.touch l).putRecord l k { now with stoodDown := true }).answered p .standDown tag .ok
            .nothing).startStore
        ∧ exec (.returnMachine p tag f) s =
          .next ((s.touch l).answered p .returnMachine tag .ok .nothing).startStore)
      ∧ (r.stoodDown = true →
        exec (.returnMachine p tag f) s =
          .next (((s.touch l).putRecord l k { now with stoodDown := false }).answered p .returnMachine tag .ok
            .nothing).startStore
        ∧ exec (.standDown p tag f) s =
          .next ((s.touch l).answered p .standDown tag .ok .nothing).startStore))

/-- R143, R144, R145, R146, R147: HOURS for a machine in the cache. A reading below the record's is held; one above it
by more than the jump limit, when the stamp is usable, is clamped; lifetime hours may not pass 99,999,999. The stamp is
usable when its epoch is the current one and that epoch is not 0 (R142). A post that changes the reading evaluates the
HOURS lines against the new lifetime hours, by the bands of R138; the other lines are kept; and the restricted flag is
set exactly when an enforcing line is then OVERDUE (R139, R140). -/
def Obligations.HoursPostsAreChecked : Prop :=
  ∀ (p : Port) (tag : Byte) (f posted : Nat) (l : LineId) (st : HeldState) (k : SlotId) (r : MachineRecord) (s : State),
    s.Accepts p → s.role p = .fleet → s.Cached f l st k r →
    let x := (s.idleAssembler p).touch l
    let done (y : State) (status : Status) (g : Payload) : Prop :=
      exec (.hours p tag f posted) s = .next (y.reply p .hours tag status g).startStore
    let now : MachineRecord :=
      { r with used := if r.usageShift = s.clock.shift then r.used else 0, usageShift := s.clock.shift }
    let after (v : Nat) : MachineRecord :=
      let y : MachineRecord :=
        { now with reading := v, stamp := some { epoch := s.config.time.epoch, time := s.clock.siteTime } }
      let lines := r.lines.map fun line =>
        let life : Int := ((v + r.offset : Nat) : Int)
        let due : Int := (line.lastDone : Int) + (line.interval : Int) + ((line.waiver.getD 0 : Nat) : Int)
        if line.basis = .hours then
          { line with state := if life < due - (line.warn : Int) then .current else if life < due then .dueSoon
                               else if life < due + (line.grace : Int) then .due else .overdue }
        else line
      if v = r.reading then y
      else { y with lines := lines,
                    restricted := lines.any fun line => line.enforcing && decide (line.state = .overdue) }
    let taken (y : State) (v : Nat) (status : Status) : Prop :=
      done ((y.putRecord l k (after v)).postOffices (serviceNotes r.lines r.restricted (after v) .hours)) status
        (.hoursTaken posted v (v + r.offset) (after v).restricted)
    (999999 < posted → done (s.idleAssembler p) .badField .nothing)
    ∧ (posted ≤ 999999 → posted < r.reading →
      done (x.postOffice (.hourAnomaly r.fleet .regress posted r.reading r.reading none none p)) .okHeld
        (.hoursHeld posted r.reading))
    ∧ (posted ≤ 999999 → r.reading ≤ posted →
      (∀ e, r.stamp = some e → e.epoch = s.config.time.epoch → e.epoch ≠ 0 →
        let elapsed := (s.clock.siteTime - e.time).toNat
        let limit := elapsed / 720 + s.config.service.hourTolerance
        (posted - r.reading ≤ limit → 99999999 < posted + r.offset → done x .badReading .nothing)
        ∧ (posted - r.reading ≤ limit → posted + r.offset ≤ 99999999 → taken x posted .ok)
        ∧ (limit < posted - r.reading → 99999999 < r.reading + limit + r.offset → done x .badReading .nothing)
        ∧ (limit < posted - r.reading → r.reading + limit + r.offset ≤ 99999999 →
          taken (x.postOffice (.hourAnomaly r.fleet .jump posted r.reading (r.reading + limit) (some elapsed)
            (some limit) p)) (r.reading + limit) .okClamped))
      ∧ (r.stamp = none ∨ s.config.time.epoch = 0 ∨ (∃ e, r.stamp = some e ∧ e.epoch ≠ s.config.time.epoch) →
        (99999999 < posted + r.offset → done x .badReading .nothing)
        ∧ (posted + r.offset ≤ 99999999 → taken x posted .ok)))

/-- Section 8.3: METER_CHANGE, SERVICE_DONE, WAIVER and SET_LINE for a machine in the cache: the change refused with its
status, or made after the lazy shift reset, written back, its notices posted, and answered. What each change is,
`ServiceChangesOfALine` says. That METER_CHANGE's answer names no line and carries the hours, and that the answer to a
removal has the line absent and the reading of the basis it had, is the model's choice (log 35). Figures outside their
ranges are BAD_FIELD, whether or not the machine is in the cache (METER_CHANGE's readings 0 to 999,999; a line 1 to 4,
and a figure of 32 bits, before the record is sought: log 17; SET_LINE's fields by R151, last done by R137's range: log
17). -/
def Obligations.CachedServiceRequests : Prop :=
  (∀ (x : LineFields) (y : ServiceLine), setLineOf x = some y ↔
    LineFigures x.number x.basis x.interval x.lastDone x.warn x.grace x.enforcing none y ∧ y.state = .current)
  ∧ (∀ (p : Port) (tag : Byte) (f num x y : Nat) (line : LineFields) (s : State), s.Accepts p → s.role p = .workshop →
    let badField (c : Instr) (code : ReqCode) : Prop :=
      exec c s = .next (s.answered p code tag .badField .nothing).startStore
    (999999 < x ∨ 999999 < y → badField (.meterChange p tag f x y) .meterChange)
    ∧ (num = 0 ∨ 4 < num ∨ 4294967295 < x →
      badField (.serviceDone p tag f num x) .serviceDone ∧ badField (.waiver p tag f num x) .waiver)
    ∧ ((∀ z, ¬ LineFigures line.number line.basis line.interval line.lastDone line.warn line.grace line.enforcing
      none z) → badField (.setLine p tag f line) .setLine)
    ∧ (num = 0 ∨ 4 < num → badField (.setLineRemove p tag f num) .setLine))
  ∧ ∀ (p : Port) (tag : Byte) (f : Nat) (l : LineId) (st : HeldState) (k : SlotId) (r : MachineRecord) (c : Instr)
    (code : ReqCode) (cause : ServiceCause) (num : Nat) (change : MachineRecord → Status ⊕ MachineRecord) (s : State),
    s.Accepts p → s.role p = .workshop → s.Cached f l st k r →
    ((∃ o x, o ≤ 999999 ∧ x ≤ 999999 ∧ c = .meterChange p tag f o x ∧ code = .meterChange ∧ cause = .meterChange
        ∧ num = 0 ∧ change = meterChanged o x)
      ∨ (∃ x, 1 ≤ num ∧ num ≤ 4 ∧ x ≤ 4294967295 ∧ c = .serviceDone p tag f num x ∧ code = .serviceDone
        ∧ cause = .serviceDone ∧ change = serviceDone num x)
      ∨ (∃ x, 1 ≤ num ∧ num ≤ 4 ∧ x ≤ 4294967295 ∧ c = .waiver p tag f num x ∧ code = .waiver ∧ cause = .waiver
        ∧ change = waived num x)
      ∨ (∃ x y, setLineOf x = some y ∧ num = x.number ∧ c = .setLine p tag f x ∧ code = .setLine ∧ cause = .setLine
        ∧ change = lineSet y)
      ∨ (1 ≤ num ∧ num ≤ 4 ∧ c = .setLineRemove p tag f num ∧ code = .setLine ∧ cause = .setLine
        ∧ change = lineRemoved num)) →
    let now : MachineRecord :=
      { r with used := if r.usageShift = s.clock.shift then r.used else 0, usageShift := s.clock.shift }
    (∀ status, change now = .inl status → exec c s =
      .next ((s.touch l).answered p code tag status .nothing).startStore)
    ∧ ∀ new, change now = .inr new →
      let line := findLine new.lines num
      let basis : Basis := match line, findLine r.lines num with
        | some y, _ => y.basis
        | none, some y => y.basis
        | none, none => .hours
      exec c s =
        .next (((((s.idleAssembler p).touch l).putRecord l k new).postOffices
          (serviceNotes r.lines r.restricted new cause)).reply p code tag .ok
            (.service line (match basis with
              | .hours => new.reading + new.offset
              | .fuel => new.lifetimeFuel) new.restricted)).startStore

/-- R137, R138, R139, R140, R141, R148, R149, R150, R151, R152, R153: what an evaluation makes of a record, whatever
lines an event picks: the picked lines evaluated against the reading of their basis, the others kept, and the restricted
flag set exactly when an enforcing line is OVERDUE. What SERVICE_DONE and WAIVER make of the line they name, SET_LINE of
the line it adds or changes, with the waiver kept or dropped, METER_CHANGE of the meter, and a removal of the list; when
each is refused; and the restricted flag that follows. The lines of a record stand in number order (R5). The notices of
an event: one SERVICE_STATE for each line number whose state changed, a line that is not there counting as ABSENT, in
ascending number, then RESTRICTION if the flag changed; the reading and due point of one that is removed are the model's
reading (log 26). -/
def Obligations.ServiceChangesOfALine : Prop :=
  ∀ (r : MachineRecord) (num x : Nat),
    let life (b : Basis) : Nat := match b with
      | .hours => r.reading + r.offset
      | .fuel => r.lifetimeFuel
    let evaluated (l : ServiceLine) (v : Int) : ServiceLine :=
      let due : Int := (l.lastDone : Int) + (l.interval : Int) + ((l.waiver.getD 0 : Nat) : Int)
      { l with state := if v < due - (l.warn : Int) then .current else if v < due then .dueSoon
                        else if v < due + (l.grace : Int) then .due else .overdue }
    let restricted (ls : List ServiceLine) : Bool := ls.any fun l => l.enforcing && decide (l.state = .overdue)
    (∀ pick : ServiceLine → Bool,
      let ls := r.lines.map fun y => if pick y = true then evaluated y (life y.basis) else y
      monitored pick r = { r with lines := ls, restricted := restricted ls })
    ∧ (findLine r.lines num = none →
      serviceDone num x r = .inl .badField ∧ waived num x r = .inl .badField ∧ lineRemoved num r = .inl .badField)
    ∧ (∀ l, findLine r.lines num = some l →
      ((x < l.lastDone ∨ life l.basis < x) → serviceDone num x r = .inl .badReading)
      ∧ (l.interval < x → waived num x r = .inl .badField)
      ∧ (l.lastDone ≤ x → x ≤ life l.basis →
        let ls := r.lines.map fun y =>
          if y.number = num then evaluated { y with lastDone := x, waiver := none } (life y.basis) else y
        serviceDone num x r = .inr { r with lines := ls, restricted := restricted ls })
      ∧ (x ≤ l.interval →
        let ls := r.lines.map fun y =>
          if y.number = num then evaluated { y with waiver := if x = 0 then none else some x } (life y.basis) else y
        waived num x r = .inr { r with lines := ls, restricted := restricted ls })
      ∧ (let ls := r.lines.filter fun y => !decide (y.number = num)
        lineRemoved num r = .inr { r with lines := ls, restricted := restricted ls }))
    ∧ (∀ old, (old < r.reading ∨ r.offset + old < x ∨ 99999999 < r.offset + old) →
      meterChanged old x r = .inl .badReading)
    ∧ (∀ old, r.reading < old → x ≤ r.offset + old → r.offset + old ≤ 99999999 →
      let ls := r.lines.map fun y => if y.basis = .hours then evaluated y ((r.offset + old : Nat) : Int) else y
      meterChanged old x r = .inr { r with
        reading := x, offset := r.offset + old - x, stamp := none, lines := ls, restricted := restricted ls })
    ∧ (x ≤ r.offset + r.reading → r.offset + r.reading ≤ 99999999 →
      meterChanged r.reading x r = .inr { r with
        reading := x, offset := r.offset + r.reading - x, stamp := none })
    ∧ (∀ (old : List ServiceLine) (flag : Bool) (cause : ServiceCause),
      let was (k : Nat) : Option LineState := (findLine old k).map fun y => y.state
      let is (k : Nat) : Option LineState := (findLine r.lines k).map fun y => y.state
      ∃ (changed : List Nat) (notes : List NoticeBody),
        serviceNotes old flag r cause = notes ++ (if flag = r.restricted then [] else
          [.restriction r.fleet r.restricted
            ((r.lines.filter fun y => y.enforcing && decide (y.state = .overdue)).map fun y => y.number)])
        ∧ changed.Pairwise (fun a b => a < b) ∧ (∀ k, k ∈ changed ↔ 1 ≤ k ∧ k ≤ 4 ∧ was k ≠ is k)
        ∧ List.Forall₂ (fun k note => ∃ y, (findLine r.lines k).or (findLine old k) = some y
            ∧ note = .serviceState r.fleet k y.basis (was k) (is k) (life y.basis)
              (y.lastDone + y.interval + y.waiver.getD 0) cause) changed notes)
    ∧ ∀ l : ServiceLine,
      (life l.basis < l.lastDone → lineSet l r = .inl .badReading)
      ∧ (l.lastDone ≤ life l.basis →
        let waiver := match findLine r.lines l.number with
          | some o => if o.basis = l.basis ∧ o.waiver.getD 0 ≤ l.interval then o.waiver else none
          | none => none
        let new := evaluated { l with waiver := waiver } (life l.basis)
        ∃ ls, lineSet l r = .inr { r with lines := ls, restricted := restricted ls }
          ∧ findLine ls l.number = some new ∧ (∀ k, k ≠ l.number → findLine ls k = findLine r.lines k)
          ∧ (r.lines.Pairwise (fun a b => a.number < b.number) →
            ls = r.lines.filter (fun y => decide (y.number < l.number)) ++ [new]
              ++ r.lines.filter (fun y => decide (l.number < y.number))))

/-- R17, R2, R11: ENROL, with a line to take and no request waiting for a line with the same number: the lowest FREE
slot is USED (no slot FREE is TABLE_FULL), the index entry inserted, the line DIRTY with the new record and its WRITE
queued. With no line to take, the request is kept in hand and its number waits for one. The refusals in their order. -/
def Obligations.EnrolAddsMachine : Prop :=
  ∀ (p : Port) (tag : Byte) (f : EnrolFields) (s : State), s.Accepts p → s.role p = .workshop →
    (∀ x ∈ s.table.lineWait, x.1 ≠ f.fleet) →
    let inRange : Prop := 1 ≤ f.fleet ∧ f.fleet ≤ 9999 ∧ f.cls < 8 ∧ 1 ≤ f.product ∧ f.product ≤ 4 ∧ 1 ≤ f.capacity
      ∧ f.capacity ≤ 2500000 ∧ (∀ a, f.allowance = some a → a ≤ 2500000) ∧ f.reading ≤ 999999
    let refused (st : Status) : Prop :=
      exec (.enrol p tag f) s = .next (s.answered p .enrol tag st .nothing).startStore
    (∀ k, s.freeSlot = some k ↔ s.table.slots.read k = .free ∧ ∀ j, j < k → s.table.slots.read j ≠ .free)
    ∧ (¬ inRange → refused .badField)
    ∧ (inRange → (s.entry f.fleet).isSome = true → refused .duplicate)
    ∧ (inRange → s.entry f.fleet = none → (s.table.faulted = true ∨ 0 < s.table.unread) → refused .storeFault)
    ∧ (inRange → s.entry f.fleet = none → s.table.faulted = false → s.table.unread = 0 → s.freeSlot = none →
      refused .tableFull)
    ∧ (∀ k, inRange → s.entry f.fleet = none → s.table.faulted = false → s.table.unread = 0 → s.freeSlot = some k →
        s.freeLine = none → s.lineFor f.fleet = none →
      exec (.enrol p tag f) s = .next ((s.kept p tag (.enrol f)).waitForLine f.fleet (.port p)).startStore)
    ∧ ∀ (k : SlotId) (l : LineId) (hc : f.cls < 8) (hp : f.product - 1 < 4), inRange → s.entry f.fleet = none →
      s.table.faulted = false → s.table.unread = 0 → s.freeSlot = some k → s.freeLine = some l →
      let r : MachineRecord :=
        { fleet := f.fleet, cls := ⟨f.cls, hc⟩, stoodDown := false, product := ⟨f.product - 1, hp⟩,
          capacity := f.capacity, tag := f.tag,
          allowance := f.allowance.getD (s.config.classes.read ⟨f.cls, hc⟩).defaultAllowance, used := 0,
          usageShift := s.clock.shift, lifetimeFuel := 0, reading := f.reading, offset := 0, stamp := none, lines := [],
          restricted := false, openTicket := none }
      exec (.enrol p tag f) s =
        .next (({ s with table := { s.table with
          slots := s.table.slots.write k .used,
          index := insertEntry { fleet := f.fleet, slot := k, damaged := false } s.table.index,
          lines := s.table.lines.write l { content := .held .dirty k r, pinned := false, writeQueued := true,
                                           waiters := [] },
          queue := s.table.queue ++ [.write l k],
          useOrder := l :: s.table.useOrder.filter (fun x => !decide (x = l)) } } : State).answered p .enrol tag .ok
            (.enrolled k)).startStore

/-- R4, R5, R18, R21, R138, R140, R153: WITHDRAW of a machine, cached without an open ticket or not cached, with nothing
waiting: its slot ERASING, its line EMPTY, its queued operations gone, the ERASE queued and the request kept in hand.
REBUILD of a machine in the cache without an open ticket, and of one that is not: the entry GOOD, the record replaced
and evaluated, its WRITE queued; behind a fetch of its record, or with no line to take, it is kept in hand and waits.
The refusals of both. A REBUILD's fields are those of R4 in their ranges, its lines numbered apart, and the record that
results holds them, with the lines in number order, each in the band of its reading, the usage shift the current one,
the restricted flag by R140, and no stamp and no open ticket. That an operation in flight for a withdrawn line is no
longer followed up is the model's reading (log 18), as are the details of a REBUILD (log 14) and the range of a line's
last done (log 17), and that a WITHDRAW is refused MACHINE_BUSY before STORE_FAULT is its choice (log 50). -/
def Obligations.WithdrawAndRebuild : Prop :=
  ∀ (p : Port) (tag : Byte) (s : State), s.Accepts p → s.role p = .workshop → s.table.lineWait = [] →
    (∀ f : Nat,
      (s.enrolled f = none → exec (.withdraw p tag f) s =
        .next (s.answered p .withdraw tag .noSuchMachine .nothing).startStore)
      ∧ ∀ e, s.enrolled f = some e →
        (∀ l st k r, s.lineFor f = some l → (s.line l).content = .held st k r → r.openTicket.isSome = true →
          exec (.withdraw p tag f) s = .next (s.answered p .withdraw tag .machineBusy .nothing).startStore)
        ∧ (s.lineFor f = none → s.table.faulted = true → exec (.withdraw p tag f) s =
          .next (s.answered p .withdraw tag .storeFault .nothing).startStore)
        ∧ (∀ l st k r, s.lineFor f = some l → (s.line l).content = .held st k r → r.openTicket = none →
            s.table.faulted = true →
          exec (.withdraw p tag f) s = .next (s.answered p .withdraw tag .storeFault .nothing).startStore)
        ∧ (s.lineFor f = none → s.table.faulted = false → exec (.withdraw p tag f) s =
          .next (({ s.kept p tag (.withdraw f) with table := { s.table with
            slots := s.table.slots.write e.slot .erasing, queue := s.table.queue ++ [.erase e.slot (some p)] } } :
              State)).startStore)
        ∧ (∀ l st k r, s.lineFor f = some l → (s.line l).content = .held st k r → r.openTicket = none →
            (s.line l).waiters = [] → s.table.faulted = false → exec (.withdraw p tag f) s =
          .next (({ s.kept p tag (.withdraw f) with table := { s.table with
            slots := s.table.slots.write e.slot .erasing,
            lines := s.table.lines.write l { content := .empty, pinned := false, writeQueued := false, waiters := [] },
            queue := s.table.queue.filter (fun op => !op.serves l) ++ [.erase e.slot (some p)],
            inFlight := s.table.inFlight.map fun x => if x.op.serves l then { x with discarded := true } else x } } :
              State)).startStore))
    ∧ (∀ f : RebuildFields,
      let figures (a : RebuildLine) (y : ServiceLine) : Prop :=
        LineFigures a.number a.basis a.interval a.lastDone a.warn a.grace a.enforcing a.waiver y
      (rebuildOk f = true ↔ f.cls ≤ 7 ∧ 1 ≤ f.product ∧ f.product ≤ 4 ∧ 1 ≤ f.capacity ∧ f.capacity ≤ 2500000
        ∧ f.allowance ≤ 2500000 ∧ f.reading ≤ 999999 ∧ f.used ≤ 4294967295 ∧ f.lifetimeFuel ≤ 4294967295
        ∧ f.reading + f.offset ≤ 99999999 ∧ f.state ≤ 1 ∧ (∀ a ∈ f.lines, ∃ y, figures a y)
        ∧ f.lines.Pairwise fun a b => a.number ≠ b.number)
      ∧ ∀ (hc : f.cls < 8) (hp : f.product - 1 < 4), rebuildOk f = true →
        ∃ lines : List ServiceLine,
          monitored (fun _ => true) (rebuiltRecord s.clock.shift f) =
            { fleet := f.fleet, cls := ⟨f.cls, hc⟩, stoodDown := decide (f.state = 1), product := ⟨f.product - 1, hp⟩,
              capacity := f.capacity, tag := f.tag, allowance := f.allowance, used := f.used,
              usageShift := s.clock.shift, lifetimeFuel := f.lifetimeFuel, reading := f.reading, offset := f.offset,
              stamp := none, lines := lines,
              restricted := lines.any (fun y => y.enforcing && decide (y.state = .overdue)), openTicket := none }
          ∧ lines.Pairwise (fun a b => a.number < b.number)
          ∧ ∀ y, y ∈ lines ↔ ∃ a ∈ f.lines, figures a y
            ∧ (let life : Int := (if a.basis = 0 then f.reading + f.offset else f.lifetimeFuel : Nat)
              let due : Int := ((a.lastDone + a.interval + a.waiver.getD 0 : Nat) : Int)
              y.state = if life < due - (a.warn : Int) then .current else if life < due then .dueSoon
                else if life < due + (a.grace : Int) then .due else .overdue))
    ∧ (∀ f : RebuildFields,
      let r := monitored (fun _ => true) (rebuiltRecord s.clock.shift f)
      let good : State := (s.idleAssembler p).modTable fun t =>
        { t with index := t.index.map fun x => if x.fleet = f.fleet then { x with damaged := false } else x }
      (s.enrolled f.fleet = none → exec (.rebuild p tag f) s =
        .next (s.answered p .rebuild tag .noSuchMachine .nothing).startStore)
      ∧ ∀ e, s.enrolled f.fleet = some e →
        (rebuildOk f = false → exec (.rebuild p tag f) s =
          .next (s.answered p .rebuild tag .badField .nothing).startStore)
        ∧ (rebuildOk f = true → s.table.faulted = true → exec (.rebuild p tag f) s =
          .next (s.answered p .rebuild tag .storeFault .nothing).startStore)
        ∧ (∀ l st k old, rebuildOk f = true → s.table.faulted = false → s.lineFor f.fleet = some l →
            (s.line l).content = .held st k old →
          (old.openTicket.isSome = true → exec (.rebuild p tag f) s =
            .next (s.answered p .rebuild tag .machineBusy .nothing).startStore)
          ∧ (old.openTicket = none → exec (.rebuild p tag f) s =
            .next (((good.putRecord l e.slot r).postOffices (serviceNotes old.lines old.restricted r .rebuild)).reply p
              .rebuild tag .ok .nothing).startStore))
        ∧ (∀ l, rebuildOk f = true → s.table.faulted = false → s.lineFor f.fleet = none → s.freeLine = some l →
          exec (.rebuild p tag f) s =
            .next ((((good.emptyOut l).putRecord l e.slot r).postOffices (serviceNotes [] false r .rebuild)).reply p
              .rebuild tag .ok .nothing).startStore)
        ∧ (∀ l k, rebuildOk f = true → s.table.faulted = false → s.lineFor f.fleet = some l →
            (s.line l).content = .fetching f.fleet k → exec (.rebuild p tag f) s =
          .next ((s.kept p tag (.rebuild f)).modLine l fun x => { x with waiters := x.waiters ++ [.port p] }).startStore)
        ∧ (rebuildOk f = true → s.table.faulted = false → s.lineFor f.fleet = none → s.freeLine = none →
          exec (.rebuild p tag f) s =
            .next ((s.kept p tag (.rebuild f)).waitForLine f.fleet (.port p)).startStore))

/-! ### Tanks (chapter 4) -/

/-- R62, R63, R68: what follows a recomputation of usable stock, the lesser of book and gauge. With the thresholds in
order the tier is left between the falling and the rising tier of the stock, moves only when it was outside them, and a
second evaluation at the same stock leaves it. On an enabled tank a tier that moves is told to every port; at or below
the floor the pump goes to HELD_LOW from any other state and every RUN on the tank is ended TANK_LOW, in READY, lowest
nozzle first (the model's choice, log 41); above the floor a pump in HELD_LOW is STOPPED. R62 lets the tier and the
low-stock state be taken in either order: that the tier is first, and TIER_CHANGE before RUN_ENDED, is the model's
choice (log 47). -/
def Obligations.TierAndLowStockFollowUsableStock : Prop :=
  (∀ (c : TankConfig) (u : Int) (t : Tier), c.reserve < c.tier2 → c.tier2 < c.tier1 →
    let falling : Nat := if u < c.reserve then 3 else if u < c.tier2 then 2 else if u < c.tier1 then 1 else 0
    let rising : Nat :=
      if (c.tier1 : Int) + (c.hysteresis : Int) ≤ u then 0
      else if (c.tier2 : Int) + (c.hysteresis : Int) ≤ u then 1
      else if (c.reserve : Int) + (c.hysteresis : Int) ≤ u then 2 else 3
    let new := nextTier c u t
    falling ≤ rising ∧ falling ≤ new.rank ∧ new.rank ≤ rising
      ∧ (falling ≤ t.rank → t.rank ≤ rising → new = t) ∧ nextTier c u new = new)
  ∧ ∀ (t : TankId) (s : State),
    let cfg := s.config.tanks.read t
    let k := s.tank t
    let usable : Int := match k.book, k.gauge.net with
      | some b, some g => min b (g : Int)
      | some b, none => b
      | none, some g => (g : Int)
      | none, none => 0
    let new := nextTier cfg usable k.tier
    let told : State :=
      if new = k.tier then s
      else (s.modTank t fun x => { x with tier := new }).postAll (.tierChange t k.tier new usable)
    let pump (x : PumpState) : State := told.modTank t fun y => { y with pump := { state := x, timer := none } }
    let ended (y : State) (n : NozzleId) : State :=
      if (s.ctx n).state = .priming then
        ((y.postTo (s.config.nozzles.read n).owner
          (.deliveryStage (.runEnded (s.delivery n).ticket .tankLow (s.delivery n).running))).addFault n
            .tankLow).enterHeld n .tankLow
      else y.stopFlow n .tankLow
    (cfg.enabled = false → s.evaluateTank t = s)
    ∧ (cfg.enabled = true →
      (usable ≤ cfg.floor → k.pump.state = .heldLow → s.evaluateTank t = told)
      ∧ (usable ≤ cfg.floor → k.pump.state ≠ .heldLow →
        (s.startUp.stage = .ready → s.evaluateTank t = (s.demand t).foldl ended (pump .heldLow))
        ∧ (s.startUp.stage ≠ .ready → s.evaluateTank t = pump .heldLow))
      ∧ ((cfg.floor : Int) < usable → k.pump.state = .heldLow → s.evaluateTank t = pump .stopped)
      ∧ ((cfg.floor : Int) < usable → k.pump.state ≠ .heldLow → s.evaluateTank t = told))

/-- R70, R71, R73, R74, R75: RECEIPT_OPEN, RECEIPT_CLOSE, STOCK_ADJUST and RECONCILE from a WORKSHOP port, and what a
reconciliation, on whatever occasion, finds of a tank and does: nothing on a tank not enabled or WITHIN; STOCK_VARIANCE
for one SKIPPED or at VARIANCE; for one whose book is unknown the book set from the gauge, told, and the tank evaluated. -/
def Obligations.ReceiptsAndStockAreBooked : Prop :=
  ∀ (p : Port) (tag : Byte) (t : TankId) (s : State), s.Accepts p → s.role p = .workshop →
    let k := s.tank t
    let cfg := s.config.tanks.read t
    let sat (v : Int) : Int := max (-2147483648) (min 2147483647 v)
    (∀ docket : Nat,
      let opened (st : Status) : Prop :=
        exec (.receiptOpen p tag (t.val + 1) docket) s =
          .next (s.answered p .receiptOpen tag st .nothing).startStore
      (cfg.enabled = false ∨ docket = 0 ∨ 1000000000 < docket → opened .badField)
      ∧ (cfg.enabled = true → 1 ≤ docket → docket ≤ 1000000000 →
        (k.receipt.isSome = true → opened .receiptOpen)
        ∧ (k.receipt = none → k.gauge.net = none → opened .gaugeInvalid)
        ∧ (∀ g, k.receipt = none → k.gauge.net = some g → cfg.capacity < g + docket → opened .badField)
        ∧ (∀ g, k.receipt = none → k.gauge.net = some g → g + docket ≤ cfg.capacity →
          exec (.receiptOpen p tag (t.val + 1) docket) s =
            .next ((s.modTank t fun x => { x with
              receipt := some { docket := docket, gaugedAtOpen := g, issued := 0, substituted := k.gauge.substituted,
                                overGauge := k.gauge.overGauge, clamped := k.gauge.clamped } }).answered p .receiptOpen
                tag .ok (.receiptOpened g)).startStore)))
    ∧ (k.receipt = none → exec (.receiptClose p tag (t.val + 1)) s =
      .next (s.answered p .receiptClose tag .badField .nothing).startStore)
    ∧ (∀ r, k.receipt = some r →
      let received : Int := match k.gauge.net with
        | some g => (g : Int) - (r.gaugedAtOpen : Int) + (r.issued : Int)
        | none => (r.docket : Int)
      let flags : GaugeFlags :=
        { substituted := r.substituted || (k.gauge.net.isSome && k.gauge.substituted),
          overGauge := r.overGauge || (k.gauge.net.isSome && k.gauge.overGauge),
          clamped := r.clamped || (k.gauge.net.isSome && k.gauge.clamped) }
      let book := k.book.map fun b => sat (b + received)
      exec (.receiptClose p tag (t.val + 1)) s =
        .next ((((((s.idleAssembler p).modTank t fun x => { x with book := book, receipt := none }).postOffice
          (.receiptResult t .closed r.docket received (received - (r.docket : Int)) k.gauge.net.isNone flags)).reply p
            .receiptClose tag .ok (.receiptClosed t .closed r.docket received (received - (r.docket : Int))
              k.gauge.net.isNone flags book)).evaluateTank t)).startStore)
    ∧ (∀ amount : Int,
      (amount < -1000000000 ∨ 1000000000 < amount → exec (.stockAdjust p tag (t.val + 1) amount) s =
        .next (s.answered p .stockAdjust tag .badField .nothing).startStore)
      ∧ (-1000000000 ≤ amount → amount ≤ 1000000000 → k.receipt.isSome = true →
        exec (.stockAdjust p tag (t.val + 1) amount) s =
          .next (s.answered p .stockAdjust tag .receiptOpen .nothing).startStore)
      ∧ (-1000000000 ≤ amount → amount ≤ 1000000000 → k.receipt = none →
        let b : Int := match k.book with
          | some x => sat (x + amount)
          | none => if amount < 0 then 0 else amount
        exec (.stockAdjust p tag (t.val + 1) amount) s =
          .next (((s.modTank t fun x => { x with book := some b }).answered p .stockAdjust tag .ok
            (.book b)).evaluateTank t).startStore))
    ∧ exec (.reconcile p tag) s =
      .next (((s.idleAssembler p).reconcileAll .request).reply p .reconcile tag .ok
        (.reconciled [s.finding 0, s.finding 1, s.finding 2, s.finding 3])).startStore
    ∧ ((s.finding t).tank = t ∧ (s.finding t).gauged = k.gauge.net
      ∧ (s.finding t).flags =
        { substituted := k.gauge.substituted, overGauge := k.gauge.overGauge, clamped := k.gauge.clamped })
    ∧ ∀ o : Occasion,
      s.reconcileAll o =
        (((s.reconcileTank o 0).reconcileTank o 1).reconcileTank o 2).reconcileTank o 3
      ∧ (cfg.enabled = false → (s.finding t).outcome = .notEnabled ∧ s.reconcileTank o t = s)
      ∧ (cfg.enabled = true →
        let found : State := s.postOffice (.stockVariance (s.finding t) o)
        (k.receipt.isSome = true →
          (s.finding t).outcome = .skipped ∧ (s.finding t).cause = some .receipt ∧ s.reconcileTank o t = found)
        ∧ (k.receipt = none → k.gauge.net = none →
          (s.finding t).outcome = .skipped ∧ (s.finding t).cause = some .gauge ∧ s.reconcileTank o t = found)
        ∧ (∀ g, k.receipt = none → k.gauge.net = some g → k.book = none →
          (s.finding t).outcome = .setFromGauge ∧ (s.finding t).book = some (g : Int)
          ∧ s.reconcileTank o t = (found.modTank t fun x => { x with book := some (g : Int) }).evaluateTank t)
        ∧ (∀ g b, k.receipt = none → k.gauge.net = some g → k.book = some b →
          ((cfg.tolerance : Int) < |(g : Int) - b| →
            (s.finding t).outcome = .variance ∧ (s.finding t).variance = (g : Int) - b
            ∧ (s.finding t).book = some b ∧ s.reconcileTank o t = found)
          ∧ (|(g : Int) - b| ≤ (cfg.tolerance : Int) →
            (s.finding t).outcome = .within ∧ s.reconcileTank o t = s)))

/-! ### The configuration and the store (sections 1.4, 11.2) -/

/-- R36, R44, R48, R55, R60, R61, R79, R107, R108, R166, R182, R183: what a CONFIG_SET makes of the working copy, group by
group: a field named takes the value of its figure, every other field and every other group is kept, and there is no such
copy, so the request is refused BAD_FIELD, exactly when a figure named is outside its range, the epoch is named, or a
tank of which something is named breaks R55 or R61. The figures of roles and policies are numbered as the model reads R189
(log 27); which characters are printable and that a span's ends may be equal are the model's choices (logs 43 and 37). -/
def Obligations.ConfigurationChangesItsGroup : Prop :=
  ∀ c c' : Configuration,
    (∀ q, applyChange (.ports q) c = some c' ↔ ∃ x : Tab PortConfig 4, c' = { c with ports := x } ∧ ∀ i,
      Replaced (c.ports.read i).role (q.read i).role (fun v r => v = 0 ∧ r = .island ∨ v = 1 ∧ r = .fleet
        ∨ v = 2 ∧ r = .workshop ∨ v = 3 ∧ r = .monitor) (x.read i).role
      ∧ Replaced (c.ports.read i).baud (q.read i).baud (fun v b => v ∈ [19200, 38400, 57600, 115200] ∧ b = v)
        (x.read i).baud)
    ∧ (∀ q, applyChange (.nozzles q) c = some c' ↔ ∃ x : Tab NozzleConfig 8, c' = { c with nozzles := x } ∧ ∀ i,
      Replaced (c.nozzles.read i).owner (q.read i).owner (fun v p => p.val = v) (x.read i).owner
      ∧ Replaced (c.nozzles.read i).tank (q.read i).tank (fun v k => k.val + 1 = v) (x.read i).tank
      ∧ Replaced (c.nozzles.read i).channel (q.read i).channel (fun v k => k.val = v) (x.read i).channel
      ∧ Replaced (c.nozzles.read i).km (q.read i).km (figureIn 1000 999999) (x.read i).km
      ∧ Replaced (c.nozzles.read i).enabled (q.read i).enabled flagFigure (x.read i).enabled)
    ∧ (∀ q, applyChange (.delivery q) c = some c' ↔ ∃ x : DeliverySettings, c' = { c with delivery := x }
      ∧ Replaced c.delivery.prestop q.prestop (figureIn 0 20000) x.prestop
      ∧ Replaced c.delivery.stall q.stall (figureIn 10 1200) x.stall
      ∧ Replaced c.delivery.drainSettle q.drainSettle (figureIn 1 40) x.drainSettle
      ∧ Replaced c.delivery.hold q.hold (figureIn 60 7200) x.hold
      ∧ Replaced c.delivery.park q.park (figureIn 120 28800) x.park
      ∧ Replaced c.delivery.strayLimit q.strayLimit (figureIn 1 255) x.strayLimit
      ∧ Replaced c.delivery.creepWindow q.creepWindow (figureIn 2 20) x.creepWindow
      ∧ Replaced c.delivery.creepLimit q.creepLimit (figureIn 0 50) x.creepLimit)
    ∧ (∀ q, applyChange (.products q) c = some c' ↔ ∃ x : Tab ProductConfig 4, c' = { c with products := x } ∧ ∀ i,
      Replaced (c.products.read i).alpha (q.read i).alpha (figureIn 0 2000) (x.read i).alpha
      ∧ Replaced (c.products.read i).defaultTemp (q.read i).defaultTemp (fun v y => -400 ≤ v ∧ v ≤ 850 ∧ y = v)
        (x.read i).defaultTemp)
    ∧ (∀ q, applyChange (.classes q) c = some c' ↔ ∃ x : Tab ClassConfig 8, c' = { c with classes := x } ∧ ∀ i,
      Replaced (c.classes.read i).name (q.read i).name
        (fun v y => (∀ j, 0x20 ≤ (v.read j).toNat ∧ (v.read j).toNat ≤ 0x7E) ∧ y = v) (x.read i).name
      ∧ Replaced (c.classes.read i).essential (q.read i).essential flagFigure (x.read i).essential
      ∧ Replaced (c.classes.read i).grantEligible (q.read i).grantEligible flagFigure (x.read i).grantEligible
      ∧ Replaced (c.classes.read i).ration (q.read i).ration (figureIn 0 2500000) (x.read i).ration
      ∧ Replaced (c.classes.read i).defaultAllowance (q.read i).defaultAllowance (figureIn 0 2500000)
        (x.read i).defaultAllowance)
    ∧ (∀ q, applyChange (.authorisation q) c = some c' ↔ ∃ x : AuthSettings, c' = { c with authorisation := x }
      ∧ Replaced c.authorisation.tier1 q.tier1 (figureIn 10 100) x.tier1
      ∧ Replaced c.authorisation.tier2 q.tier2 (figureIn 10 100) x.tier2
      ∧ Replaced c.authorisation.minIssue q.minIssue (figureIn 0 100000) x.minIssue
      ∧ Replaced c.authorisation.grantsEnabled q.grantsEnabled flagFigure x.grantsEnabled
      ∧ Replaced c.authorisation.grantTimer q.grantTimer (figureIn 4 1200) x.grantTimer
      ∧ Replaced c.authorisation.policy q.policy (fun v y => v = 0 ∧ y = .partialIssue ∨ v = 1 ∧ y = .refuse) x.policy)
    ∧ (∀ q, applyChange (.tanks q) c = some c' ↔ ∃ x : Tab TankConfig 4, c' = { c with tanks := x } ∧ ∀ i,
      let old := c.tanks.read i
      let new := x.read i
      let named := q.read i
      Replaced old.product named.product (fun v k => k.val + 1 = v) new.product
      ∧ Replaced old.enabled named.enabled flagFigure new.enabled
      ∧ Replaced old.capacity named.capacity (figureIn 1 1000000000) new.capacity
      ∧ Replaced old.strapping named.strapping (fun v l => 2 ≤ v.length ∧ v.length ≤ 24
          ∧ (∀ y ∈ v, y.level ≤ 20000 ∧ y.litres ≤ 10000000)
          ∧ v.Pairwise (fun a b => a.level < b.level ∧ a.litres < b.litres) ∧ l = v) new.strapping
      ∧ Replaced old.floor named.floor (figureIn 0 1000000000) new.floor
      ∧ Replaced old.tier1 named.tier1 (figureIn 0 4294967295) new.tier1
      ∧ Replaced old.tier2 named.tier2 (figureIn 0 4294967295) new.tier2
      ∧ Replaced old.reserve named.reserve (figureIn 0 4294967295) new.reserve
      ∧ Replaced old.hysteresis named.hysteresis (figureIn 0 100000000) new.hysteresis
      ∧ Replaced old.tolerance named.tolerance (figureIn 0 100000000) new.tolerance
      ∧ Replaced old.startDelay named.startDelay (figureIn 1 60) new.startDelay
      ∧ Replaced old.runOn named.runOn (figureIn 0 2400) new.runOn
      ∧ (named ≠ { product := none, enabled := none, capacity := none, strapping := none, floor := none, tier1 := none,
                   tier2 := none, reserve := none, hysteresis := none, tolerance := none, startDelay := none,
                   runOn := none } →
        new.tier1 ≤ new.capacity ∧ new.tier2 < new.tier1 ∧ new.reserve < new.tier2 ∧ new.floor < new.reserve))
    ∧ (∀ q, applyChange (.probes q) c = some c' ↔ ∃ x : ProbeConfig, c' = { c with probes := x }
      ∧ Replaced c.probes.divisor q.divisor (figureIn 1 60) x.divisor
      ∧ Replaced c.probes.holdLimit q.holdLimit (figureIn 1 100) x.holdLimit
      ∧ ∀ i : ChannelId,
        let within (v y : Int) : Prop :=
          (if 8 ≤ i.val ∧ i.val ≤ 11 then 0 ≤ v ∧ v ≤ 20000 else -400 ≤ v ∧ v ≤ 850) ∧ y = v
        Replaced (c.probes.spans.read i).low (q.spans.read i).low within (x.spans.read i).low
        ∧ Replaced (c.probes.spans.read i).high (q.spans.read i).high within (x.spans.read i).high
        ∧ (x.spans.read i).low ≤ (x.spans.read i).high)
    ∧ (∀ q, applyChange (.service q) c = some c' ↔ ∃ x : ServiceConfig, c' = { c with service := x }
      ∧ Replaced c.service.hourTolerance q.hourTolerance (figureIn 0 100) x.hourTolerance
      ∧ Replaced c.service.journalThreshold q.journalThreshold (figureIn 1 255) x.journalThreshold)
    ∧ (∀ q, applyChange (.time q) c = some c' ↔ ∃ x : TimeConfig, c' = { c with time := x }
      ∧ Replaced c.time.shiftLength q.shiftLength (figureIn 14400 172800) x.shiftLength
      ∧ q.epoch = none ∧ x.epoch = c.time.epoch)

/-- R16, R32, R36, R39, R61, R180, R183, R184: CONFIG_SET, CONFIG_READ, STORE_RETRY and INITIALISE, from a WORKSHOP
port. An accepted CONFIG_SET is in force at once, its CONFIG_WRITE is queued and the request waits for it; while the
store interface is FAULTED it is answered STORE_FAULT and the write waits. What it does at once is written out for each
group: the baud of a port with nothing to send, the proven flag of a nozzle whose K_m is written, the tanks disabled or
re-evaluated, the channels UNSETTLED (told in channel order, log 42), a rollover due under the new shift length; the
other groups are read where they are used. Several tanks are dealt with in the order T1 to T4 (the model's choice, log
47). Its refusals are tested in the model's order (log 45). That a field 'changes' when its new value differs, and is
'written' when it is named, is the model's reading (log 16), and so is that a longer shift withdraws a rollover due (log
7). That a STORE_FAULT goes at a baud rate changed in the same event is its choice (log 32). How its fields and the
response of CONFIG_READ are laid out the spec leaves open (log 8). What a change makes of its group is said in
`ConfigurationChangesItsGroup`. -/
def Obligations.ConfigurationAndStoreRequests : Prop :=
  ∀ (p : Port) (tag : Byte) (s : State), s.Accepts p → s.role p = .workshop →
    (∀ g, applyChange g s.config = none → exec (.configSet p tag g) s =
      .next (s.answered p .configSet tag .badField .nothing).startStore)
    ∧ (∀ g c, applyChange g s.config = some c →
      (s.configBusy c = true → exec (.configSet p tag g) s =
        .next (s.answered p .configSet tag .nozzleBusy .nothing).startStore)
      ∧ (s.configBusy c = false → s.configReceipt c = true → exec (.configSet p tag g) s =
        .next (s.answered p .configSet tag .receiptOpen .nothing).startStore)
      ∧ (s.configBusy c = true ↔
        (∃ n, c.nozzles.read n ≠ s.config.nozzles.read n ∧ (s.ctx n).state ≠ .free)
        ∨ ∃ t, ((c.tanks.read t).product ≠ (s.config.tanks.read t).product
            ∨ (c.tanks.read t).enabled ≠ (s.config.tanks.read t).enabled)
          ∧ ((∃ n, (s.ctx n).state ∉ [.free, .loaded] ∧ (s.delivery n).tank = t)
            ∨ ∃ k x, s.slot k = .holding x ∧ x.delivery.tank = t))
      ∧ (s.configReceipt c = true ↔
        ∃ t, ((c.tanks.read t).product ≠ (s.config.tanks.read t).product
            ∨ (c.tanks.read t).enabled ≠ (s.config.tanks.read t).enabled
            ∨ (c.tanks.read t).strapping ≠ (s.config.tanks.read t).strapping)
          ∧ (s.tank t).receipt.isSome = true)
      ∧ (s.configBusy c = false → s.configReceipt c = false →
        let queue := if .configWrite ∈ s.table.queue then s.table.queue else s.table.queue ++ [.configWrite]
        let base : State := { s.idleAssembler p with config := c }
        let takes (y : State) : Prop :=
          (s.table.faulted = false → exec (.configSet p tag g) s =
            .next ({ y.modPort p (fun x => { x with inHand := some { tag := tag, request := .configSet false } }) with
              table := { s.table with queue := queue } } : State).startStore)
          ∧ (s.table.faulted = true → exec (.configSet p tag g) s =
            .next ({ y.modPort p (fun x => { x with line := [answerTo .configSet tag .storeFault .nothing] }) with
              table := { s.table with queue := queue } } : State).startStore)
        ((∃ q, g = .delivery q) ∨ (∃ q, g = .products q) ∨ (∃ q, g = .classes q) ∨ (∃ q, g = .authorisation q)
          ∨ (∃ q, g = .service q) → takes base)
        ∧ (∀ q, g = .ports q → takes { base with ports := Tab.mapWith (fun k x =>
          if x.line = [] then { x with baud := (c.ports.read k).baud } else x) base.ports })
        ∧ (∀ q, g = .nozzles q → takes { base with meters := Tab.mapWith (fun n m =>
          if (q.read n).km.isSome then { m with proven := false } else m) s.meters })
        ∧ (∀ q, g = .tanks q →
          let written (y : State) (t : TankId) : State :=
            let a := s.config.tanks.read t
            let b := c.tanks.read t
            if a.enabled = true ∧ b.enabled = false then
              y.modTank t fun x => { x with
                gauge := { net := none, substituted := false, overGauge := false, clamped := false },
                pump := { state := .stopped, timer := none } }
            else if b.enabled = true ∧ (a.enabled = false ∨ a.tier1 ≠ b.tier1 ∨ a.tier2 ≠ b.tier2
                ∨ a.reserve ≠ b.reserve ∨ a.floor ≠ b.floor ∨ a.hysteresis ≠ b.hysteresis) then y.evaluateTank t
            else y
          takes (written (written (written (written base 0) 1) 2) 3))
        ∧ (∀ q, g = .probes q →
          let spanSet (i : ChannelId) : Bool := (q.spans.read i).low.isSome || (q.spans.read i).high.isSome
          let again (i : ChannelId) : Bool := spanSet i || q.divisor.isSome
          takes (((List.finRange 16).filter fun i =>
              again i && decide ((s.scanner.channels.read i).state = .failed)).foldl
            (fun y i => y.postRole .workshop (.probeState i .unsettled none))
            { base with scanner := { s.scanner with
              timer := q.divisor.getD s.scanner.timer,
              channels := Tab.mapWith (fun i x => if again i then
                { state := .unsettled, value := if spanSet i then none else x.value, hold := 0, settle := 0 }
                else x) s.scanner.channels } }))
        ∧ (∀ q, g = .time q → takes { base with clock := { s.clock with
          rolloverDue := s.clock.rolloverDue && decide (c.time.shiftLength ≤ s.clock.ticks) } })))
    ∧ (∀ k, k ≤ 9 → exec (.configRead p tag k) s =
      .next (s.answered p .configRead tag .ok (.configGroup k s.config s.config.time.epoch
        (decide (.configWrite ∈ s.table.queue)
          || (s.table.inFlight.map fun x => decide (x.op = .configWrite)).getD false))).startStore)
    ∧ (s.table.faulted = true → exec (.storeRetry p tag) s =
      .next (((({ s.idleAssembler p with table := { s.table with faulted := false, failures := 0 } } :
        State).postAll (.storeState false)).reply p .storeRetry tag .ok .nothing).startStore))
    ∧ (s.table.faulted = false → exec (.storeRetry p tag) s =
      .next (s.answered p .storeRetry tag .ok .nothing).startStore)
    ∧ exec (.initialise p tag) s = .next (s.answered p .initialise tag .ok .nothing).startStore

/-- R9, R13, R14, R25, R183: the ends of a FETCH, a WRITE, an ERASE and a CONFIG_WRITE in flight, succeeded or failed
short of the third failure running. A record that a FETCH brings loses an open ticket that no delivery past IDENT and no
parked one holds, and is given to the line's waiters in their order; then the line wait list is served, as
`RecordRequestsWaitForTheirRecord` says of both. A first failure keeps the waiters; when the retry fails the entry is
DAMAGED if the record failed its check, the line is EMPTY, and the waiters are refused in their order, but for a
REBUILD, which is tested and carried out as it would be then (its turn among them and before the line wait list is the
model's choice, log 29). An IDENT step that waited is tested by R88: the delivery finishes refused, or the machine is
identified and the list goes on. -/
def Obligations.StoreOperationsEnd : Prop :=
  ∀ (op : StoreOp) (data : StoreData) (s : State), s.Up →
    s.table.inFlight = some { op := op, data := data, discarded := false } →
    let ended (failures : Nat) (t : MachineTable) : State :=
      { s with table := { t with failures := failures, inFlight := none } }
    let bad := s.table.failures + 1
    (∀ l slot retry f k, op = .fetch l slot retry → (s.line l).content = .fetching f k →
      let ws := (s.line l).waiters
      (∀ r, r.fleet = f →
        let held (t : Nat) : Prop :=
          (∃ n, (s.ctx n).state ∉ [.free, .loaded, .fetching] ∧ (s.delivery n).ticket = t ∧ (s.delivery n).fleet = f)
          ∨ ∃ j x, s.slot j = .holding x ∧ x.delivery.ticket = t ∧ x.delivery.fleet = f
        let fresh : MachineRecord :=
          { r with used := if r.usageShift = s.clock.shift then r.used else 0, usageShift := s.clock.shift,
                   openTicket := none }
        let queued := (s.line l).writeQueued
        let filled (st : HeldState) (x : MachineRecord) (again : Bool) (queue : List StoreOp) : State :=
          ended 0 { s.table with
            lines := s.table.lines.write l { s.line l with content := .held st slot x, writeQueued := again,
                                                           waiters := [] },
            useOrder := l :: s.table.useOrder.filter (fun x => !decide (x = l)), queue := queue }
        let gives (y : State) : Prop := exec (.fetchComplete (.record r)) s =
          .next (ws.foldl (State.dealWith f) y).lineFreed.startStore
        ((∀ t, r.openTicket = some t → held t) → gives (filled .clean r queued s.table.queue))
        ∧ (∀ t, r.openTicket = some t → ¬ held t →
          gives (filled .dirty fresh true (if queued then s.table.queue else s.table.queue ++ [.write l slot]))))
      ∧ (∀ res, (res = .failed ∨ res = .badCheck ∨ ∃ r, res = .record r ∧ r.fleet ≠ f) → bad < 3 →
        (retry = false → exec (.fetchComplete res) s =
          .next (ended bad { s.table with queue := .fetch l slot true :: s.table.queue }).startStore)
        ∧ (retry = true →
          let empty : State := ended bad { s.table with
            lines := s.table.lines.write l { content := .empty, pinned := false, writeQueued := false, waiters := [] },
            index := if res = .failed then s.table.index
              else s.table.index.map fun e => if e.fleet = f then { e with damaged := true } else e }
          let refused (y : State) (who : Requester) : State := match who with
            | .ident n => y.finishRefused n (if res = .failed then .storeFault else .recordDamaged)
            | .port p => match (y.port p).inHand with
              | none => y
              | some { tag := tag, request := request } => match request with
                | .rebuild q => y.tryRebuild p q
                | q => y.modPort p fun x => { x with
                    inHand := none,
                    line := x.line ++ [answerTo q.code tag (if res = .failed then .storeFault else .recordDamaged)
                      .nothing] }
          exec (.fetchComplete res) s = .next (ws.foldl refused empty).lineFreed.startStore)))
    ∧ (∀ l slot retry f k r n d t v, op = .fetch l slot retry → (s.line l).content = .fetching f k →
        (s.line l).waiters = [.ident n] → s.lineFor f = some l →
        (s.enrolled f).map (fun e => e.damaged) = some false → r.fleet = f → r.openTicket = none →
        (s.ctx n).delivery = some d → (s.ctx n).steps[(s.ctx n).pointer]? = some (.ident f t v) →
      let got : State := ended 0 { s.table with
        lines := s.table.lines.write l { s.line l with content := .held .clean slot r, waiters := [] },
        useOrder := l :: s.table.useOrder.filter (fun x => !decide (x = l)) }
      let tests := identTests (s.config.tanks.read (s.config.nozzles.read n).tank).product t v r
      (∀ why, tests = some why →
        exec (.fetchComplete (.record r)) s = .next (got.finishRefused n why).lineFreed.startStore)
      ∧ (tests = none →
        exec (.fetchComplete (.record r)) s = .next ((got.afterIdent n d v l slot r).runRest n).lineFreed.startStore))
    ∧ (∀ l slot st k r, op = .write l slot → (s.line l).content = .held st k r →
      exec (.writeComplete true) s =
        .next (ended 0 { s.table with lines := s.table.lines.write l { s.line l with
          content := .held (if (s.line l).writeQueued then .dirty else .clean) k r } }).lineFreed.startStore
      ∧ (bad < 3 → exec (.writeComplete false) s =
        .next (ended bad { s.table with
          lines := s.table.lines.write l { s.line l with content := .held .dirty k r, writeQueued := true },
          queue := if (s.line l).writeQueued then s.table.queue else s.table.queue ++ [.write l slot] }).startStore))
    ∧ (∀ slot asker, op = .erase slot asker →
      let gone : State := ended 0 { s.table with
        slots := s.table.slots.write slot .free,
        index := s.table.index.filter (fun e => !decide (e.slot = slot)) }
      (asker = none → exec (.eraseComplete true) s = .next gone.startStore)
      ∧ (∀ p tag f, asker = some p → (s.port p).inHand = some { tag := tag, request := .withdraw f } →
        exec (.eraseComplete true) s = .next (gone.modPort p fun x =>
          { x with inHand := none, line := x.line ++ [answerTo .withdraw tag .ok .nothing] }).startStore)
      ∧ (∀ p, asker = some p → bad < 3 → exec (.eraseComplete false) s =
        .next (ended bad { s.table with queue := s.table.queue ++ [.erase slot (some p)] }).startStore)
      ∧ (asker = none → bad < 3 → exec (.eraseComplete false) s =
        .next (ended bad { s.table with slots := s.table.slots.write slot .used }).startStore))
    ∧ (op = .configWrite →
      (∃ t, exec (.configWriteComplete true) s = .next (State.startStore t)
        ∧ (∀ p, t.port p = match (s.port p).inHand with
          | some { tag := tag, request := .configSet true } =>
            { s.port p with inHand := none, line := (s.port p).line ++ [answerTo .configSet tag .ok .nothing] }
          | _ => s.port p)
        ∧ { t with ports := s.ports } = ended 0 s.table)
      ∧ (bad < 3 → exec (.configWriteComplete false) s =
        .next (ended bad { s.table with
          queue := if .configWrite ∈ s.table.queue then s.table.queue else s.table.queue ++ [.configWrite] }).startStore))

/-- R14, R15: the third failure running, of a FETCH, first or retried, a WRITE, an ERASE or a CONFIG_WRITE, with
whatever is queued and waiting. The failed FETCH's line is EMPTY and its waiters refused, its entry DAMAGED when a retry
failed its check; a failed WRITE or CONFIG_WRITE is queued again; a failed ERASE is given up as the queued ones are. The
interface is FAULTED: the FETCHes queued are removed, their lines EMPTY, their waiters refused with STORE_FAULT, and so
are the requesters on the line wait list; each ERASE is removed, its slot USED again and its WITHDRAW answered; WRITE
and CONFIG_WRITE stay queued and do not start; each CONFIG_SET in hand is answered STORE_FAULT (R183); STORE_STATE is
told to every port, after the notices of the refusals (the model's reading, log 13). The order of the refusals is the
model's choice (log 42). -/
def Obligations.ThirdFailureFaultsInterface : Prop :=
  ∀ (op : StoreOp) (data : StoreData) (s : State), s.Up → s.table.failures = 2 →
    s.table.inFlight = some { op := op, data := data, discarded := false } →
    let ended (t : MachineTable) : State := { s with table := { t with failures := 3, inFlight := none } }
    let emptied (v : Tab CacheLine 16) (l : LineId) : Tab CacheLine 16 :=
      v.write l { content := .empty, pinned := false, writeQueued := false, waiters := [] }
    let answered (y : State) (p : Port) : State := match (y.port p).inHand with
      | none => y
      | some h => y.modPort p fun x =>
          { x with inHand := none, line := x.line ++ [answerTo h.request.code h.tag .storeFault .nothing] }
    let refused (y : State) (who : Requester) : State := match who with
      | .port p => answered y p
      | .ident n => y.finishRefused n .storeFault
    let dropped (y : State) (x : StoreOp) : State := match x with
      | .erase slot asker =>
        let z : State := { y with table := { y.table with slots := y.table.slots.write slot .used } }
        match asker with
        | some p => answered z p
        | none => z
      | _ => y
    let configRefused (y : State) (p : Port) : State := match (y.port p).inHand with
      | some { tag := _, request := .configSet _ } => answered y p
      | _ => y
    let faults (y : State) : State :=
      let queue := y.table.queue
      let lines := queue.filterMap fun x => match x with
        | .fetch l _ _ => some l
        | _ => none
      let waiters := lines.flatMap (fun l => (y.line l).waiters) ++ y.table.lineWait.flatMap (fun x => x.2)
      let stopped : State := { y with table := { y.table with
        faulted := true, lineWait := [], lines := lines.foldl emptied y.table.lines,
        queue := queue.filter fun x => match x with
          | .write _ _ => true
          | .configWrite => true
          | _ => false } }
      let told := queue.foldl dropped (waiters.foldl refused stopped)
      ([0, 1, 2, 3].foldl configRefused told).postAll (.storeState true)
    (∀ l slot retry f k res, op = .fetch l slot retry → (s.line l).content = .fetching f k →
        (res = .failed ∨ res = .badCheck ∨ ∃ r, res = .record r ∧ r.fleet ≠ f) →
      exec (.fetchComplete res) s = .next (faults ((s.line l).waiters.foldl refused (ended { s.table with
        lines := emptied s.table.lines l,
        index := if retry = true ∧ res ≠ .failed then
            s.table.index.map fun e => if e.fleet = f then { e with damaged := true } else e
          else s.table.index }))))
    ∧ (∀ l slot st k r, op = .write l slot → (s.line l).content = .held st k r →
      exec (.writeComplete false) s = .next (faults (ended { s.table with
        lines := s.table.lines.write l { s.line l with content := .held .dirty k r, writeQueued := true },
        queue := if (s.line l).writeQueued then s.table.queue else s.table.queue ++ [.write l slot] })))
    ∧ (∀ slot asker, op = .erase slot asker →
      exec (.eraseComplete false) s = .next (faults (dropped (ended s.table) (.erase slot asker))))
    ∧ (op = .configWrite → exec (.configWriteComplete false) s = .next (faults (ended { s.table with
      queue := if .configWrite ∈ s.table.queue then s.table.queue else s.table.queue ++ [.configWrite] })))
end

