-- ==== Sys2Proof/Laws/State.lean ====
section
/-! SUPPORT. Laws/State.lean: what each update of the state leaves of each field, and what a part reads after an update of
it. Each holds by computation, so that no later proof unfolds a record update. -/

namespace Sys2Proof.Machine

variable (s : State)

/-! #### `modPort` -/

@[simp] theorem State.modPort_pending (p : Port) (f : PortState → PortState) : (s.modPort p f).pending = s.pending := rfl
@[simp] theorem State.modPort_power (p : Port) (f : PortState → PortState) : (s.modPort p f).power = s.power := rfl
@[simp] theorem State.modPort_startUp (p : Port) (f : PortState → PortState) : (s.modPort p f).startUp = s.startUp := rfl
@[simp] theorem State.modPort_clock (p : Port) (f : PortState → PortState) : (s.modPort p f).clock = s.clock := rfl
@[simp] theorem State.modPort_config (p : Port) (f : PortState → PortState) : (s.modPort p f).config = s.config := rfl
@[simp] theorem State.modPort_table (p : Port) (f : PortState → PortState) : (s.modPort p f).table = s.table := rfl
@[simp] theorem State.modPort_meters (p : Port) (f : PortState → PortState) : (s.modPort p f).meters = s.meters := rfl
@[simp] theorem State.modPort_scanner (p : Port) (f : PortState → PortState) : (s.modPort p f).scanner = s.scanner := rfl
@[simp] theorem State.modPort_tanks (p : Port) (f : PortState → PortState) : (s.modPort p f).tanks = s.tanks := rfl
@[simp] theorem State.modPort_nozzles (p : Port) (f : PortState → PortState) : (s.modPort p f).nozzles = s.nozzles := rfl
@[simp] theorem State.modPort_ticketCounter (p : Port) (f : PortState → PortState) : (s.modPort p f).ticketCounter = s.ticketCounter := rfl
@[simp] theorem State.modPort_expired (p : Port) (f : PortState → PortState) : (s.modPort p f).expired = s.expired := rfl
@[simp] theorem State.modPort_park (p : Port) (f : PortState → PortState) : (s.modPort p f).park = s.park := rfl
@[simp] theorem State.modPort_journal (p : Port) (f : PortState → PortState) : (s.modPort p f).journal = s.journal := rfl
@[simp] theorem State.modPort_freeIndex (p : Port) (f : PortState → PortState) : (s.modPort p f).freeIndex = s.freeIndex := rfl
@[simp] theorem State.ctx_modPort (p : Port) (f : PortState → PortState) (m : NozzleId) : (s.modPort p f).ctx m = s.ctx m := rfl
@[simp] theorem State.delivery_modPort (p : Port) (f : PortState → PortState) (m : NozzleId) : (s.modPort p f).delivery m = s.delivery m := rfl
@[simp] theorem State.meter_modPort (p : Port) (f : PortState → PortState) (m : NozzleId) : (s.modPort p f).meter m = s.meter m := rfl
@[simp] theorem State.tank_modPort (p : Port) (f : PortState → PortState) (t : TankId) : (s.modPort p f).tank t = s.tank t := rfl
@[simp] theorem State.line_modPort (p : Port) (f : PortState → PortState) (j : LineId) : (s.modPort p f).line j = s.line j := rfl
@[simp] theorem State.slot_modPort (p : Port) (f : PortState → PortState) (j : ParkId) : (s.modPort p f).slot j = s.slot j := rfl
@[simp] theorem State.channel_modPort (p : Port) (f : PortState → PortState) (c : ChannelId) : (s.modPort p f).channel c = s.channel c := rfl
@[simp] theorem State.nozzleConfig_modPort (p : Port) (f : PortState → PortState) (m : NozzleId) : (s.modPort p f).nozzleConfig m = s.nozzleConfig m := rfl
@[simp] theorem State.tankConfig_modPort (p : Port) (f : PortState → PortState) (t : TankId) : (s.modPort p f).tankConfig t = s.tankConfig t := rfl
@[simp] theorem State.productConfig_modPort (p : Port) (f : PortState → PortState) (i : ProductId) : (s.modPort p f).productConfig i = s.productConfig i := rfl
@[simp] theorem State.classConfig_modPort (p : Port) (f : PortState → PortState) (i : ClassId) : (s.modPort p f).classConfig i = s.classConfig i := rfl
@[simp] theorem State.role_modPort (p : Port) (f : PortState → PortState) (q : Port) : (s.modPort p f).role q = s.role q := rfl
@[simp] theorem State.owner_modPort (p : Port) (f : PortState → PortState) (m : NozzleId) : (s.modPort p f).owner m = s.owner m := rfl
@[simp] theorem State.running_modPort (p : Port) (f : PortState → PortState) : (s.modPort p f).running = s.running := rfl
@[simp] theorem State.ready_modPort (p : Port) (f : PortState → PortState) : (s.modPort p f).ready = s.ready := rfl
@[simp] theorem State.heard_modPort (p : Port) (f : PortState → PortState) : (s.modPort p f).heard = s.heard := rfl
@[simp] theorem State.entry_modPort (p : Port) (f : PortState → PortState) (i : Nat) : (s.modPort p f).entry i = s.entry i := rfl
@[simp] theorem State.enrolled_modPort (p : Port) (f : PortState → PortState) (i : Nat) : (s.modPort p f).enrolled i = s.enrolled i := rfl
@[simp] theorem State.slotState_modPort (p : Port) (f : PortState → PortState) (i : SlotId) : (s.modPort p f).slotState i = s.slotState i := rfl
@[simp] theorem State.lineFor_modPort (p : Port) (f : PortState → PortState) (i : Nat) : (s.modPort p f).lineFor i = s.lineFor i := rfl
@[simp] theorem State.recordAt_modPort (p : Port) (f : PortState → PortState) (j : LineId) : (s.modPort p f).recordAt j = s.recordAt j := rfl
@[simp] theorem State.cached_modPort (p : Port) (f : PortState → PortState) (i : Nat) : (s.modPort p f).cached i = s.cached i := rfl

/-! #### `modCtx` -/

@[simp] theorem State.modCtx_pending (n : NozzleId) (f : Context → Context) : (s.modCtx n f).pending = s.pending := rfl
@[simp] theorem State.modCtx_power (n : NozzleId) (f : Context → Context) : (s.modCtx n f).power = s.power := rfl
@[simp] theorem State.modCtx_startUp (n : NozzleId) (f : Context → Context) : (s.modCtx n f).startUp = s.startUp := rfl
@[simp] theorem State.modCtx_clock (n : NozzleId) (f : Context → Context) : (s.modCtx n f).clock = s.clock := rfl
@[simp] theorem State.modCtx_config (n : NozzleId) (f : Context → Context) : (s.modCtx n f).config = s.config := rfl
@[simp] theorem State.modCtx_table (n : NozzleId) (f : Context → Context) : (s.modCtx n f).table = s.table := rfl
@[simp] theorem State.modCtx_meters (n : NozzleId) (f : Context → Context) : (s.modCtx n f).meters = s.meters := rfl
@[simp] theorem State.modCtx_scanner (n : NozzleId) (f : Context → Context) : (s.modCtx n f).scanner = s.scanner := rfl
@[simp] theorem State.modCtx_tanks (n : NozzleId) (f : Context → Context) : (s.modCtx n f).tanks = s.tanks := rfl
@[simp] theorem State.modCtx_ticketCounter (n : NozzleId) (f : Context → Context) : (s.modCtx n f).ticketCounter = s.ticketCounter := rfl
@[simp] theorem State.modCtx_expired (n : NozzleId) (f : Context → Context) : (s.modCtx n f).expired = s.expired := rfl
@[simp] theorem State.modCtx_park (n : NozzleId) (f : Context → Context) : (s.modCtx n f).park = s.park := rfl
@[simp] theorem State.modCtx_journal (n : NozzleId) (f : Context → Context) : (s.modCtx n f).journal = s.journal := rfl
@[simp] theorem State.modCtx_ports (n : NozzleId) (f : Context → Context) : (s.modCtx n f).ports = s.ports := rfl
@[simp] theorem State.modCtx_freeIndex (n : NozzleId) (f : Context → Context) : (s.modCtx n f).freeIndex = s.freeIndex := rfl
@[simp] theorem State.port_modCtx (n : NozzleId) (f : Context → Context) (q : Port) : (s.modCtx n f).port q = s.port q := rfl
@[simp] theorem State.meter_modCtx (n : NozzleId) (f : Context → Context) (m : NozzleId) : (s.modCtx n f).meter m = s.meter m := rfl
@[simp] theorem State.tank_modCtx (n : NozzleId) (f : Context → Context) (t : TankId) : (s.modCtx n f).tank t = s.tank t := rfl
@[simp] theorem State.line_modCtx (n : NozzleId) (f : Context → Context) (j : LineId) : (s.modCtx n f).line j = s.line j := rfl
@[simp] theorem State.slot_modCtx (n : NozzleId) (f : Context → Context) (j : ParkId) : (s.modCtx n f).slot j = s.slot j := rfl
@[simp] theorem State.channel_modCtx (n : NozzleId) (f : Context → Context) (c : ChannelId) : (s.modCtx n f).channel c = s.channel c := rfl
@[simp] theorem State.nozzleConfig_modCtx (n : NozzleId) (f : Context → Context) (m : NozzleId) : (s.modCtx n f).nozzleConfig m = s.nozzleConfig m := rfl
@[simp] theorem State.tankConfig_modCtx (n : NozzleId) (f : Context → Context) (t : TankId) : (s.modCtx n f).tankConfig t = s.tankConfig t := rfl
@[simp] theorem State.productConfig_modCtx (n : NozzleId) (f : Context → Context) (i : ProductId) : (s.modCtx n f).productConfig i = s.productConfig i := rfl
@[simp] theorem State.classConfig_modCtx (n : NozzleId) (f : Context → Context) (i : ClassId) : (s.modCtx n f).classConfig i = s.classConfig i := rfl
@[simp] theorem State.role_modCtx (n : NozzleId) (f : Context → Context) (q : Port) : (s.modCtx n f).role q = s.role q := rfl
@[simp] theorem State.owner_modCtx (n : NozzleId) (f : Context → Context) (m : NozzleId) : (s.modCtx n f).owner m = s.owner m := rfl
@[simp] theorem State.running_modCtx (n : NozzleId) (f : Context → Context) : (s.modCtx n f).running = s.running := rfl
@[simp] theorem State.ready_modCtx (n : NozzleId) (f : Context → Context) : (s.modCtx n f).ready = s.ready := rfl
@[simp] theorem State.heard_modCtx (n : NozzleId) (f : Context → Context) : (s.modCtx n f).heard = s.heard := rfl
@[simp] theorem State.entry_modCtx (n : NozzleId) (f : Context → Context) (i : Nat) : (s.modCtx n f).entry i = s.entry i := rfl
@[simp] theorem State.enrolled_modCtx (n : NozzleId) (f : Context → Context) (i : Nat) : (s.modCtx n f).enrolled i = s.enrolled i := rfl
@[simp] theorem State.slotState_modCtx (n : NozzleId) (f : Context → Context) (i : SlotId) : (s.modCtx n f).slotState i = s.slotState i := rfl
@[simp] theorem State.lineFor_modCtx (n : NozzleId) (f : Context → Context) (i : Nat) : (s.modCtx n f).lineFor i = s.lineFor i := rfl
@[simp] theorem State.recordAt_modCtx (n : NozzleId) (f : Context → Context) (j : LineId) : (s.modCtx n f).recordAt j = s.recordAt j := rfl
@[simp] theorem State.cached_modCtx (n : NozzleId) (f : Context → Context) (i : Nat) : (s.modCtx n f).cached i = s.cached i := rfl

/-! #### `modMeter` -/

@[simp] theorem State.modMeter_pending (n : NozzleId) (f : Meter → Meter) : (s.modMeter n f).pending = s.pending := rfl
@[simp] theorem State.modMeter_power (n : NozzleId) (f : Meter → Meter) : (s.modMeter n f).power = s.power := rfl
@[simp] theorem State.modMeter_startUp (n : NozzleId) (f : Meter → Meter) : (s.modMeter n f).startUp = s.startUp := rfl
@[simp] theorem State.modMeter_clock (n : NozzleId) (f : Meter → Meter) : (s.modMeter n f).clock = s.clock := rfl
@[simp] theorem State.modMeter_config (n : NozzleId) (f : Meter → Meter) : (s.modMeter n f).config = s.config := rfl
@[simp] theorem State.modMeter_table (n : NozzleId) (f : Meter → Meter) : (s.modMeter n f).table = s.table := rfl
@[simp] theorem State.modMeter_scanner (n : NozzleId) (f : Meter → Meter) : (s.modMeter n f).scanner = s.scanner := rfl
@[simp] theorem State.modMeter_tanks (n : NozzleId) (f : Meter → Meter) : (s.modMeter n f).tanks = s.tanks := rfl
@[simp] theorem State.modMeter_nozzles (n : NozzleId) (f : Meter → Meter) : (s.modMeter n f).nozzles = s.nozzles := rfl
@[simp] theorem State.modMeter_ticketCounter (n : NozzleId) (f : Meter → Meter) : (s.modMeter n f).ticketCounter = s.ticketCounter := rfl
@[simp] theorem State.modMeter_expired (n : NozzleId) (f : Meter → Meter) : (s.modMeter n f).expired = s.expired := rfl
@[simp] theorem State.modMeter_park (n : NozzleId) (f : Meter → Meter) : (s.modMeter n f).park = s.park := rfl
@[simp] theorem State.modMeter_journal (n : NozzleId) (f : Meter → Meter) : (s.modMeter n f).journal = s.journal := rfl
@[simp] theorem State.modMeter_ports (n : NozzleId) (f : Meter → Meter) : (s.modMeter n f).ports = s.ports := rfl
@[simp] theorem State.modMeter_freeIndex (n : NozzleId) (f : Meter → Meter) : (s.modMeter n f).freeIndex = s.freeIndex := rfl
@[simp] theorem State.port_modMeter (n : NozzleId) (f : Meter → Meter) (q : Port) : (s.modMeter n f).port q = s.port q := rfl
@[simp] theorem State.ctx_modMeter (n : NozzleId) (f : Meter → Meter) (m : NozzleId) : (s.modMeter n f).ctx m = s.ctx m := rfl
@[simp] theorem State.delivery_modMeter (n : NozzleId) (f : Meter → Meter) (m : NozzleId) : (s.modMeter n f).delivery m = s.delivery m := rfl
@[simp] theorem State.tank_modMeter (n : NozzleId) (f : Meter → Meter) (t : TankId) : (s.modMeter n f).tank t = s.tank t := rfl
@[simp] theorem State.line_modMeter (n : NozzleId) (f : Meter → Meter) (j : LineId) : (s.modMeter n f).line j = s.line j := rfl
@[simp] theorem State.slot_modMeter (n : NozzleId) (f : Meter → Meter) (j : ParkId) : (s.modMeter n f).slot j = s.slot j := rfl
@[simp] theorem State.channel_modMeter (n : NozzleId) (f : Meter → Meter) (c : ChannelId) : (s.modMeter n f).channel c = s.channel c := rfl
@[simp] theorem State.nozzleConfig_modMeter (n : NozzleId) (f : Meter → Meter) (m : NozzleId) : (s.modMeter n f).nozzleConfig m = s.nozzleConfig m := rfl
@[simp] theorem State.tankConfig_modMeter (n : NozzleId) (f : Meter → Meter) (t : TankId) : (s.modMeter n f).tankConfig t = s.tankConfig t := rfl
@[simp] theorem State.productConfig_modMeter (n : NozzleId) (f : Meter → Meter) (i : ProductId) : (s.modMeter n f).productConfig i = s.productConfig i := rfl
@[simp] theorem State.classConfig_modMeter (n : NozzleId) (f : Meter → Meter) (i : ClassId) : (s.modMeter n f).classConfig i = s.classConfig i := rfl
@[simp] theorem State.role_modMeter (n : NozzleId) (f : Meter → Meter) (q : Port) : (s.modMeter n f).role q = s.role q := rfl
@[simp] theorem State.owner_modMeter (n : NozzleId) (f : Meter → Meter) (m : NozzleId) : (s.modMeter n f).owner m = s.owner m := rfl
@[simp] theorem State.running_modMeter (n : NozzleId) (f : Meter → Meter) : (s.modMeter n f).running = s.running := rfl
@[simp] theorem State.ready_modMeter (n : NozzleId) (f : Meter → Meter) : (s.modMeter n f).ready = s.ready := rfl
@[simp] theorem State.heard_modMeter (n : NozzleId) (f : Meter → Meter) : (s.modMeter n f).heard = s.heard := rfl
@[simp] theorem State.entry_modMeter (n : NozzleId) (f : Meter → Meter) (i : Nat) : (s.modMeter n f).entry i = s.entry i := rfl
@[simp] theorem State.enrolled_modMeter (n : NozzleId) (f : Meter → Meter) (i : Nat) : (s.modMeter n f).enrolled i = s.enrolled i := rfl
@[simp] theorem State.slotState_modMeter (n : NozzleId) (f : Meter → Meter) (i : SlotId) : (s.modMeter n f).slotState i = s.slotState i := rfl
@[simp] theorem State.lineFor_modMeter (n : NozzleId) (f : Meter → Meter) (i : Nat) : (s.modMeter n f).lineFor i = s.lineFor i := rfl
@[simp] theorem State.recordAt_modMeter (n : NozzleId) (f : Meter → Meter) (j : LineId) : (s.modMeter n f).recordAt j = s.recordAt j := rfl
@[simp] theorem State.cached_modMeter (n : NozzleId) (f : Meter → Meter) (i : Nat) : (s.modMeter n f).cached i = s.cached i := rfl

/-! #### `modTank` -/

@[simp] theorem State.modTank_pending (k : TankId) (f : Tank → Tank) : (s.modTank k f).pending = s.pending := rfl
@[simp] theorem State.modTank_power (k : TankId) (f : Tank → Tank) : (s.modTank k f).power = s.power := rfl
@[simp] theorem State.modTank_startUp (k : TankId) (f : Tank → Tank) : (s.modTank k f).startUp = s.startUp := rfl
@[simp] theorem State.modTank_clock (k : TankId) (f : Tank → Tank) : (s.modTank k f).clock = s.clock := rfl
@[simp] theorem State.modTank_config (k : TankId) (f : Tank → Tank) : (s.modTank k f).config = s.config := rfl
@[simp] theorem State.modTank_table (k : TankId) (f : Tank → Tank) : (s.modTank k f).table = s.table := rfl
@[simp] theorem State.modTank_meters (k : TankId) (f : Tank → Tank) : (s.modTank k f).meters = s.meters := rfl
@[simp] theorem State.modTank_scanner (k : TankId) (f : Tank → Tank) : (s.modTank k f).scanner = s.scanner := rfl
@[simp] theorem State.modTank_nozzles (k : TankId) (f : Tank → Tank) : (s.modTank k f).nozzles = s.nozzles := rfl
@[simp] theorem State.modTank_ticketCounter (k : TankId) (f : Tank → Tank) : (s.modTank k f).ticketCounter = s.ticketCounter := rfl
@[simp] theorem State.modTank_expired (k : TankId) (f : Tank → Tank) : (s.modTank k f).expired = s.expired := rfl
@[simp] theorem State.modTank_park (k : TankId) (f : Tank → Tank) : (s.modTank k f).park = s.park := rfl
@[simp] theorem State.modTank_journal (k : TankId) (f : Tank → Tank) : (s.modTank k f).journal = s.journal := rfl
@[simp] theorem State.modTank_ports (k : TankId) (f : Tank → Tank) : (s.modTank k f).ports = s.ports := rfl
@[simp] theorem State.modTank_freeIndex (k : TankId) (f : Tank → Tank) : (s.modTank k f).freeIndex = s.freeIndex := rfl
@[simp] theorem State.port_modTank (k : TankId) (f : Tank → Tank) (q : Port) : (s.modTank k f).port q = s.port q := rfl
@[simp] theorem State.ctx_modTank (k : TankId) (f : Tank → Tank) (m : NozzleId) : (s.modTank k f).ctx m = s.ctx m := rfl
@[simp] theorem State.delivery_modTank (k : TankId) (f : Tank → Tank) (m : NozzleId) : (s.modTank k f).delivery m = s.delivery m := rfl
@[simp] theorem State.meter_modTank (k : TankId) (f : Tank → Tank) (m : NozzleId) : (s.modTank k f).meter m = s.meter m := rfl
@[simp] theorem State.line_modTank (k : TankId) (f : Tank → Tank) (j : LineId) : (s.modTank k f).line j = s.line j := rfl
@[simp] theorem State.slot_modTank (k : TankId) (f : Tank → Tank) (j : ParkId) : (s.modTank k f).slot j = s.slot j := rfl
@[simp] theorem State.channel_modTank (k : TankId) (f : Tank → Tank) (c : ChannelId) : (s.modTank k f).channel c = s.channel c := rfl
@[simp] theorem State.nozzleConfig_modTank (k : TankId) (f : Tank → Tank) (m : NozzleId) : (s.modTank k f).nozzleConfig m = s.nozzleConfig m := rfl
@[simp] theorem State.tankConfig_modTank (k : TankId) (f : Tank → Tank) (t : TankId) : (s.modTank k f).tankConfig t = s.tankConfig t := rfl
@[simp] theorem State.productConfig_modTank (k : TankId) (f : Tank → Tank) (i : ProductId) : (s.modTank k f).productConfig i = s.productConfig i := rfl
@[simp] theorem State.classConfig_modTank (k : TankId) (f : Tank → Tank) (i : ClassId) : (s.modTank k f).classConfig i = s.classConfig i := rfl
@[simp] theorem State.role_modTank (k : TankId) (f : Tank → Tank) (q : Port) : (s.modTank k f).role q = s.role q := rfl
@[simp] theorem State.owner_modTank (k : TankId) (f : Tank → Tank) (m : NozzleId) : (s.modTank k f).owner m = s.owner m := rfl
@[simp] theorem State.running_modTank (k : TankId) (f : Tank → Tank) : (s.modTank k f).running = s.running := rfl
@[simp] theorem State.ready_modTank (k : TankId) (f : Tank → Tank) : (s.modTank k f).ready = s.ready := rfl
@[simp] theorem State.heard_modTank (k : TankId) (f : Tank → Tank) : (s.modTank k f).heard = s.heard := rfl
@[simp] theorem State.entry_modTank (k : TankId) (f : Tank → Tank) (i : Nat) : (s.modTank k f).entry i = s.entry i := rfl
@[simp] theorem State.enrolled_modTank (k : TankId) (f : Tank → Tank) (i : Nat) : (s.modTank k f).enrolled i = s.enrolled i := rfl
@[simp] theorem State.slotState_modTank (k : TankId) (f : Tank → Tank) (i : SlotId) : (s.modTank k f).slotState i = s.slotState i := rfl
@[simp] theorem State.lineFor_modTank (k : TankId) (f : Tank → Tank) (i : Nat) : (s.modTank k f).lineFor i = s.lineFor i := rfl
@[simp] theorem State.recordAt_modTank (k : TankId) (f : Tank → Tank) (j : LineId) : (s.modTank k f).recordAt j = s.recordAt j := rfl
@[simp] theorem State.cached_modTank (k : TankId) (f : Tank → Tank) (i : Nat) : (s.modTank k f).cached i = s.cached i := rfl

/-! #### `modTable` -/

@[simp] theorem State.modTable_pending (f : MachineTable → MachineTable) : (s.modTable f).pending = s.pending := rfl
@[simp] theorem State.modTable_power (f : MachineTable → MachineTable) : (s.modTable f).power = s.power := rfl
@[simp] theorem State.modTable_startUp (f : MachineTable → MachineTable) : (s.modTable f).startUp = s.startUp := rfl
@[simp] theorem State.modTable_clock (f : MachineTable → MachineTable) : (s.modTable f).clock = s.clock := rfl
@[simp] theorem State.modTable_config (f : MachineTable → MachineTable) : (s.modTable f).config = s.config := rfl
@[simp] theorem State.modTable_meters (f : MachineTable → MachineTable) : (s.modTable f).meters = s.meters := rfl
@[simp] theorem State.modTable_scanner (f : MachineTable → MachineTable) : (s.modTable f).scanner = s.scanner := rfl
@[simp] theorem State.modTable_tanks (f : MachineTable → MachineTable) : (s.modTable f).tanks = s.tanks := rfl
@[simp] theorem State.modTable_nozzles (f : MachineTable → MachineTable) : (s.modTable f).nozzles = s.nozzles := rfl
@[simp] theorem State.modTable_ticketCounter (f : MachineTable → MachineTable) : (s.modTable f).ticketCounter = s.ticketCounter := rfl
@[simp] theorem State.modTable_expired (f : MachineTable → MachineTable) : (s.modTable f).expired = s.expired := rfl
@[simp] theorem State.modTable_park (f : MachineTable → MachineTable) : (s.modTable f).park = s.park := rfl
@[simp] theorem State.modTable_journal (f : MachineTable → MachineTable) : (s.modTable f).journal = s.journal := rfl
@[simp] theorem State.modTable_ports (f : MachineTable → MachineTable) : (s.modTable f).ports = s.ports := rfl
@[simp] theorem State.modTable_freeIndex (f : MachineTable → MachineTable) : (s.modTable f).freeIndex = s.freeIndex := rfl
@[simp] theorem State.port_modTable (f : MachineTable → MachineTable) (q : Port) : (s.modTable f).port q = s.port q := rfl
@[simp] theorem State.ctx_modTable (f : MachineTable → MachineTable) (m : NozzleId) : (s.modTable f).ctx m = s.ctx m := rfl
@[simp] theorem State.delivery_modTable (f : MachineTable → MachineTable) (m : NozzleId) : (s.modTable f).delivery m = s.delivery m := rfl
@[simp] theorem State.meter_modTable (f : MachineTable → MachineTable) (m : NozzleId) : (s.modTable f).meter m = s.meter m := rfl
@[simp] theorem State.tank_modTable (f : MachineTable → MachineTable) (t : TankId) : (s.modTable f).tank t = s.tank t := rfl
@[simp] theorem State.slot_modTable (f : MachineTable → MachineTable) (j : ParkId) : (s.modTable f).slot j = s.slot j := rfl
@[simp] theorem State.channel_modTable (f : MachineTable → MachineTable) (c : ChannelId) : (s.modTable f).channel c = s.channel c := rfl
@[simp] theorem State.nozzleConfig_modTable (f : MachineTable → MachineTable) (m : NozzleId) : (s.modTable f).nozzleConfig m = s.nozzleConfig m := rfl
@[simp] theorem State.tankConfig_modTable (f : MachineTable → MachineTable) (t : TankId) : (s.modTable f).tankConfig t = s.tankConfig t := rfl
@[simp] theorem State.productConfig_modTable (f : MachineTable → MachineTable) (i : ProductId) : (s.modTable f).productConfig i = s.productConfig i := rfl
@[simp] theorem State.classConfig_modTable (f : MachineTable → MachineTable) (i : ClassId) : (s.modTable f).classConfig i = s.classConfig i := rfl
@[simp] theorem State.role_modTable (f : MachineTable → MachineTable) (q : Port) : (s.modTable f).role q = s.role q := rfl
@[simp] theorem State.owner_modTable (f : MachineTable → MachineTable) (m : NozzleId) : (s.modTable f).owner m = s.owner m := rfl
@[simp] theorem State.running_modTable (f : MachineTable → MachineTable) : (s.modTable f).running = s.running := rfl
@[simp] theorem State.ready_modTable (f : MachineTable → MachineTable) : (s.modTable f).ready = s.ready := rfl
@[simp] theorem State.heard_modTable (f : MachineTable → MachineTable) : (s.modTable f).heard = s.heard := rfl

/-! #### `modLine` -/

@[simp] theorem State.modLine_pending (l : LineId) (f : CacheLine → CacheLine) : (s.modLine l f).pending = s.pending := rfl
@[simp] theorem State.modLine_power (l : LineId) (f : CacheLine → CacheLine) : (s.modLine l f).power = s.power := rfl
@[simp] theorem State.modLine_startUp (l : LineId) (f : CacheLine → CacheLine) : (s.modLine l f).startUp = s.startUp := rfl
@[simp] theorem State.modLine_clock (l : LineId) (f : CacheLine → CacheLine) : (s.modLine l f).clock = s.clock := rfl
@[simp] theorem State.modLine_config (l : LineId) (f : CacheLine → CacheLine) : (s.modLine l f).config = s.config := rfl
@[simp] theorem State.modLine_meters (l : LineId) (f : CacheLine → CacheLine) : (s.modLine l f).meters = s.meters := rfl
@[simp] theorem State.modLine_scanner (l : LineId) (f : CacheLine → CacheLine) : (s.modLine l f).scanner = s.scanner := rfl
@[simp] theorem State.modLine_tanks (l : LineId) (f : CacheLine → CacheLine) : (s.modLine l f).tanks = s.tanks := rfl
@[simp] theorem State.modLine_nozzles (l : LineId) (f : CacheLine → CacheLine) : (s.modLine l f).nozzles = s.nozzles := rfl
@[simp] theorem State.modLine_ticketCounter (l : LineId) (f : CacheLine → CacheLine) : (s.modLine l f).ticketCounter = s.ticketCounter := rfl
@[simp] theorem State.modLine_expired (l : LineId) (f : CacheLine → CacheLine) : (s.modLine l f).expired = s.expired := rfl
@[simp] theorem State.modLine_park (l : LineId) (f : CacheLine → CacheLine) : (s.modLine l f).park = s.park := rfl
@[simp] theorem State.modLine_journal (l : LineId) (f : CacheLine → CacheLine) : (s.modLine l f).journal = s.journal := rfl
@[simp] theorem State.modLine_ports (l : LineId) (f : CacheLine → CacheLine) : (s.modLine l f).ports = s.ports := rfl
@[simp] theorem State.modLine_freeIndex (l : LineId) (f : CacheLine → CacheLine) : (s.modLine l f).freeIndex = s.freeIndex := rfl
@[simp] theorem State.port_modLine (l : LineId) (f : CacheLine → CacheLine) (q : Port) : (s.modLine l f).port q = s.port q := rfl
@[simp] theorem State.ctx_modLine (l : LineId) (f : CacheLine → CacheLine) (m : NozzleId) : (s.modLine l f).ctx m = s.ctx m := rfl
@[simp] theorem State.delivery_modLine (l : LineId) (f : CacheLine → CacheLine) (m : NozzleId) : (s.modLine l f).delivery m = s.delivery m := rfl
@[simp] theorem State.meter_modLine (l : LineId) (f : CacheLine → CacheLine) (m : NozzleId) : (s.modLine l f).meter m = s.meter m := rfl
@[simp] theorem State.tank_modLine (l : LineId) (f : CacheLine → CacheLine) (t : TankId) : (s.modLine l f).tank t = s.tank t := rfl
@[simp] theorem State.slot_modLine (l : LineId) (f : CacheLine → CacheLine) (j : ParkId) : (s.modLine l f).slot j = s.slot j := rfl
@[simp] theorem State.channel_modLine (l : LineId) (f : CacheLine → CacheLine) (c : ChannelId) : (s.modLine l f).channel c = s.channel c := rfl
@[simp] theorem State.nozzleConfig_modLine (l : LineId) (f : CacheLine → CacheLine) (m : NozzleId) : (s.modLine l f).nozzleConfig m = s.nozzleConfig m := rfl
@[simp] theorem State.tankConfig_modLine (l : LineId) (f : CacheLine → CacheLine) (t : TankId) : (s.modLine l f).tankConfig t = s.tankConfig t := rfl
@[simp] theorem State.productConfig_modLine (l : LineId) (f : CacheLine → CacheLine) (i : ProductId) : (s.modLine l f).productConfig i = s.productConfig i := rfl
@[simp] theorem State.classConfig_modLine (l : LineId) (f : CacheLine → CacheLine) (i : ClassId) : (s.modLine l f).classConfig i = s.classConfig i := rfl
@[simp] theorem State.role_modLine (l : LineId) (f : CacheLine → CacheLine) (q : Port) : (s.modLine l f).role q = s.role q := rfl
@[simp] theorem State.owner_modLine (l : LineId) (f : CacheLine → CacheLine) (m : NozzleId) : (s.modLine l f).owner m = s.owner m := rfl
@[simp] theorem State.running_modLine (l : LineId) (f : CacheLine → CacheLine) : (s.modLine l f).running = s.running := rfl
@[simp] theorem State.ready_modLine (l : LineId) (f : CacheLine → CacheLine) : (s.modLine l f).ready = s.ready := rfl
@[simp] theorem State.heard_modLine (l : LineId) (f : CacheLine → CacheLine) : (s.modLine l f).heard = s.heard := rfl

/-! #### `setSlot` -/

@[simp] theorem State.setSlot_pending (k : ParkId) (x : ParkSlot) : (s.setSlot k x).pending = s.pending := rfl
@[simp] theorem State.setSlot_power (k : ParkId) (x : ParkSlot) : (s.setSlot k x).power = s.power := rfl
@[simp] theorem State.setSlot_startUp (k : ParkId) (x : ParkSlot) : (s.setSlot k x).startUp = s.startUp := rfl
@[simp] theorem State.setSlot_clock (k : ParkId) (x : ParkSlot) : (s.setSlot k x).clock = s.clock := rfl
@[simp] theorem State.setSlot_config (k : ParkId) (x : ParkSlot) : (s.setSlot k x).config = s.config := rfl
@[simp] theorem State.setSlot_table (k : ParkId) (x : ParkSlot) : (s.setSlot k x).table = s.table := rfl
@[simp] theorem State.setSlot_meters (k : ParkId) (x : ParkSlot) : (s.setSlot k x).meters = s.meters := rfl
@[simp] theorem State.setSlot_scanner (k : ParkId) (x : ParkSlot) : (s.setSlot k x).scanner = s.scanner := rfl
@[simp] theorem State.setSlot_tanks (k : ParkId) (x : ParkSlot) : (s.setSlot k x).tanks = s.tanks := rfl
@[simp] theorem State.setSlot_nozzles (k : ParkId) (x : ParkSlot) : (s.setSlot k x).nozzles = s.nozzles := rfl
@[simp] theorem State.setSlot_ticketCounter (k : ParkId) (x : ParkSlot) : (s.setSlot k x).ticketCounter = s.ticketCounter := rfl
@[simp] theorem State.setSlot_expired (k : ParkId) (x : ParkSlot) : (s.setSlot k x).expired = s.expired := rfl
@[simp] theorem State.setSlot_journal (k : ParkId) (x : ParkSlot) : (s.setSlot k x).journal = s.journal := rfl
@[simp] theorem State.setSlot_ports (k : ParkId) (x : ParkSlot) : (s.setSlot k x).ports = s.ports := rfl
@[simp] theorem State.setSlot_freeIndex (k : ParkId) (x : ParkSlot) : (s.setSlot k x).freeIndex = s.freeIndex := rfl
@[simp] theorem State.port_setSlot (k : ParkId) (x : ParkSlot) (q : Port) : (s.setSlot k x).port q = s.port q := rfl
@[simp] theorem State.ctx_setSlot (k : ParkId) (x : ParkSlot) (m : NozzleId) : (s.setSlot k x).ctx m = s.ctx m := rfl
@[simp] theorem State.delivery_setSlot (k : ParkId) (x : ParkSlot) (m : NozzleId) : (s.setSlot k x).delivery m = s.delivery m := rfl
@[simp] theorem State.meter_setSlot (k : ParkId) (x : ParkSlot) (m : NozzleId) : (s.setSlot k x).meter m = s.meter m := rfl
@[simp] theorem State.tank_setSlot (k : ParkId) (x : ParkSlot) (t : TankId) : (s.setSlot k x).tank t = s.tank t := rfl
@[simp] theorem State.line_setSlot (k : ParkId) (x : ParkSlot) (j : LineId) : (s.setSlot k x).line j = s.line j := rfl
@[simp] theorem State.channel_setSlot (k : ParkId) (x : ParkSlot) (c : ChannelId) : (s.setSlot k x).channel c = s.channel c := rfl
@[simp] theorem State.nozzleConfig_setSlot (k : ParkId) (x : ParkSlot) (m : NozzleId) : (s.setSlot k x).nozzleConfig m = s.nozzleConfig m := rfl
@[simp] theorem State.tankConfig_setSlot (k : ParkId) (x : ParkSlot) (t : TankId) : (s.setSlot k x).tankConfig t = s.tankConfig t := rfl
@[simp] theorem State.productConfig_setSlot (k : ParkId) (x : ParkSlot) (i : ProductId) : (s.setSlot k x).productConfig i = s.productConfig i := rfl
@[simp] theorem State.classConfig_setSlot (k : ParkId) (x : ParkSlot) (i : ClassId) : (s.setSlot k x).classConfig i = s.classConfig i := rfl
@[simp] theorem State.role_setSlot (k : ParkId) (x : ParkSlot) (q : Port) : (s.setSlot k x).role q = s.role q := rfl
@[simp] theorem State.owner_setSlot (k : ParkId) (x : ParkSlot) (m : NozzleId) : (s.setSlot k x).owner m = s.owner m := rfl
@[simp] theorem State.running_setSlot (k : ParkId) (x : ParkSlot) : (s.setSlot k x).running = s.running := rfl
@[simp] theorem State.ready_setSlot (k : ParkId) (x : ParkSlot) : (s.setSlot k x).ready = s.ready := rfl
@[simp] theorem State.heard_setSlot (k : ParkId) (x : ParkSlot) : (s.setSlot k x).heard = s.heard := rfl
@[simp] theorem State.entry_setSlot (k : ParkId) (x : ParkSlot) (i : Nat) : (s.setSlot k x).entry i = s.entry i := rfl
@[simp] theorem State.enrolled_setSlot (k : ParkId) (x : ParkSlot) (i : Nat) : (s.setSlot k x).enrolled i = s.enrolled i := rfl
@[simp] theorem State.slotState_setSlot (k : ParkId) (x : ParkSlot) (i : SlotId) : (s.setSlot k x).slotState i = s.slotState i := rfl
@[simp] theorem State.lineFor_setSlot (k : ParkId) (x : ParkSlot) (i : Nat) : (s.setSlot k x).lineFor i = s.lineFor i := rfl
@[simp] theorem State.recordAt_setSlot (k : ParkId) (x : ParkSlot) (j : LineId) : (s.setSlot k x).recordAt j = s.recordAt j := rfl
@[simp] theorem State.cached_setSlot (k : ParkId) (x : ParkSlot) (i : Nat) : (s.setSlot k x).cached i = s.cached i := rfl

/-! #### `setStage` -/

@[simp] theorem State.setStage_pending (x : Stage) : (s.setStage x).pending = s.pending := rfl
@[simp] theorem State.setStage_power (x : Stage) : (s.setStage x).power = s.power := rfl
@[simp] theorem State.setStage_clock (x : Stage) : (s.setStage x).clock = s.clock := rfl
@[simp] theorem State.setStage_config (x : Stage) : (s.setStage x).config = s.config := rfl
@[simp] theorem State.setStage_table (x : Stage) : (s.setStage x).table = s.table := rfl
@[simp] theorem State.setStage_meters (x : Stage) : (s.setStage x).meters = s.meters := rfl
@[simp] theorem State.setStage_scanner (x : Stage) : (s.setStage x).scanner = s.scanner := rfl
@[simp] theorem State.setStage_tanks (x : Stage) : (s.setStage x).tanks = s.tanks := rfl
@[simp] theorem State.setStage_nozzles (x : Stage) : (s.setStage x).nozzles = s.nozzles := rfl
@[simp] theorem State.setStage_ticketCounter (x : Stage) : (s.setStage x).ticketCounter = s.ticketCounter := rfl
@[simp] theorem State.setStage_expired (x : Stage) : (s.setStage x).expired = s.expired := rfl
@[simp] theorem State.setStage_park (x : Stage) : (s.setStage x).park = s.park := rfl
@[simp] theorem State.setStage_journal (x : Stage) : (s.setStage x).journal = s.journal := rfl
@[simp] theorem State.setStage_ports (x : Stage) : (s.setStage x).ports = s.ports := rfl
@[simp] theorem State.setStage_freeIndex (x : Stage) : (s.setStage x).freeIndex = s.freeIndex := rfl
@[simp] theorem State.port_setStage (x : Stage) (q : Port) : (s.setStage x).port q = s.port q := rfl
@[simp] theorem State.ctx_setStage (x : Stage) (m : NozzleId) : (s.setStage x).ctx m = s.ctx m := rfl
@[simp] theorem State.delivery_setStage (x : Stage) (m : NozzleId) : (s.setStage x).delivery m = s.delivery m := rfl
@[simp] theorem State.meter_setStage (x : Stage) (m : NozzleId) : (s.setStage x).meter m = s.meter m := rfl
@[simp] theorem State.tank_setStage (x : Stage) (t : TankId) : (s.setStage x).tank t = s.tank t := rfl
@[simp] theorem State.line_setStage (x : Stage) (j : LineId) : (s.setStage x).line j = s.line j := rfl
@[simp] theorem State.slot_setStage (x : Stage) (j : ParkId) : (s.setStage x).slot j = s.slot j := rfl
@[simp] theorem State.channel_setStage (x : Stage) (c : ChannelId) : (s.setStage x).channel c = s.channel c := rfl
@[simp] theorem State.nozzleConfig_setStage (x : Stage) (m : NozzleId) : (s.setStage x).nozzleConfig m = s.nozzleConfig m := rfl
@[simp] theorem State.tankConfig_setStage (x : Stage) (t : TankId) : (s.setStage x).tankConfig t = s.tankConfig t := rfl
@[simp] theorem State.productConfig_setStage (x : Stage) (i : ProductId) : (s.setStage x).productConfig i = s.productConfig i := rfl
@[simp] theorem State.classConfig_setStage (x : Stage) (i : ClassId) : (s.setStage x).classConfig i = s.classConfig i := rfl
@[simp] theorem State.role_setStage (x : Stage) (q : Port) : (s.setStage x).role q = s.role q := rfl
@[simp] theorem State.owner_setStage (x : Stage) (m : NozzleId) : (s.setStage x).owner m = s.owner m := rfl
@[simp] theorem State.running_setStage (x : Stage) : (s.setStage x).running = s.running := rfl
@[simp] theorem State.entry_setStage (x : Stage) (i : Nat) : (s.setStage x).entry i = s.entry i := rfl
@[simp] theorem State.enrolled_setStage (x : Stage) (i : Nat) : (s.setStage x).enrolled i = s.enrolled i := rfl
@[simp] theorem State.slotState_setStage (x : Stage) (i : SlotId) : (s.setStage x).slotState i = s.slotState i := rfl
@[simp] theorem State.lineFor_setStage (x : Stage) (i : Nat) : (s.setStage x).lineFor i = s.lineFor i := rfl
@[simp] theorem State.recordAt_setStage (x : Stage) (j : LineId) : (s.setStage x).recordAt j = s.recordAt j := rfl
@[simp] theorem State.cached_setStage (x : Stage) (i : Nat) : (s.setStage x).cached i = s.cached i := rfl

/-! #### `withPending` -/

@[simp] theorem State.withPending_power (w : List Instr) : (s.withPending w).power = s.power := rfl
@[simp] theorem State.withPending_startUp (w : List Instr) : (s.withPending w).startUp = s.startUp := rfl
@[simp] theorem State.withPending_clock (w : List Instr) : (s.withPending w).clock = s.clock := rfl
@[simp] theorem State.withPending_config (w : List Instr) : (s.withPending w).config = s.config := rfl
@[simp] theorem State.withPending_table (w : List Instr) : (s.withPending w).table = s.table := rfl
@[simp] theorem State.withPending_meters (w : List Instr) : (s.withPending w).meters = s.meters := rfl
@[simp] theorem State.withPending_scanner (w : List Instr) : (s.withPending w).scanner = s.scanner := rfl
@[simp] theorem State.withPending_tanks (w : List Instr) : (s.withPending w).tanks = s.tanks := rfl
@[simp] theorem State.withPending_nozzles (w : List Instr) : (s.withPending w).nozzles = s.nozzles := rfl
@[simp] theorem State.withPending_ticketCounter (w : List Instr) : (s.withPending w).ticketCounter = s.ticketCounter := rfl
@[simp] theorem State.withPending_expired (w : List Instr) : (s.withPending w).expired = s.expired := rfl
@[simp] theorem State.withPending_park (w : List Instr) : (s.withPending w).park = s.park := rfl
@[simp] theorem State.withPending_journal (w : List Instr) : (s.withPending w).journal = s.journal := rfl
@[simp] theorem State.withPending_ports (w : List Instr) : (s.withPending w).ports = s.ports := rfl
@[simp] theorem State.withPending_freeIndex (w : List Instr) : (s.withPending w).freeIndex = s.freeIndex := rfl
@[simp] theorem State.port_withPending (w : List Instr) (q : Port) : (s.withPending w).port q = s.port q := rfl
@[simp] theorem State.ctx_withPending (w : List Instr) (m : NozzleId) : (s.withPending w).ctx m = s.ctx m := rfl
@[simp] theorem State.delivery_withPending (w : List Instr) (m : NozzleId) : (s.withPending w).delivery m = s.delivery m := rfl
@[simp] theorem State.meter_withPending (w : List Instr) (m : NozzleId) : (s.withPending w).meter m = s.meter m := rfl
@[simp] theorem State.tank_withPending (w : List Instr) (t : TankId) : (s.withPending w).tank t = s.tank t := rfl
@[simp] theorem State.line_withPending (w : List Instr) (j : LineId) : (s.withPending w).line j = s.line j := rfl
@[simp] theorem State.slot_withPending (w : List Instr) (j : ParkId) : (s.withPending w).slot j = s.slot j := rfl
@[simp] theorem State.channel_withPending (w : List Instr) (c : ChannelId) : (s.withPending w).channel c = s.channel c := rfl
@[simp] theorem State.nozzleConfig_withPending (w : List Instr) (m : NozzleId) : (s.withPending w).nozzleConfig m = s.nozzleConfig m := rfl
@[simp] theorem State.tankConfig_withPending (w : List Instr) (t : TankId) : (s.withPending w).tankConfig t = s.tankConfig t := rfl
@[simp] theorem State.productConfig_withPending (w : List Instr) (i : ProductId) : (s.withPending w).productConfig i = s.productConfig i := rfl
@[simp] theorem State.classConfig_withPending (w : List Instr) (i : ClassId) : (s.withPending w).classConfig i = s.classConfig i := rfl
@[simp] theorem State.role_withPending (w : List Instr) (q : Port) : (s.withPending w).role q = s.role q := rfl
@[simp] theorem State.owner_withPending (w : List Instr) (m : NozzleId) : (s.withPending w).owner m = s.owner m := rfl
@[simp] theorem State.running_withPending (w : List Instr) : (s.withPending w).running = s.running := rfl
@[simp] theorem State.ready_withPending (w : List Instr) : (s.withPending w).ready = s.ready := rfl
@[simp] theorem State.heard_withPending (w : List Instr) : (s.withPending w).heard = s.heard := rfl
@[simp] theorem State.entry_withPending (w : List Instr) (i : Nat) : (s.withPending w).entry i = s.entry i := rfl
@[simp] theorem State.enrolled_withPending (w : List Instr) (i : Nat) : (s.withPending w).enrolled i = s.enrolled i := rfl
@[simp] theorem State.slotState_withPending (w : List Instr) (i : SlotId) : (s.withPending w).slotState i = s.slotState i := rfl
@[simp] theorem State.lineFor_withPending (w : List Instr) (i : Nat) : (s.withPending w).lineFor i = s.lineFor i := rfl
@[simp] theorem State.recordAt_withPending (w : List Instr) (j : LineId) : (s.withPending w).recordAt j = s.recordAt j := rfl
@[simp] theorem State.cached_withPending (w : List Instr) (i : Nat) : (s.withPending w).cached i = s.cached i := rfl

/-! #### `postWhere` -/

@[simp] theorem State.postWhere_pending (d : Port → Bool) (b : NoticeBody) : (s.postWhere d b).pending = s.pending := rfl
@[simp] theorem State.postWhere_power (d : Port → Bool) (b : NoticeBody) : (s.postWhere d b).power = s.power := rfl
@[simp] theorem State.postWhere_startUp (d : Port → Bool) (b : NoticeBody) : (s.postWhere d b).startUp = s.startUp := rfl
@[simp] theorem State.postWhere_clock (d : Port → Bool) (b : NoticeBody) : (s.postWhere d b).clock = s.clock := rfl
@[simp] theorem State.postWhere_config (d : Port → Bool) (b : NoticeBody) : (s.postWhere d b).config = s.config := rfl
@[simp] theorem State.postWhere_table (d : Port → Bool) (b : NoticeBody) : (s.postWhere d b).table = s.table := rfl
@[simp] theorem State.postWhere_meters (d : Port → Bool) (b : NoticeBody) : (s.postWhere d b).meters = s.meters := rfl
@[simp] theorem State.postWhere_scanner (d : Port → Bool) (b : NoticeBody) : (s.postWhere d b).scanner = s.scanner := rfl
@[simp] theorem State.postWhere_tanks (d : Port → Bool) (b : NoticeBody) : (s.postWhere d b).tanks = s.tanks := rfl
@[simp] theorem State.postWhere_nozzles (d : Port → Bool) (b : NoticeBody) : (s.postWhere d b).nozzles = s.nozzles := rfl
@[simp] theorem State.postWhere_ticketCounter (d : Port → Bool) (b : NoticeBody) : (s.postWhere d b).ticketCounter = s.ticketCounter := rfl
@[simp] theorem State.postWhere_expired (d : Port → Bool) (b : NoticeBody) : (s.postWhere d b).expired = s.expired := rfl
@[simp] theorem State.postWhere_park (d : Port → Bool) (b : NoticeBody) : (s.postWhere d b).park = s.park := rfl
@[simp] theorem State.postWhere_journal (d : Port → Bool) (b : NoticeBody) : (s.postWhere d b).journal = s.journal := rfl
@[simp] theorem State.postWhere_freeIndex (d : Port → Bool) (b : NoticeBody) : (s.postWhere d b).freeIndex = s.freeIndex := rfl
@[simp] theorem State.ctx_postWhere (d : Port → Bool) (b : NoticeBody) (m : NozzleId) : (s.postWhere d b).ctx m = s.ctx m := rfl
@[simp] theorem State.delivery_postWhere (d : Port → Bool) (b : NoticeBody) (m : NozzleId) : (s.postWhere d b).delivery m = s.delivery m := rfl
@[simp] theorem State.meter_postWhere (d : Port → Bool) (b : NoticeBody) (m : NozzleId) : (s.postWhere d b).meter m = s.meter m := rfl
@[simp] theorem State.tank_postWhere (d : Port → Bool) (b : NoticeBody) (t : TankId) : (s.postWhere d b).tank t = s.tank t := rfl
@[simp] theorem State.line_postWhere (d : Port → Bool) (b : NoticeBody) (j : LineId) : (s.postWhere d b).line j = s.line j := rfl
@[simp] theorem State.slot_postWhere (d : Port → Bool) (b : NoticeBody) (j : ParkId) : (s.postWhere d b).slot j = s.slot j := rfl
@[simp] theorem State.channel_postWhere (d : Port → Bool) (b : NoticeBody) (c : ChannelId) : (s.postWhere d b).channel c = s.channel c := rfl
@[simp] theorem State.nozzleConfig_postWhere (d : Port → Bool) (b : NoticeBody) (m : NozzleId) : (s.postWhere d b).nozzleConfig m = s.nozzleConfig m := rfl
@[simp] theorem State.tankConfig_postWhere (d : Port → Bool) (b : NoticeBody) (t : TankId) : (s.postWhere d b).tankConfig t = s.tankConfig t := rfl
@[simp] theorem State.productConfig_postWhere (d : Port → Bool) (b : NoticeBody) (i : ProductId) : (s.postWhere d b).productConfig i = s.productConfig i := rfl
@[simp] theorem State.classConfig_postWhere (d : Port → Bool) (b : NoticeBody) (i : ClassId) : (s.postWhere d b).classConfig i = s.classConfig i := rfl
@[simp] theorem State.role_postWhere (d : Port → Bool) (b : NoticeBody) (q : Port) : (s.postWhere d b).role q = s.role q := rfl
@[simp] theorem State.owner_postWhere (d : Port → Bool) (b : NoticeBody) (m : NozzleId) : (s.postWhere d b).owner m = s.owner m := rfl
@[simp] theorem State.running_postWhere (d : Port → Bool) (b : NoticeBody) : (s.postWhere d b).running = s.running := rfl
@[simp] theorem State.ready_postWhere (d : Port → Bool) (b : NoticeBody) : (s.postWhere d b).ready = s.ready := rfl
@[simp] theorem State.heard_postWhere (d : Port → Bool) (b : NoticeBody) : (s.postWhere d b).heard = s.heard := rfl
@[simp] theorem State.entry_postWhere (d : Port → Bool) (b : NoticeBody) (i : Nat) : (s.postWhere d b).entry i = s.entry i := rfl
@[simp] theorem State.enrolled_postWhere (d : Port → Bool) (b : NoticeBody) (i : Nat) : (s.postWhere d b).enrolled i = s.enrolled i := rfl
@[simp] theorem State.slotState_postWhere (d : Port → Bool) (b : NoticeBody) (i : SlotId) : (s.postWhere d b).slotState i = s.slotState i := rfl
@[simp] theorem State.lineFor_postWhere (d : Port → Bool) (b : NoticeBody) (i : Nat) : (s.postWhere d b).lineFor i = s.lineFor i := rfl
@[simp] theorem State.recordAt_postWhere (d : Port → Bool) (b : NoticeBody) (j : LineId) : (s.postWhere d b).recordAt j = s.recordAt j := rfl
@[simp] theorem State.cached_postWhere (d : Port → Bool) (b : NoticeBody) (i : Nat) : (s.postWhere d b).cached i = s.cached i := rfl

end Sys2Proof.Machine
end

