-- ==== Sys2Proof/Laws/Answers.lean ====
section
/-! SUPPORT. Laws/Answers.lean: taking a frame, answering it and posting a notice touch the ports alone: every field and every
part of the state outside them reads as before. -/

namespace Sys2Proof.Machine

variable (s : State)

/-! #### `idleAssembler` -/

@[simp] theorem State.idleAssembler_pending (p : Port) : (s.idleAssembler p).pending = s.pending := rfl
@[simp] theorem State.idleAssembler_power (p : Port) : (s.idleAssembler p).power = s.power := rfl
@[simp] theorem State.idleAssembler_startUp (p : Port) : (s.idleAssembler p).startUp = s.startUp := rfl
@[simp] theorem State.idleAssembler_clock (p : Port) : (s.idleAssembler p).clock = s.clock := rfl
@[simp] theorem State.idleAssembler_config (p : Port) : (s.idleAssembler p).config = s.config := rfl
@[simp] theorem State.idleAssembler_table (p : Port) : (s.idleAssembler p).table = s.table := rfl
@[simp] theorem State.idleAssembler_meters (p : Port) : (s.idleAssembler p).meters = s.meters := rfl
@[simp] theorem State.idleAssembler_scanner (p : Port) : (s.idleAssembler p).scanner = s.scanner := rfl
@[simp] theorem State.idleAssembler_tanks (p : Port) : (s.idleAssembler p).tanks = s.tanks := rfl
@[simp] theorem State.idleAssembler_nozzles (p : Port) : (s.idleAssembler p).nozzles = s.nozzles := rfl
@[simp] theorem State.idleAssembler_ticketCounter (p : Port) : (s.idleAssembler p).ticketCounter = s.ticketCounter := rfl
@[simp] theorem State.idleAssembler_expired (p : Port) : (s.idleAssembler p).expired = s.expired := rfl
@[simp] theorem State.idleAssembler_park (p : Port) : (s.idleAssembler p).park = s.park := rfl
@[simp] theorem State.idleAssembler_journal (p : Port) : (s.idleAssembler p).journal = s.journal := rfl
@[simp] theorem State.idleAssembler_freeIndex (p : Port) : (s.idleAssembler p).freeIndex = s.freeIndex := rfl
@[simp] theorem State.ctx_idleAssembler (p : Port) (m : NozzleId) : (s.idleAssembler p).ctx m = s.ctx m := rfl
@[simp] theorem State.delivery_idleAssembler (p : Port) (m : NozzleId) : (s.idleAssembler p).delivery m = s.delivery m := rfl
@[simp] theorem State.meter_idleAssembler (p : Port) (m : NozzleId) : (s.idleAssembler p).meter m = s.meter m := rfl
@[simp] theorem State.tank_idleAssembler (p : Port) (t : TankId) : (s.idleAssembler p).tank t = s.tank t := rfl
@[simp] theorem State.line_idleAssembler (p : Port) (j : LineId) : (s.idleAssembler p).line j = s.line j := rfl
@[simp] theorem State.slot_idleAssembler (p : Port) (j : ParkId) : (s.idleAssembler p).slot j = s.slot j := rfl
@[simp] theorem State.channel_idleAssembler (p : Port) (c : ChannelId) : (s.idleAssembler p).channel c = s.channel c := rfl
@[simp] theorem State.nozzleConfig_idleAssembler (p : Port) (m : NozzleId) : (s.idleAssembler p).nozzleConfig m = s.nozzleConfig m := rfl
@[simp] theorem State.tankConfig_idleAssembler (p : Port) (t : TankId) : (s.idleAssembler p).tankConfig t = s.tankConfig t := rfl
@[simp] theorem State.productConfig_idleAssembler (p : Port) (i : ProductId) : (s.idleAssembler p).productConfig i = s.productConfig i := rfl
@[simp] theorem State.classConfig_idleAssembler (p : Port) (i : ClassId) : (s.idleAssembler p).classConfig i = s.classConfig i := rfl
@[simp] theorem State.role_idleAssembler (p : Port) (q : Port) : (s.idleAssembler p).role q = s.role q := rfl
@[simp] theorem State.owner_idleAssembler (p : Port) (m : NozzleId) : (s.idleAssembler p).owner m = s.owner m := rfl
@[simp] theorem State.running_idleAssembler (p : Port) : (s.idleAssembler p).running = s.running := rfl
@[simp] theorem State.ready_idleAssembler (p : Port) : (s.idleAssembler p).ready = s.ready := rfl
@[simp] theorem State.heard_idleAssembler (p : Port) : (s.idleAssembler p).heard = s.heard := rfl
@[simp] theorem State.entry_idleAssembler (p : Port) (i : Nat) : (s.idleAssembler p).entry i = s.entry i := rfl
@[simp] theorem State.enrolled_idleAssembler (p : Port) (i : Nat) : (s.idleAssembler p).enrolled i = s.enrolled i := rfl
@[simp] theorem State.slotState_idleAssembler (p : Port) (i : SlotId) : (s.idleAssembler p).slotState i = s.slotState i := rfl
@[simp] theorem State.lineFor_idleAssembler (p : Port) (i : Nat) : (s.idleAssembler p).lineFor i = s.lineFor i := rfl
@[simp] theorem State.recordAt_idleAssembler (p : Port) (j : LineId) : (s.idleAssembler p).recordAt j = s.recordAt j := rfl
@[simp] theorem State.cached_idleAssembler (p : Port) (i : Nat) : (s.idleAssembler p).cached i = s.cached i := rfl

/-! #### `reply` -/

@[simp] theorem State.reply_pending (p : Port) (rc : ReqCode) (g : Byte) (st : Status) (w : Payload) : (s.reply p rc g st w).pending = s.pending := rfl
@[simp] theorem State.reply_power (p : Port) (rc : ReqCode) (g : Byte) (st : Status) (w : Payload) : (s.reply p rc g st w).power = s.power := rfl
@[simp] theorem State.reply_startUp (p : Port) (rc : ReqCode) (g : Byte) (st : Status) (w : Payload) : (s.reply p rc g st w).startUp = s.startUp := rfl
@[simp] theorem State.reply_clock (p : Port) (rc : ReqCode) (g : Byte) (st : Status) (w : Payload) : (s.reply p rc g st w).clock = s.clock := rfl
@[simp] theorem State.reply_config (p : Port) (rc : ReqCode) (g : Byte) (st : Status) (w : Payload) : (s.reply p rc g st w).config = s.config := rfl
@[simp] theorem State.reply_table (p : Port) (rc : ReqCode) (g : Byte) (st : Status) (w : Payload) : (s.reply p rc g st w).table = s.table := rfl
@[simp] theorem State.reply_meters (p : Port) (rc : ReqCode) (g : Byte) (st : Status) (w : Payload) : (s.reply p rc g st w).meters = s.meters := rfl
@[simp] theorem State.reply_scanner (p : Port) (rc : ReqCode) (g : Byte) (st : Status) (w : Payload) : (s.reply p rc g st w).scanner = s.scanner := rfl
@[simp] theorem State.reply_tanks (p : Port) (rc : ReqCode) (g : Byte) (st : Status) (w : Payload) : (s.reply p rc g st w).tanks = s.tanks := rfl
@[simp] theorem State.reply_nozzles (p : Port) (rc : ReqCode) (g : Byte) (st : Status) (w : Payload) : (s.reply p rc g st w).nozzles = s.nozzles := rfl
@[simp] theorem State.reply_ticketCounter (p : Port) (rc : ReqCode) (g : Byte) (st : Status) (w : Payload) : (s.reply p rc g st w).ticketCounter = s.ticketCounter := rfl
@[simp] theorem State.reply_expired (p : Port) (rc : ReqCode) (g : Byte) (st : Status) (w : Payload) : (s.reply p rc g st w).expired = s.expired := rfl
@[simp] theorem State.reply_park (p : Port) (rc : ReqCode) (g : Byte) (st : Status) (w : Payload) : (s.reply p rc g st w).park = s.park := rfl
@[simp] theorem State.reply_journal (p : Port) (rc : ReqCode) (g : Byte) (st : Status) (w : Payload) : (s.reply p rc g st w).journal = s.journal := rfl
@[simp] theorem State.reply_freeIndex (p : Port) (rc : ReqCode) (g : Byte) (st : Status) (w : Payload) : (s.reply p rc g st w).freeIndex = s.freeIndex := rfl
@[simp] theorem State.ctx_reply (p : Port) (rc : ReqCode) (g : Byte) (st : Status) (w : Payload) (m : NozzleId) : (s.reply p rc g st w).ctx m = s.ctx m := rfl
@[simp] theorem State.delivery_reply (p : Port) (rc : ReqCode) (g : Byte) (st : Status) (w : Payload) (m : NozzleId) : (s.reply p rc g st w).delivery m = s.delivery m := rfl
@[simp] theorem State.meter_reply (p : Port) (rc : ReqCode) (g : Byte) (st : Status) (w : Payload) (m : NozzleId) : (s.reply p rc g st w).meter m = s.meter m := rfl
@[simp] theorem State.tank_reply (p : Port) (rc : ReqCode) (g : Byte) (st : Status) (w : Payload) (t : TankId) : (s.reply p rc g st w).tank t = s.tank t := rfl
@[simp] theorem State.line_reply (p : Port) (rc : ReqCode) (g : Byte) (st : Status) (w : Payload) (j : LineId) : (s.reply p rc g st w).line j = s.line j := rfl
@[simp] theorem State.slot_reply (p : Port) (rc : ReqCode) (g : Byte) (st : Status) (w : Payload) (j : ParkId) : (s.reply p rc g st w).slot j = s.slot j := rfl
@[simp] theorem State.channel_reply (p : Port) (rc : ReqCode) (g : Byte) (st : Status) (w : Payload) (c : ChannelId) : (s.reply p rc g st w).channel c = s.channel c := rfl
@[simp] theorem State.nozzleConfig_reply (p : Port) (rc : ReqCode) (g : Byte) (st : Status) (w : Payload) (m : NozzleId) : (s.reply p rc g st w).nozzleConfig m = s.nozzleConfig m := rfl
@[simp] theorem State.tankConfig_reply (p : Port) (rc : ReqCode) (g : Byte) (st : Status) (w : Payload) (t : TankId) : (s.reply p rc g st w).tankConfig t = s.tankConfig t := rfl
@[simp] theorem State.productConfig_reply (p : Port) (rc : ReqCode) (g : Byte) (st : Status) (w : Payload) (i : ProductId) : (s.reply p rc g st w).productConfig i = s.productConfig i := rfl
@[simp] theorem State.classConfig_reply (p : Port) (rc : ReqCode) (g : Byte) (st : Status) (w : Payload) (i : ClassId) : (s.reply p rc g st w).classConfig i = s.classConfig i := rfl
@[simp] theorem State.role_reply (p : Port) (rc : ReqCode) (g : Byte) (st : Status) (w : Payload) (q : Port) : (s.reply p rc g st w).role q = s.role q := rfl
@[simp] theorem State.owner_reply (p : Port) (rc : ReqCode) (g : Byte) (st : Status) (w : Payload) (m : NozzleId) : (s.reply p rc g st w).owner m = s.owner m := rfl
@[simp] theorem State.running_reply (p : Port) (rc : ReqCode) (g : Byte) (st : Status) (w : Payload) : (s.reply p rc g st w).running = s.running := rfl
@[simp] theorem State.ready_reply (p : Port) (rc : ReqCode) (g : Byte) (st : Status) (w : Payload) : (s.reply p rc g st w).ready = s.ready := rfl
@[simp] theorem State.heard_reply (p : Port) (rc : ReqCode) (g : Byte) (st : Status) (w : Payload) : (s.reply p rc g st w).heard = s.heard := rfl
@[simp] theorem State.entry_reply (p : Port) (rc : ReqCode) (g : Byte) (st : Status) (w : Payload) (i : Nat) : (s.reply p rc g st w).entry i = s.entry i := rfl
@[simp] theorem State.enrolled_reply (p : Port) (rc : ReqCode) (g : Byte) (st : Status) (w : Payload) (i : Nat) : (s.reply p rc g st w).enrolled i = s.enrolled i := rfl
@[simp] theorem State.slotState_reply (p : Port) (rc : ReqCode) (g : Byte) (st : Status) (w : Payload) (i : SlotId) : (s.reply p rc g st w).slotState i = s.slotState i := rfl
@[simp] theorem State.lineFor_reply (p : Port) (rc : ReqCode) (g : Byte) (st : Status) (w : Payload) (i : Nat) : (s.reply p rc g st w).lineFor i = s.lineFor i := rfl
@[simp] theorem State.recordAt_reply (p : Port) (rc : ReqCode) (g : Byte) (st : Status) (w : Payload) (j : LineId) : (s.reply p rc g st w).recordAt j = s.recordAt j := rfl
@[simp] theorem State.cached_reply (p : Port) (rc : ReqCode) (g : Byte) (st : Status) (w : Payload) (i : Nat) : (s.reply p rc g st w).cached i = s.cached i := rfl

/-! #### `answered` -/

@[simp] theorem State.answered_pending (p : Port) (rc : ReqCode) (g : Byte) (st : Status) (w : Payload) : (s.answered p rc g st w).pending = s.pending := rfl
@[simp] theorem State.answered_power (p : Port) (rc : ReqCode) (g : Byte) (st : Status) (w : Payload) : (s.answered p rc g st w).power = s.power := rfl
@[simp] theorem State.answered_startUp (p : Port) (rc : ReqCode) (g : Byte) (st : Status) (w : Payload) : (s.answered p rc g st w).startUp = s.startUp := rfl
@[simp] theorem State.answered_clock (p : Port) (rc : ReqCode) (g : Byte) (st : Status) (w : Payload) : (s.answered p rc g st w).clock = s.clock := rfl
@[simp] theorem State.answered_config (p : Port) (rc : ReqCode) (g : Byte) (st : Status) (w : Payload) : (s.answered p rc g st w).config = s.config := rfl
@[simp] theorem State.answered_table (p : Port) (rc : ReqCode) (g : Byte) (st : Status) (w : Payload) : (s.answered p rc g st w).table = s.table := rfl
@[simp] theorem State.answered_meters (p : Port) (rc : ReqCode) (g : Byte) (st : Status) (w : Payload) : (s.answered p rc g st w).meters = s.meters := rfl
@[simp] theorem State.answered_scanner (p : Port) (rc : ReqCode) (g : Byte) (st : Status) (w : Payload) : (s.answered p rc g st w).scanner = s.scanner := rfl
@[simp] theorem State.answered_tanks (p : Port) (rc : ReqCode) (g : Byte) (st : Status) (w : Payload) : (s.answered p rc g st w).tanks = s.tanks := rfl
@[simp] theorem State.answered_nozzles (p : Port) (rc : ReqCode) (g : Byte) (st : Status) (w : Payload) : (s.answered p rc g st w).nozzles = s.nozzles := rfl
@[simp] theorem State.answered_ticketCounter (p : Port) (rc : ReqCode) (g : Byte) (st : Status) (w : Payload) : (s.answered p rc g st w).ticketCounter = s.ticketCounter := rfl
@[simp] theorem State.answered_expired (p : Port) (rc : ReqCode) (g : Byte) (st : Status) (w : Payload) : (s.answered p rc g st w).expired = s.expired := rfl
@[simp] theorem State.answered_park (p : Port) (rc : ReqCode) (g : Byte) (st : Status) (w : Payload) : (s.answered p rc g st w).park = s.park := rfl
@[simp] theorem State.answered_journal (p : Port) (rc : ReqCode) (g : Byte) (st : Status) (w : Payload) : (s.answered p rc g st w).journal = s.journal := rfl
@[simp] theorem State.answered_freeIndex (p : Port) (rc : ReqCode) (g : Byte) (st : Status) (w : Payload) : (s.answered p rc g st w).freeIndex = s.freeIndex := rfl
@[simp] theorem State.ctx_answered (p : Port) (rc : ReqCode) (g : Byte) (st : Status) (w : Payload) (m : NozzleId) : (s.answered p rc g st w).ctx m = s.ctx m := rfl
@[simp] theorem State.delivery_answered (p : Port) (rc : ReqCode) (g : Byte) (st : Status) (w : Payload) (m : NozzleId) : (s.answered p rc g st w).delivery m = s.delivery m := rfl
@[simp] theorem State.meter_answered (p : Port) (rc : ReqCode) (g : Byte) (st : Status) (w : Payload) (m : NozzleId) : (s.answered p rc g st w).meter m = s.meter m := rfl
@[simp] theorem State.tank_answered (p : Port) (rc : ReqCode) (g : Byte) (st : Status) (w : Payload) (t : TankId) : (s.answered p rc g st w).tank t = s.tank t := rfl
@[simp] theorem State.line_answered (p : Port) (rc : ReqCode) (g : Byte) (st : Status) (w : Payload) (j : LineId) : (s.answered p rc g st w).line j = s.line j := rfl
@[simp] theorem State.slot_answered (p : Port) (rc : ReqCode) (g : Byte) (st : Status) (w : Payload) (j : ParkId) : (s.answered p rc g st w).slot j = s.slot j := rfl
@[simp] theorem State.channel_answered (p : Port) (rc : ReqCode) (g : Byte) (st : Status) (w : Payload) (c : ChannelId) : (s.answered p rc g st w).channel c = s.channel c := rfl
@[simp] theorem State.nozzleConfig_answered (p : Port) (rc : ReqCode) (g : Byte) (st : Status) (w : Payload) (m : NozzleId) : (s.answered p rc g st w).nozzleConfig m = s.nozzleConfig m := rfl
@[simp] theorem State.tankConfig_answered (p : Port) (rc : ReqCode) (g : Byte) (st : Status) (w : Payload) (t : TankId) : (s.answered p rc g st w).tankConfig t = s.tankConfig t := rfl
@[simp] theorem State.productConfig_answered (p : Port) (rc : ReqCode) (g : Byte) (st : Status) (w : Payload) (i : ProductId) : (s.answered p rc g st w).productConfig i = s.productConfig i := rfl
@[simp] theorem State.classConfig_answered (p : Port) (rc : ReqCode) (g : Byte) (st : Status) (w : Payload) (i : ClassId) : (s.answered p rc g st w).classConfig i = s.classConfig i := rfl
@[simp] theorem State.role_answered (p : Port) (rc : ReqCode) (g : Byte) (st : Status) (w : Payload) (q : Port) : (s.answered p rc g st w).role q = s.role q := rfl
@[simp] theorem State.owner_answered (p : Port) (rc : ReqCode) (g : Byte) (st : Status) (w : Payload) (m : NozzleId) : (s.answered p rc g st w).owner m = s.owner m := rfl
@[simp] theorem State.running_answered (p : Port) (rc : ReqCode) (g : Byte) (st : Status) (w : Payload) : (s.answered p rc g st w).running = s.running := rfl
@[simp] theorem State.ready_answered (p : Port) (rc : ReqCode) (g : Byte) (st : Status) (w : Payload) : (s.answered p rc g st w).ready = s.ready := rfl
@[simp] theorem State.heard_answered (p : Port) (rc : ReqCode) (g : Byte) (st : Status) (w : Payload) : (s.answered p rc g st w).heard = s.heard := rfl
@[simp] theorem State.entry_answered (p : Port) (rc : ReqCode) (g : Byte) (st : Status) (w : Payload) (i : Nat) : (s.answered p rc g st w).entry i = s.entry i := rfl
@[simp] theorem State.enrolled_answered (p : Port) (rc : ReqCode) (g : Byte) (st : Status) (w : Payload) (i : Nat) : (s.answered p rc g st w).enrolled i = s.enrolled i := rfl
@[simp] theorem State.slotState_answered (p : Port) (rc : ReqCode) (g : Byte) (st : Status) (w : Payload) (i : SlotId) : (s.answered p rc g st w).slotState i = s.slotState i := rfl
@[simp] theorem State.lineFor_answered (p : Port) (rc : ReqCode) (g : Byte) (st : Status) (w : Payload) (i : Nat) : (s.answered p rc g st w).lineFor i = s.lineFor i := rfl
@[simp] theorem State.recordAt_answered (p : Port) (rc : ReqCode) (g : Byte) (st : Status) (w : Payload) (j : LineId) : (s.answered p rc g st w).recordAt j = s.recordAt j := rfl
@[simp] theorem State.cached_answered (p : Port) (rc : ReqCode) (g : Byte) (st : Status) (w : Payload) (i : Nat) : (s.answered p rc g st w).cached i = s.cached i := rfl

/-! #### `kept` -/

@[simp] theorem State.kept_pending (p : Port) (g : Byte) (r : WaitingRequest) : (s.kept p g r).pending = s.pending := rfl
@[simp] theorem State.kept_power (p : Port) (g : Byte) (r : WaitingRequest) : (s.kept p g r).power = s.power := rfl
@[simp] theorem State.kept_startUp (p : Port) (g : Byte) (r : WaitingRequest) : (s.kept p g r).startUp = s.startUp := rfl
@[simp] theorem State.kept_clock (p : Port) (g : Byte) (r : WaitingRequest) : (s.kept p g r).clock = s.clock := rfl
@[simp] theorem State.kept_config (p : Port) (g : Byte) (r : WaitingRequest) : (s.kept p g r).config = s.config := rfl
@[simp] theorem State.kept_table (p : Port) (g : Byte) (r : WaitingRequest) : (s.kept p g r).table = s.table := rfl
@[simp] theorem State.kept_meters (p : Port) (g : Byte) (r : WaitingRequest) : (s.kept p g r).meters = s.meters := rfl
@[simp] theorem State.kept_scanner (p : Port) (g : Byte) (r : WaitingRequest) : (s.kept p g r).scanner = s.scanner := rfl
@[simp] theorem State.kept_tanks (p : Port) (g : Byte) (r : WaitingRequest) : (s.kept p g r).tanks = s.tanks := rfl
@[simp] theorem State.kept_nozzles (p : Port) (g : Byte) (r : WaitingRequest) : (s.kept p g r).nozzles = s.nozzles := rfl
@[simp] theorem State.kept_ticketCounter (p : Port) (g : Byte) (r : WaitingRequest) : (s.kept p g r).ticketCounter = s.ticketCounter := rfl
@[simp] theorem State.kept_expired (p : Port) (g : Byte) (r : WaitingRequest) : (s.kept p g r).expired = s.expired := rfl
@[simp] theorem State.kept_park (p : Port) (g : Byte) (r : WaitingRequest) : (s.kept p g r).park = s.park := rfl
@[simp] theorem State.kept_journal (p : Port) (g : Byte) (r : WaitingRequest) : (s.kept p g r).journal = s.journal := rfl
@[simp] theorem State.kept_freeIndex (p : Port) (g : Byte) (r : WaitingRequest) : (s.kept p g r).freeIndex = s.freeIndex := rfl
@[simp] theorem State.ctx_kept (p : Port) (g : Byte) (r : WaitingRequest) (m : NozzleId) : (s.kept p g r).ctx m = s.ctx m := rfl
@[simp] theorem State.delivery_kept (p : Port) (g : Byte) (r : WaitingRequest) (m : NozzleId) : (s.kept p g r).delivery m = s.delivery m := rfl
@[simp] theorem State.meter_kept (p : Port) (g : Byte) (r : WaitingRequest) (m : NozzleId) : (s.kept p g r).meter m = s.meter m := rfl
@[simp] theorem State.tank_kept (p : Port) (g : Byte) (r : WaitingRequest) (t : TankId) : (s.kept p g r).tank t = s.tank t := rfl
@[simp] theorem State.line_kept (p : Port) (g : Byte) (r : WaitingRequest) (j : LineId) : (s.kept p g r).line j = s.line j := rfl
@[simp] theorem State.slot_kept (p : Port) (g : Byte) (r : WaitingRequest) (j : ParkId) : (s.kept p g r).slot j = s.slot j := rfl
@[simp] theorem State.channel_kept (p : Port) (g : Byte) (r : WaitingRequest) (c : ChannelId) : (s.kept p g r).channel c = s.channel c := rfl
@[simp] theorem State.nozzleConfig_kept (p : Port) (g : Byte) (r : WaitingRequest) (m : NozzleId) : (s.kept p g r).nozzleConfig m = s.nozzleConfig m := rfl
@[simp] theorem State.tankConfig_kept (p : Port) (g : Byte) (r : WaitingRequest) (t : TankId) : (s.kept p g r).tankConfig t = s.tankConfig t := rfl
@[simp] theorem State.productConfig_kept (p : Port) (g : Byte) (r : WaitingRequest) (i : ProductId) : (s.kept p g r).productConfig i = s.productConfig i := rfl
@[simp] theorem State.classConfig_kept (p : Port) (g : Byte) (r : WaitingRequest) (i : ClassId) : (s.kept p g r).classConfig i = s.classConfig i := rfl
@[simp] theorem State.role_kept (p : Port) (g : Byte) (r : WaitingRequest) (q : Port) : (s.kept p g r).role q = s.role q := rfl
@[simp] theorem State.owner_kept (p : Port) (g : Byte) (r : WaitingRequest) (m : NozzleId) : (s.kept p g r).owner m = s.owner m := rfl
@[simp] theorem State.running_kept (p : Port) (g : Byte) (r : WaitingRequest) : (s.kept p g r).running = s.running := rfl
@[simp] theorem State.ready_kept (p : Port) (g : Byte) (r : WaitingRequest) : (s.kept p g r).ready = s.ready := rfl
@[simp] theorem State.heard_kept (p : Port) (g : Byte) (r : WaitingRequest) : (s.kept p g r).heard = s.heard := rfl
@[simp] theorem State.entry_kept (p : Port) (g : Byte) (r : WaitingRequest) (i : Nat) : (s.kept p g r).entry i = s.entry i := rfl
@[simp] theorem State.enrolled_kept (p : Port) (g : Byte) (r : WaitingRequest) (i : Nat) : (s.kept p g r).enrolled i = s.enrolled i := rfl
@[simp] theorem State.slotState_kept (p : Port) (g : Byte) (r : WaitingRequest) (i : SlotId) : (s.kept p g r).slotState i = s.slotState i := rfl
@[simp] theorem State.lineFor_kept (p : Port) (g : Byte) (r : WaitingRequest) (i : Nat) : (s.kept p g r).lineFor i = s.lineFor i := rfl
@[simp] theorem State.recordAt_kept (p : Port) (g : Byte) (r : WaitingRequest) (j : LineId) : (s.kept p g r).recordAt j = s.recordAt j := rfl
@[simp] theorem State.cached_kept (p : Port) (g : Byte) (r : WaitingRequest) (i : Nat) : (s.kept p g r).cached i = s.cached i := rfl

/-! #### `takeInHand` -/

@[simp] theorem State.takeInHand_pending (p : Port) (g : Byte) (r : WaitingRequest) : (s.takeInHand p g r).pending = s.pending := rfl
@[simp] theorem State.takeInHand_power (p : Port) (g : Byte) (r : WaitingRequest) : (s.takeInHand p g r).power = s.power := rfl
@[simp] theorem State.takeInHand_startUp (p : Port) (g : Byte) (r : WaitingRequest) : (s.takeInHand p g r).startUp = s.startUp := rfl
@[simp] theorem State.takeInHand_clock (p : Port) (g : Byte) (r : WaitingRequest) : (s.takeInHand p g r).clock = s.clock := rfl
@[simp] theorem State.takeInHand_config (p : Port) (g : Byte) (r : WaitingRequest) : (s.takeInHand p g r).config = s.config := rfl
@[simp] theorem State.takeInHand_table (p : Port) (g : Byte) (r : WaitingRequest) : (s.takeInHand p g r).table = s.table := rfl
@[simp] theorem State.takeInHand_meters (p : Port) (g : Byte) (r : WaitingRequest) : (s.takeInHand p g r).meters = s.meters := rfl
@[simp] theorem State.takeInHand_scanner (p : Port) (g : Byte) (r : WaitingRequest) : (s.takeInHand p g r).scanner = s.scanner := rfl
@[simp] theorem State.takeInHand_tanks (p : Port) (g : Byte) (r : WaitingRequest) : (s.takeInHand p g r).tanks = s.tanks := rfl
@[simp] theorem State.takeInHand_nozzles (p : Port) (g : Byte) (r : WaitingRequest) : (s.takeInHand p g r).nozzles = s.nozzles := rfl
@[simp] theorem State.takeInHand_ticketCounter (p : Port) (g : Byte) (r : WaitingRequest) : (s.takeInHand p g r).ticketCounter = s.ticketCounter := rfl
@[simp] theorem State.takeInHand_expired (p : Port) (g : Byte) (r : WaitingRequest) : (s.takeInHand p g r).expired = s.expired := rfl
@[simp] theorem State.takeInHand_park (p : Port) (g : Byte) (r : WaitingRequest) : (s.takeInHand p g r).park = s.park := rfl
@[simp] theorem State.takeInHand_journal (p : Port) (g : Byte) (r : WaitingRequest) : (s.takeInHand p g r).journal = s.journal := rfl
@[simp] theorem State.takeInHand_freeIndex (p : Port) (g : Byte) (r : WaitingRequest) : (s.takeInHand p g r).freeIndex = s.freeIndex := rfl
@[simp] theorem State.ctx_takeInHand (p : Port) (g : Byte) (r : WaitingRequest) (m : NozzleId) : (s.takeInHand p g r).ctx m = s.ctx m := rfl
@[simp] theorem State.delivery_takeInHand (p : Port) (g : Byte) (r : WaitingRequest) (m : NozzleId) : (s.takeInHand p g r).delivery m = s.delivery m := rfl
@[simp] theorem State.meter_takeInHand (p : Port) (g : Byte) (r : WaitingRequest) (m : NozzleId) : (s.takeInHand p g r).meter m = s.meter m := rfl
@[simp] theorem State.tank_takeInHand (p : Port) (g : Byte) (r : WaitingRequest) (t : TankId) : (s.takeInHand p g r).tank t = s.tank t := rfl
@[simp] theorem State.line_takeInHand (p : Port) (g : Byte) (r : WaitingRequest) (j : LineId) : (s.takeInHand p g r).line j = s.line j := rfl
@[simp] theorem State.slot_takeInHand (p : Port) (g : Byte) (r : WaitingRequest) (j : ParkId) : (s.takeInHand p g r).slot j = s.slot j := rfl
@[simp] theorem State.channel_takeInHand (p : Port) (g : Byte) (r : WaitingRequest) (c : ChannelId) : (s.takeInHand p g r).channel c = s.channel c := rfl
@[simp] theorem State.nozzleConfig_takeInHand (p : Port) (g : Byte) (r : WaitingRequest) (m : NozzleId) : (s.takeInHand p g r).nozzleConfig m = s.nozzleConfig m := rfl
@[simp] theorem State.tankConfig_takeInHand (p : Port) (g : Byte) (r : WaitingRequest) (t : TankId) : (s.takeInHand p g r).tankConfig t = s.tankConfig t := rfl
@[simp] theorem State.productConfig_takeInHand (p : Port) (g : Byte) (r : WaitingRequest) (i : ProductId) : (s.takeInHand p g r).productConfig i = s.productConfig i := rfl
@[simp] theorem State.classConfig_takeInHand (p : Port) (g : Byte) (r : WaitingRequest) (i : ClassId) : (s.takeInHand p g r).classConfig i = s.classConfig i := rfl
@[simp] theorem State.role_takeInHand (p : Port) (g : Byte) (r : WaitingRequest) (q : Port) : (s.takeInHand p g r).role q = s.role q := rfl
@[simp] theorem State.owner_takeInHand (p : Port) (g : Byte) (r : WaitingRequest) (m : NozzleId) : (s.takeInHand p g r).owner m = s.owner m := rfl
@[simp] theorem State.running_takeInHand (p : Port) (g : Byte) (r : WaitingRequest) : (s.takeInHand p g r).running = s.running := rfl
@[simp] theorem State.ready_takeInHand (p : Port) (g : Byte) (r : WaitingRequest) : (s.takeInHand p g r).ready = s.ready := rfl
@[simp] theorem State.heard_takeInHand (p : Port) (g : Byte) (r : WaitingRequest) : (s.takeInHand p g r).heard = s.heard := rfl
@[simp] theorem State.entry_takeInHand (p : Port) (g : Byte) (r : WaitingRequest) (i : Nat) : (s.takeInHand p g r).entry i = s.entry i := rfl
@[simp] theorem State.enrolled_takeInHand (p : Port) (g : Byte) (r : WaitingRequest) (i : Nat) : (s.takeInHand p g r).enrolled i = s.enrolled i := rfl
@[simp] theorem State.slotState_takeInHand (p : Port) (g : Byte) (r : WaitingRequest) (i : SlotId) : (s.takeInHand p g r).slotState i = s.slotState i := rfl
@[simp] theorem State.lineFor_takeInHand (p : Port) (g : Byte) (r : WaitingRequest) (i : Nat) : (s.takeInHand p g r).lineFor i = s.lineFor i := rfl
@[simp] theorem State.recordAt_takeInHand (p : Port) (g : Byte) (r : WaitingRequest) (j : LineId) : (s.takeInHand p g r).recordAt j = s.recordAt j := rfl
@[simp] theorem State.cached_takeInHand (p : Port) (g : Byte) (r : WaitingRequest) (i : Nat) : (s.takeInHand p g r).cached i = s.cached i := rfl

/-! #### `postTo` -/

@[simp] theorem State.postTo_pending (p : Port) (b : NoticeBody) : (s.postTo p b).pending = s.pending := rfl
@[simp] theorem State.postTo_power (p : Port) (b : NoticeBody) : (s.postTo p b).power = s.power := rfl
@[simp] theorem State.postTo_startUp (p : Port) (b : NoticeBody) : (s.postTo p b).startUp = s.startUp := rfl
@[simp] theorem State.postTo_clock (p : Port) (b : NoticeBody) : (s.postTo p b).clock = s.clock := rfl
@[simp] theorem State.postTo_config (p : Port) (b : NoticeBody) : (s.postTo p b).config = s.config := rfl
@[simp] theorem State.postTo_table (p : Port) (b : NoticeBody) : (s.postTo p b).table = s.table := rfl
@[simp] theorem State.postTo_meters (p : Port) (b : NoticeBody) : (s.postTo p b).meters = s.meters := rfl
@[simp] theorem State.postTo_scanner (p : Port) (b : NoticeBody) : (s.postTo p b).scanner = s.scanner := rfl
@[simp] theorem State.postTo_tanks (p : Port) (b : NoticeBody) : (s.postTo p b).tanks = s.tanks := rfl
@[simp] theorem State.postTo_nozzles (p : Port) (b : NoticeBody) : (s.postTo p b).nozzles = s.nozzles := rfl
@[simp] theorem State.postTo_ticketCounter (p : Port) (b : NoticeBody) : (s.postTo p b).ticketCounter = s.ticketCounter := rfl
@[simp] theorem State.postTo_expired (p : Port) (b : NoticeBody) : (s.postTo p b).expired = s.expired := rfl
@[simp] theorem State.postTo_park (p : Port) (b : NoticeBody) : (s.postTo p b).park = s.park := rfl
@[simp] theorem State.postTo_journal (p : Port) (b : NoticeBody) : (s.postTo p b).journal = s.journal := rfl
@[simp] theorem State.postTo_freeIndex (p : Port) (b : NoticeBody) : (s.postTo p b).freeIndex = s.freeIndex := rfl
@[simp] theorem State.ctx_postTo (p : Port) (b : NoticeBody) (m : NozzleId) : (s.postTo p b).ctx m = s.ctx m := rfl
@[simp] theorem State.delivery_postTo (p : Port) (b : NoticeBody) (m : NozzleId) : (s.postTo p b).delivery m = s.delivery m := rfl
@[simp] theorem State.meter_postTo (p : Port) (b : NoticeBody) (m : NozzleId) : (s.postTo p b).meter m = s.meter m := rfl
@[simp] theorem State.tank_postTo (p : Port) (b : NoticeBody) (t : TankId) : (s.postTo p b).tank t = s.tank t := rfl
@[simp] theorem State.line_postTo (p : Port) (b : NoticeBody) (j : LineId) : (s.postTo p b).line j = s.line j := rfl
@[simp] theorem State.slot_postTo (p : Port) (b : NoticeBody) (j : ParkId) : (s.postTo p b).slot j = s.slot j := rfl
@[simp] theorem State.channel_postTo (p : Port) (b : NoticeBody) (c : ChannelId) : (s.postTo p b).channel c = s.channel c := rfl
@[simp] theorem State.nozzleConfig_postTo (p : Port) (b : NoticeBody) (m : NozzleId) : (s.postTo p b).nozzleConfig m = s.nozzleConfig m := rfl
@[simp] theorem State.tankConfig_postTo (p : Port) (b : NoticeBody) (t : TankId) : (s.postTo p b).tankConfig t = s.tankConfig t := rfl
@[simp] theorem State.productConfig_postTo (p : Port) (b : NoticeBody) (i : ProductId) : (s.postTo p b).productConfig i = s.productConfig i := rfl
@[simp] theorem State.classConfig_postTo (p : Port) (b : NoticeBody) (i : ClassId) : (s.postTo p b).classConfig i = s.classConfig i := rfl
@[simp] theorem State.role_postTo (p : Port) (b : NoticeBody) (q : Port) : (s.postTo p b).role q = s.role q := rfl
@[simp] theorem State.owner_postTo (p : Port) (b : NoticeBody) (m : NozzleId) : (s.postTo p b).owner m = s.owner m := rfl
@[simp] theorem State.running_postTo (p : Port) (b : NoticeBody) : (s.postTo p b).running = s.running := rfl
@[simp] theorem State.ready_postTo (p : Port) (b : NoticeBody) : (s.postTo p b).ready = s.ready := rfl
@[simp] theorem State.heard_postTo (p : Port) (b : NoticeBody) : (s.postTo p b).heard = s.heard := rfl
@[simp] theorem State.entry_postTo (p : Port) (b : NoticeBody) (i : Nat) : (s.postTo p b).entry i = s.entry i := rfl
@[simp] theorem State.enrolled_postTo (p : Port) (b : NoticeBody) (i : Nat) : (s.postTo p b).enrolled i = s.enrolled i := rfl
@[simp] theorem State.slotState_postTo (p : Port) (b : NoticeBody) (i : SlotId) : (s.postTo p b).slotState i = s.slotState i := rfl
@[simp] theorem State.lineFor_postTo (p : Port) (b : NoticeBody) (i : Nat) : (s.postTo p b).lineFor i = s.lineFor i := rfl
@[simp] theorem State.recordAt_postTo (p : Port) (b : NoticeBody) (j : LineId) : (s.postTo p b).recordAt j = s.recordAt j := rfl
@[simp] theorem State.cached_postTo (p : Port) (b : NoticeBody) (i : Nat) : (s.postTo p b).cached i = s.cached i := rfl

/-! #### `postAll` -/

@[simp] theorem State.postAll_pending (b : NoticeBody) : (s.postAll b).pending = s.pending := rfl
@[simp] theorem State.postAll_power (b : NoticeBody) : (s.postAll b).power = s.power := rfl
@[simp] theorem State.postAll_startUp (b : NoticeBody) : (s.postAll b).startUp = s.startUp := rfl
@[simp] theorem State.postAll_clock (b : NoticeBody) : (s.postAll b).clock = s.clock := rfl
@[simp] theorem State.postAll_config (b : NoticeBody) : (s.postAll b).config = s.config := rfl
@[simp] theorem State.postAll_table (b : NoticeBody) : (s.postAll b).table = s.table := rfl
@[simp] theorem State.postAll_meters (b : NoticeBody) : (s.postAll b).meters = s.meters := rfl
@[simp] theorem State.postAll_scanner (b : NoticeBody) : (s.postAll b).scanner = s.scanner := rfl
@[simp] theorem State.postAll_tanks (b : NoticeBody) : (s.postAll b).tanks = s.tanks := rfl
@[simp] theorem State.postAll_nozzles (b : NoticeBody) : (s.postAll b).nozzles = s.nozzles := rfl
@[simp] theorem State.postAll_ticketCounter (b : NoticeBody) : (s.postAll b).ticketCounter = s.ticketCounter := rfl
@[simp] theorem State.postAll_expired (b : NoticeBody) : (s.postAll b).expired = s.expired := rfl
@[simp] theorem State.postAll_park (b : NoticeBody) : (s.postAll b).park = s.park := rfl
@[simp] theorem State.postAll_journal (b : NoticeBody) : (s.postAll b).journal = s.journal := rfl
@[simp] theorem State.postAll_freeIndex (b : NoticeBody) : (s.postAll b).freeIndex = s.freeIndex := rfl
@[simp] theorem State.ctx_postAll (b : NoticeBody) (m : NozzleId) : (s.postAll b).ctx m = s.ctx m := rfl
@[simp] theorem State.delivery_postAll (b : NoticeBody) (m : NozzleId) : (s.postAll b).delivery m = s.delivery m := rfl
@[simp] theorem State.meter_postAll (b : NoticeBody) (m : NozzleId) : (s.postAll b).meter m = s.meter m := rfl
@[simp] theorem State.tank_postAll (b : NoticeBody) (t : TankId) : (s.postAll b).tank t = s.tank t := rfl
@[simp] theorem State.line_postAll (b : NoticeBody) (j : LineId) : (s.postAll b).line j = s.line j := rfl
@[simp] theorem State.slot_postAll (b : NoticeBody) (j : ParkId) : (s.postAll b).slot j = s.slot j := rfl
@[simp] theorem State.channel_postAll (b : NoticeBody) (c : ChannelId) : (s.postAll b).channel c = s.channel c := rfl
@[simp] theorem State.nozzleConfig_postAll (b : NoticeBody) (m : NozzleId) : (s.postAll b).nozzleConfig m = s.nozzleConfig m := rfl
@[simp] theorem State.tankConfig_postAll (b : NoticeBody) (t : TankId) : (s.postAll b).tankConfig t = s.tankConfig t := rfl
@[simp] theorem State.productConfig_postAll (b : NoticeBody) (i : ProductId) : (s.postAll b).productConfig i = s.productConfig i := rfl
@[simp] theorem State.classConfig_postAll (b : NoticeBody) (i : ClassId) : (s.postAll b).classConfig i = s.classConfig i := rfl
@[simp] theorem State.role_postAll (b : NoticeBody) (q : Port) : (s.postAll b).role q = s.role q := rfl
@[simp] theorem State.owner_postAll (b : NoticeBody) (m : NozzleId) : (s.postAll b).owner m = s.owner m := rfl
@[simp] theorem State.running_postAll (b : NoticeBody) : (s.postAll b).running = s.running := rfl
@[simp] theorem State.ready_postAll (b : NoticeBody) : (s.postAll b).ready = s.ready := rfl
@[simp] theorem State.heard_postAll (b : NoticeBody) : (s.postAll b).heard = s.heard := rfl
@[simp] theorem State.entry_postAll (b : NoticeBody) (i : Nat) : (s.postAll b).entry i = s.entry i := rfl
@[simp] theorem State.enrolled_postAll (b : NoticeBody) (i : Nat) : (s.postAll b).enrolled i = s.enrolled i := rfl
@[simp] theorem State.slotState_postAll (b : NoticeBody) (i : SlotId) : (s.postAll b).slotState i = s.slotState i := rfl
@[simp] theorem State.lineFor_postAll (b : NoticeBody) (i : Nat) : (s.postAll b).lineFor i = s.lineFor i := rfl
@[simp] theorem State.recordAt_postAll (b : NoticeBody) (j : LineId) : (s.postAll b).recordAt j = s.recordAt j := rfl
@[simp] theorem State.cached_postAll (b : NoticeBody) (i : Nat) : (s.postAll b).cached i = s.cached i := rfl

/-! #### `postRole` -/

@[simp] theorem State.postRole_pending (r : Role) (b : NoticeBody) : (s.postRole r b).pending = s.pending := rfl
@[simp] theorem State.postRole_power (r : Role) (b : NoticeBody) : (s.postRole r b).power = s.power := rfl
@[simp] theorem State.postRole_startUp (r : Role) (b : NoticeBody) : (s.postRole r b).startUp = s.startUp := rfl
@[simp] theorem State.postRole_clock (r : Role) (b : NoticeBody) : (s.postRole r b).clock = s.clock := rfl
@[simp] theorem State.postRole_config (r : Role) (b : NoticeBody) : (s.postRole r b).config = s.config := rfl
@[simp] theorem State.postRole_table (r : Role) (b : NoticeBody) : (s.postRole r b).table = s.table := rfl
@[simp] theorem State.postRole_meters (r : Role) (b : NoticeBody) : (s.postRole r b).meters = s.meters := rfl
@[simp] theorem State.postRole_scanner (r : Role) (b : NoticeBody) : (s.postRole r b).scanner = s.scanner := rfl
@[simp] theorem State.postRole_tanks (r : Role) (b : NoticeBody) : (s.postRole r b).tanks = s.tanks := rfl
@[simp] theorem State.postRole_nozzles (r : Role) (b : NoticeBody) : (s.postRole r b).nozzles = s.nozzles := rfl
@[simp] theorem State.postRole_ticketCounter (r : Role) (b : NoticeBody) : (s.postRole r b).ticketCounter = s.ticketCounter := rfl
@[simp] theorem State.postRole_expired (r : Role) (b : NoticeBody) : (s.postRole r b).expired = s.expired := rfl
@[simp] theorem State.postRole_park (r : Role) (b : NoticeBody) : (s.postRole r b).park = s.park := rfl
@[simp] theorem State.postRole_journal (r : Role) (b : NoticeBody) : (s.postRole r b).journal = s.journal := rfl
@[simp] theorem State.postRole_freeIndex (r : Role) (b : NoticeBody) : (s.postRole r b).freeIndex = s.freeIndex := rfl
@[simp] theorem State.ctx_postRole (r : Role) (b : NoticeBody) (m : NozzleId) : (s.postRole r b).ctx m = s.ctx m := rfl
@[simp] theorem State.delivery_postRole (r : Role) (b : NoticeBody) (m : NozzleId) : (s.postRole r b).delivery m = s.delivery m := rfl
@[simp] theorem State.meter_postRole (r : Role) (b : NoticeBody) (m : NozzleId) : (s.postRole r b).meter m = s.meter m := rfl
@[simp] theorem State.tank_postRole (r : Role) (b : NoticeBody) (t : TankId) : (s.postRole r b).tank t = s.tank t := rfl
@[simp] theorem State.line_postRole (r : Role) (b : NoticeBody) (j : LineId) : (s.postRole r b).line j = s.line j := rfl
@[simp] theorem State.slot_postRole (r : Role) (b : NoticeBody) (j : ParkId) : (s.postRole r b).slot j = s.slot j := rfl
@[simp] theorem State.channel_postRole (r : Role) (b : NoticeBody) (c : ChannelId) : (s.postRole r b).channel c = s.channel c := rfl
@[simp] theorem State.nozzleConfig_postRole (r : Role) (b : NoticeBody) (m : NozzleId) : (s.postRole r b).nozzleConfig m = s.nozzleConfig m := rfl
@[simp] theorem State.tankConfig_postRole (r : Role) (b : NoticeBody) (t : TankId) : (s.postRole r b).tankConfig t = s.tankConfig t := rfl
@[simp] theorem State.productConfig_postRole (r : Role) (b : NoticeBody) (i : ProductId) : (s.postRole r b).productConfig i = s.productConfig i := rfl
@[simp] theorem State.classConfig_postRole (r : Role) (b : NoticeBody) (i : ClassId) : (s.postRole r b).classConfig i = s.classConfig i := rfl
@[simp] theorem State.role_postRole (r : Role) (b : NoticeBody) (q : Port) : (s.postRole r b).role q = s.role q := rfl
@[simp] theorem State.owner_postRole (r : Role) (b : NoticeBody) (m : NozzleId) : (s.postRole r b).owner m = s.owner m := rfl
@[simp] theorem State.running_postRole (r : Role) (b : NoticeBody) : (s.postRole r b).running = s.running := rfl
@[simp] theorem State.ready_postRole (r : Role) (b : NoticeBody) : (s.postRole r b).ready = s.ready := rfl
@[simp] theorem State.heard_postRole (r : Role) (b : NoticeBody) : (s.postRole r b).heard = s.heard := rfl
@[simp] theorem State.entry_postRole (r : Role) (b : NoticeBody) (i : Nat) : (s.postRole r b).entry i = s.entry i := rfl
@[simp] theorem State.enrolled_postRole (r : Role) (b : NoticeBody) (i : Nat) : (s.postRole r b).enrolled i = s.enrolled i := rfl
@[simp] theorem State.slotState_postRole (r : Role) (b : NoticeBody) (i : SlotId) : (s.postRole r b).slotState i = s.slotState i := rfl
@[simp] theorem State.lineFor_postRole (r : Role) (b : NoticeBody) (i : Nat) : (s.postRole r b).lineFor i = s.lineFor i := rfl
@[simp] theorem State.recordAt_postRole (r : Role) (b : NoticeBody) (j : LineId) : (s.postRole r b).recordAt j = s.recordAt j := rfl
@[simp] theorem State.cached_postRole (r : Role) (b : NoticeBody) (i : Nat) : (s.postRole r b).cached i = s.cached i := rfl

/-! #### `postOffice` -/

@[simp] theorem State.postOffice_pending (b : NoticeBody) : (s.postOffice b).pending = s.pending := rfl
@[simp] theorem State.postOffice_power (b : NoticeBody) : (s.postOffice b).power = s.power := rfl
@[simp] theorem State.postOffice_startUp (b : NoticeBody) : (s.postOffice b).startUp = s.startUp := rfl
@[simp] theorem State.postOffice_clock (b : NoticeBody) : (s.postOffice b).clock = s.clock := rfl
@[simp] theorem State.postOffice_config (b : NoticeBody) : (s.postOffice b).config = s.config := rfl
@[simp] theorem State.postOffice_table (b : NoticeBody) : (s.postOffice b).table = s.table := rfl
@[simp] theorem State.postOffice_meters (b : NoticeBody) : (s.postOffice b).meters = s.meters := rfl
@[simp] theorem State.postOffice_scanner (b : NoticeBody) : (s.postOffice b).scanner = s.scanner := rfl
@[simp] theorem State.postOffice_tanks (b : NoticeBody) : (s.postOffice b).tanks = s.tanks := rfl
@[simp] theorem State.postOffice_nozzles (b : NoticeBody) : (s.postOffice b).nozzles = s.nozzles := rfl
@[simp] theorem State.postOffice_ticketCounter (b : NoticeBody) : (s.postOffice b).ticketCounter = s.ticketCounter := rfl
@[simp] theorem State.postOffice_expired (b : NoticeBody) : (s.postOffice b).expired = s.expired := rfl
@[simp] theorem State.postOffice_park (b : NoticeBody) : (s.postOffice b).park = s.park := rfl
@[simp] theorem State.postOffice_journal (b : NoticeBody) : (s.postOffice b).journal = s.journal := rfl
@[simp] theorem State.postOffice_freeIndex (b : NoticeBody) : (s.postOffice b).freeIndex = s.freeIndex := rfl
@[simp] theorem State.ctx_postOffice (b : NoticeBody) (m : NozzleId) : (s.postOffice b).ctx m = s.ctx m := rfl
@[simp] theorem State.delivery_postOffice (b : NoticeBody) (m : NozzleId) : (s.postOffice b).delivery m = s.delivery m := rfl
@[simp] theorem State.meter_postOffice (b : NoticeBody) (m : NozzleId) : (s.postOffice b).meter m = s.meter m := rfl
@[simp] theorem State.tank_postOffice (b : NoticeBody) (t : TankId) : (s.postOffice b).tank t = s.tank t := rfl
@[simp] theorem State.line_postOffice (b : NoticeBody) (j : LineId) : (s.postOffice b).line j = s.line j := rfl
@[simp] theorem State.slot_postOffice (b : NoticeBody) (j : ParkId) : (s.postOffice b).slot j = s.slot j := rfl
@[simp] theorem State.channel_postOffice (b : NoticeBody) (c : ChannelId) : (s.postOffice b).channel c = s.channel c := rfl
@[simp] theorem State.nozzleConfig_postOffice (b : NoticeBody) (m : NozzleId) : (s.postOffice b).nozzleConfig m = s.nozzleConfig m := rfl
@[simp] theorem State.tankConfig_postOffice (b : NoticeBody) (t : TankId) : (s.postOffice b).tankConfig t = s.tankConfig t := rfl
@[simp] theorem State.productConfig_postOffice (b : NoticeBody) (i : ProductId) : (s.postOffice b).productConfig i = s.productConfig i := rfl
@[simp] theorem State.classConfig_postOffice (b : NoticeBody) (i : ClassId) : (s.postOffice b).classConfig i = s.classConfig i := rfl
@[simp] theorem State.role_postOffice (b : NoticeBody) (q : Port) : (s.postOffice b).role q = s.role q := rfl
@[simp] theorem State.owner_postOffice (b : NoticeBody) (m : NozzleId) : (s.postOffice b).owner m = s.owner m := rfl
@[simp] theorem State.running_postOffice (b : NoticeBody) : (s.postOffice b).running = s.running := rfl
@[simp] theorem State.ready_postOffice (b : NoticeBody) : (s.postOffice b).ready = s.ready := rfl
@[simp] theorem State.heard_postOffice (b : NoticeBody) : (s.postOffice b).heard = s.heard := rfl
@[simp] theorem State.entry_postOffice (b : NoticeBody) (i : Nat) : (s.postOffice b).entry i = s.entry i := rfl
@[simp] theorem State.enrolled_postOffice (b : NoticeBody) (i : Nat) : (s.postOffice b).enrolled i = s.enrolled i := rfl
@[simp] theorem State.slotState_postOffice (b : NoticeBody) (i : SlotId) : (s.postOffice b).slotState i = s.slotState i := rfl
@[simp] theorem State.lineFor_postOffice (b : NoticeBody) (i : Nat) : (s.postOffice b).lineFor i = s.lineFor i := rfl
@[simp] theorem State.recordAt_postOffice (b : NoticeBody) (j : LineId) : (s.postOffice b).recordAt j = s.recordAt j := rfl
@[simp] theorem State.cached_postOffice (b : NoticeBody) (i : Nat) : (s.postOffice b).cached i = s.cached i := rfl

/-! #### `postOwner` -/

@[simp] theorem State.postOwner_pending (n : NozzleId) (b : NoticeBody) : (s.postOwner n b).pending = s.pending := rfl
@[simp] theorem State.postOwner_power (n : NozzleId) (b : NoticeBody) : (s.postOwner n b).power = s.power := rfl
@[simp] theorem State.postOwner_startUp (n : NozzleId) (b : NoticeBody) : (s.postOwner n b).startUp = s.startUp := rfl
@[simp] theorem State.postOwner_clock (n : NozzleId) (b : NoticeBody) : (s.postOwner n b).clock = s.clock := rfl
@[simp] theorem State.postOwner_config (n : NozzleId) (b : NoticeBody) : (s.postOwner n b).config = s.config := rfl
@[simp] theorem State.postOwner_table (n : NozzleId) (b : NoticeBody) : (s.postOwner n b).table = s.table := rfl
@[simp] theorem State.postOwner_meters (n : NozzleId) (b : NoticeBody) : (s.postOwner n b).meters = s.meters := rfl
@[simp] theorem State.postOwner_scanner (n : NozzleId) (b : NoticeBody) : (s.postOwner n b).scanner = s.scanner := rfl
@[simp] theorem State.postOwner_tanks (n : NozzleId) (b : NoticeBody) : (s.postOwner n b).tanks = s.tanks := rfl
@[simp] theorem State.postOwner_nozzles (n : NozzleId) (b : NoticeBody) : (s.postOwner n b).nozzles = s.nozzles := rfl
@[simp] theorem State.postOwner_ticketCounter (n : NozzleId) (b : NoticeBody) : (s.postOwner n b).ticketCounter = s.ticketCounter := rfl
@[simp] theorem State.postOwner_expired (n : NozzleId) (b : NoticeBody) : (s.postOwner n b).expired = s.expired := rfl
@[simp] theorem State.postOwner_park (n : NozzleId) (b : NoticeBody) : (s.postOwner n b).park = s.park := rfl
@[simp] theorem State.postOwner_journal (n : NozzleId) (b : NoticeBody) : (s.postOwner n b).journal = s.journal := rfl
@[simp] theorem State.postOwner_freeIndex (n : NozzleId) (b : NoticeBody) : (s.postOwner n b).freeIndex = s.freeIndex := rfl
@[simp] theorem State.ctx_postOwner (n : NozzleId) (b : NoticeBody) (m : NozzleId) : (s.postOwner n b).ctx m = s.ctx m := rfl
@[simp] theorem State.delivery_postOwner (n : NozzleId) (b : NoticeBody) (m : NozzleId) : (s.postOwner n b).delivery m = s.delivery m := rfl
@[simp] theorem State.meter_postOwner (n : NozzleId) (b : NoticeBody) (m : NozzleId) : (s.postOwner n b).meter m = s.meter m := rfl
@[simp] theorem State.tank_postOwner (n : NozzleId) (b : NoticeBody) (t : TankId) : (s.postOwner n b).tank t = s.tank t := rfl
@[simp] theorem State.line_postOwner (n : NozzleId) (b : NoticeBody) (j : LineId) : (s.postOwner n b).line j = s.line j := rfl
@[simp] theorem State.slot_postOwner (n : NozzleId) (b : NoticeBody) (j : ParkId) : (s.postOwner n b).slot j = s.slot j := rfl
@[simp] theorem State.channel_postOwner (n : NozzleId) (b : NoticeBody) (c : ChannelId) : (s.postOwner n b).channel c = s.channel c := rfl
@[simp] theorem State.nozzleConfig_postOwner (n : NozzleId) (b : NoticeBody) (m : NozzleId) : (s.postOwner n b).nozzleConfig m = s.nozzleConfig m := rfl
@[simp] theorem State.tankConfig_postOwner (n : NozzleId) (b : NoticeBody) (t : TankId) : (s.postOwner n b).tankConfig t = s.tankConfig t := rfl
@[simp] theorem State.productConfig_postOwner (n : NozzleId) (b : NoticeBody) (i : ProductId) : (s.postOwner n b).productConfig i = s.productConfig i := rfl
@[simp] theorem State.classConfig_postOwner (n : NozzleId) (b : NoticeBody) (i : ClassId) : (s.postOwner n b).classConfig i = s.classConfig i := rfl
@[simp] theorem State.role_postOwner (n : NozzleId) (b : NoticeBody) (q : Port) : (s.postOwner n b).role q = s.role q := rfl
@[simp] theorem State.owner_postOwner (n : NozzleId) (b : NoticeBody) (m : NozzleId) : (s.postOwner n b).owner m = s.owner m := rfl
@[simp] theorem State.running_postOwner (n : NozzleId) (b : NoticeBody) : (s.postOwner n b).running = s.running := rfl
@[simp] theorem State.ready_postOwner (n : NozzleId) (b : NoticeBody) : (s.postOwner n b).ready = s.ready := rfl
@[simp] theorem State.heard_postOwner (n : NozzleId) (b : NoticeBody) : (s.postOwner n b).heard = s.heard := rfl
@[simp] theorem State.entry_postOwner (n : NozzleId) (b : NoticeBody) (i : Nat) : (s.postOwner n b).entry i = s.entry i := rfl
@[simp] theorem State.enrolled_postOwner (n : NozzleId) (b : NoticeBody) (i : Nat) : (s.postOwner n b).enrolled i = s.enrolled i := rfl
@[simp] theorem State.slotState_postOwner (n : NozzleId) (b : NoticeBody) (i : SlotId) : (s.postOwner n b).slotState i = s.slotState i := rfl
@[simp] theorem State.lineFor_postOwner (n : NozzleId) (b : NoticeBody) (i : Nat) : (s.postOwner n b).lineFor i = s.lineFor i := rfl
@[simp] theorem State.recordAt_postOwner (n : NozzleId) (b : NoticeBody) (j : LineId) : (s.postOwner n b).recordAt j = s.recordAt j := rfl
@[simp] theorem State.cached_postOwner (n : NozzleId) (b : NoticeBody) (i : Nat) : (s.postOwner n b).cached i = s.cached i := rfl

end Sys2Proof.Machine
end

