-- ==== Sys2Proof/Laws/Bytes.lean ====
section
/-! SUPPORT. Laws/Bytes.lean: a body that is read has the length its fields need (R168, R189, R195). -/

namespace Sys2Proof.Machine

/-- Fields read by their widths fill the body: no byte is left over and none is missing. -/
theorem splitFields_length {ws : List Nat} {l : List Byte} {xs : List (List Byte)} (h : splitFields ws l = some xs) :
    l.length = ws.sum := by
  induction ws generalizing l xs with
  | nil => cases l <;> simp_all [splitFields]
  | cons w ws ih =>
    simp only [splitFields] at h
    split at h
    · cases h
    · split at h
      · rename_i hs
        have := ih hs
        simp at this ⊢
        omega
      · cases h

/-- R195: each line of a REBUILD takes 24 bytes, before the bytes left. -/
theorem rebuildLinesFrom_length {n : Nat} {l rest : List Byte} {ls : List RebuildLine}
    (h : rebuildLinesFrom n l = some (ls, rest)) : l.length = 24 * n + rest.length := by
  induction n generalizing l ls rest with
  | zero =>
    simp only [rebuildLinesFrom, Option.some.injEq, Prod.mk.injEq] at h
    rw [h.2]
    omega
  | succ n ih =>
    simp only [rebuildLinesFrom] at h
    split at h
    · rename_i x y h1 h2
      have hr := ih h2
      have h24 : (l.take 24).length = 24 := by
        simp only [rebuildLineFrom] at h1
        split at h1
        · rename_i hs
          simpa using splitFields_length hs
        · cases h1
      simp only [Option.some.injEq, Prod.mk.injEq] at h
      simp at hr h24
      rw [← h.2]
      omega
    · cases h

end Sys2Proof.Machine
end

