-- ==== Sys2Proof/Laws/Reads.lean ====
section
/-! SUPPORT. Laws/Reads.lean: reading a port, context, meter, tank, line or slot back after one of them has been written:
the one written reads as written, every other as before. Writes to one place compose. -/

namespace Sys2Proof.Machine

/-! ### Tables -/

theorem read_write {α : Type} {n : Nat} (v : Tab α n) (i j : Fin n) (x : α) :
    (v.write i x).read j = if j = i then x else v.read j := by
  simp only [Tab.write, Tab.read, Vector.getElem_set, Fin.ext_iff, eq_comm]

theorem read_mapWith {α β : Type} {n : Nat} (f : Fin n → α → β) (v : Tab α n) (i : Fin n) :
    (Tab.mapWith f v).read i = f i (v.read i) := by
  simp [Tab.mapWith, Tab.read]

theorem write_write {α : Type} {n : Nat} (v : Tab α n) (i : Fin n) (x y : α) :
    (v.write i x).write i y = v.write i y := by
  simp [Tab.write]

theorem write_read {α : Type} {n : Nat} (v : Tab α n) (i : Fin n) : v.write i (v.read i) = v := by
  simp [Tab.write, Tab.read]

variable (s : State)

/-! ### One part after a write -/

theorem State.port_modPort (p q : Port) (f : PortState → PortState) :
    (s.modPort p f).port q = if q = p then f (s.port p) else s.port q := read_write ..

theorem State.ctx_modCtx (n m : NozzleId) (f : Context → Context) :
    (s.modCtx n f).ctx m = if m = n then f (s.ctx n) else s.ctx m := read_write ..

theorem State.meter_modMeter (n m : NozzleId) (f : Meter → Meter) :
    (s.modMeter n f).meter m = if m = n then f (s.meter n) else s.meter m := read_write ..

theorem State.tank_modTank (k t : TankId) (f : Tank → Tank) :
    (s.modTank k f).tank t = if t = k then f (s.tank k) else s.tank t := read_write ..

theorem State.line_modLine (l j : LineId) (f : CacheLine → CacheLine) :
    (s.modLine l f).line j = if j = l then f (s.line l) else s.line j := read_write ..

theorem State.slot_setSlot (k j : ParkId) (x : ParkSlot) :
    (s.setSlot k x).slot j = if j = k then x else s.slot j := read_write ..

@[simp] theorem State.port_modPort_self (p : Port) (f : PortState → PortState) :
    (s.modPort p f).port p = f (s.port p) := by rw [State.port_modPort, if_pos rfl]

@[simp] theorem State.ctx_modCtx_self (n : NozzleId) (f : Context → Context) :
    (s.modCtx n f).ctx n = f (s.ctx n) := by rw [State.ctx_modCtx, if_pos rfl]

@[simp] theorem State.meter_modMeter_self (n : NozzleId) (f : Meter → Meter) :
    (s.modMeter n f).meter n = f (s.meter n) := by rw [State.meter_modMeter, if_pos rfl]

@[simp] theorem State.tank_modTank_self (t : TankId) (f : Tank → Tank) :
    (s.modTank t f).tank t = f (s.tank t) := by rw [State.tank_modTank, if_pos rfl]

@[simp] theorem State.line_modLine_self (l : LineId) (f : CacheLine → CacheLine) :
    (s.modLine l f).line l = f (s.line l) := by rw [State.line_modLine, if_pos rfl]

@[simp] theorem State.slot_setSlot_self (k : ParkId) (x : ParkSlot) : (s.setSlot k x).slot k = x := by
  rw [State.slot_setSlot, if_pos rfl]

@[simp] theorem State.delivery_modDelivery_self (n : NozzleId) (f : Delivery → Delivery) (d : Delivery)
    (h : (s.ctx n).delivery = some d) : (s.modDelivery n f).delivery n = f d := by
  simp [State.delivery, State.modDelivery, h]

/-- R172: every port a posting picks enters the notice, every other is as it was. -/
theorem State.port_postWhere (d : Port → Bool) (b : NoticeBody) (q : Port) :
    (s.postWhere d b).port q =
      if d q then enterNotice { time := s.clock.siteTime, body := b } (s.port q) else s.port q :=
  read_mapWith ..

/-! ### Writes to one place compose -/

@[simp] theorem State.modPort_modPort (p : Port) (f g : PortState → PortState) :
    (s.modPort p f).modPort p g = s.modPort p fun x => g (f x) := by
  simp [State.modPort, State.port]

@[simp] theorem State.modCtx_modCtx (n : NozzleId) (f g : Context → Context) :
    (s.modCtx n f).modCtx n g = s.modCtx n fun x => g (f x) := by
  simp [State.modCtx, State.ctx]

@[simp] theorem State.modMeter_modMeter (n : NozzleId) (f g : Meter → Meter) :
    (s.modMeter n f).modMeter n g = s.modMeter n fun x => g (f x) := by
  simp [State.modMeter, State.meter]

@[simp] theorem State.modTank_modTank (t : TankId) (f g : Tank → Tank) :
    (s.modTank t f).modTank t g = s.modTank t fun x => g (f x) := by
  simp [State.modTank, State.tank]

theorem State.modPort_eq_self (p : Port) (f : PortState → PortState) (h : f (s.port p) = s.port p) :
    s.modPort p f = s := by
  show { s with ports := s.ports.write p (f (s.port p)) } = s
  rw [h, State.port, write_read]

theorem State.modPort_congr (p : Port) (f g : PortState → PortState) (h : f (s.port p) = g (s.port p)) :
    s.modPort p f = s.modPort p g := by
  simp only [State.modPort, h]

end Sys2Proof.Machine
end

