-- ==== Sys2Proof/Laws/Sound.lean ====
section
/-! SUPPORT. Laws/Sound.lean: R5's order of the service lines and R140's restricted flag under every change the part makes to
a machine record: one lemma `MachineRecord.Sound.<change>` each. -/

namespace Sys2Proof

open Machine

variable {r : MachineRecord}

theorem restricts_iff (ls : List ServiceLine) :
    restricts ls = true ↔ ∃ l ∈ ls, l.enforcing = true ∧ l.state = .overdue := by
  simp [restricts]

/-- A record with the same lines and flag. -/
theorem MachineRecord.Sound.of_same {r' : MachineRecord} (h : r.Sound) (hl : r'.lines = r.lines)
    (hf : r'.restricted = r.restricted) : r'.Sound := by
  rw [MachineRecord.Sound, hl, hf]
  exact h

/-- A record whose flag has been set from its lines. -/
theorem MachineRecord.Sound.of_lines {ls : List ServiceLine} (h : ls.Pairwise fun a b => a.number < b.number)
    (hn : ∀ l ∈ ls, 1 ≤ l.number ∧ l.number ≤ 4) :
    ({ r with lines := ls, restricted := restricts ls } : MachineRecord).Sound := ⟨h, hn, restricts_iff ls⟩

/-- Lines changed one by one, each keeping its number, stay in order. -/
theorem Pairwise.map_number {ls : List ServiceLine} {f : ServiceLine → ServiceLine} (hf : ∀ l, (f l).number = l.number)
    (h : ls.Pairwise fun a b => a.number < b.number) : (ls.map f).Pairwise fun a b => a.number < b.number := by
  simpa [List.pairwise_map, hf] using h

theorem numbers_map {ls : List ServiceLine} {f : ServiceLine → ServiceLine} (hf : ∀ l, (f l).number = l.number)
    (h : ∀ l ∈ ls, 1 ≤ l.number ∧ l.number ≤ 4) : ∀ l ∈ ls.map f, 1 ≤ l.number ∧ l.number ≤ 4 := by
  simpa [hf] using h

/-- R139, R140: lines evaluated and the flag set. -/
theorem sound_monitored (pick : ServiceLine → Bool) (h : r.lines.Pairwise fun a b => a.number < b.number)
    (hn : ∀ l ∈ r.lines, 1 ≤ l.number ∧ l.number ≤ 4) : (Machine.monitored pick r).Sound :=
  .of_lines (Pairwise.map_number (fun l => by split <;> rfl) h) (numbers_map (fun l => by split <;> rfl) hn)

theorem MachineRecord.Sound.monitored (h : r.Sound) (pick : ServiceLine → Bool) : (Machine.monitored pick r).Sound :=
  sound_monitored pick h.1 h.2.1

theorem MachineRecord.Sound.lazyReset (h : r.Sound) (k : Word32) : (Machine.lazyReset k r).Sound := by
  unfold Machine.lazyReset
  split
  · exact h
  · exact h.of_same rfl rfl

theorem MachineRecord.Sound.patchRecord (h : r.Sound) (q : MachinePatch) : (Machine.patchRecord q r).Sound := h.of_same rfl rfl

theorem MachineRecord.Sound.charged (h : r.Sound) (k : Nat) : (Machine.charged k r).Sound := h.of_same rfl rfl

theorem MachineRecord.Sound.hoursApplied (h : r.Sound) (e now : Word32) (k : Nat) : (Machine.hoursApplied e now k r).Sound := by
  have h' : ({ r with reading := k, stamp := some { epoch := e, time := now } } : MachineRecord).Sound :=
    h.of_same rfl rfl
  unfold Machine.hoursApplied
  dsimp only
  split
  · exact h'
  · exact h'.monitored _

/-- A workshop change of section 8.3 that leaves a sound record sound. -/
def KeepsSound (f : MachineRecord → Status ⊕ MachineRecord) : Prop :=
  ∀ r r' : MachineRecord, r.Sound → f r = .inr r' → r'.Sound

theorem keepsSound_meterChanged (a b : Nat) : KeepsSound (meterChanged a b) := by
  intro r r' h hf
  unfold meterChanged at hf
  split at hf
  · cases hf
  · cases hf
    have h' : ({ r with reading := b, offset := r.offset + a - b, stamp := none } : MachineRecord).Sound :=
      h.of_same rfl rfl
    split
    · exact h'
    · exact h'.monitored _

theorem keepsSound_serviceDone (n k : Nat) : KeepsSound (serviceDone n k) := by
  intro r r' h hf
  unfold serviceDone at hf
  split at hf
  · cases hf
  · split at hf <;> cases hf
    exact sound_monitored _ (Pairwise.map_number (fun l => by split <;> rfl) h.1)
      (numbers_map (fun l => by split <;> rfl) h.2.1)

theorem keepsSound_waived (n k : Nat) : KeepsSound (waived n k) := by
  intro r r' h hf
  unfold waived at hf
  split at hf
  · cases hf
  · split at hf <;> cases hf
    exact sound_monitored _ (Pairwise.map_number (fun l => by split <;> rfl) h.1)
      (numbers_map (fun l => by split <;> rfl) h.2.1)

theorem keepsSound_lineRemoved (n : Nat) : KeepsSound (lineRemoved n) := by
  intro r r' h hf
  unfold lineRemoved at hf
  split at hf <;> cases hf
  exact .of_lines (h.1.sublist List.filter_sublist) fun l hl => h.2.1 l (List.mem_of_mem_filter hl)

theorem mem_placeLine {x y : ServiceLine} {ls : List ServiceLine} (h : y ∈ placeLine x ls) : y = x ∨ y ∈ ls := by
  induction ls with
  | nil => simpa [placeLine] using h
  | cons z zs ih =>
    unfold placeLine at h
    split at h
    · simpa using h
    · split at h
      · rcases List.mem_cons.1 h with h | h
        · exact .inl h
        · exact .inr (List.mem_cons_of_mem _ h)
      · rcases List.mem_cons.1 h with h | h
        · exact .inr (h ▸ List.mem_cons_self)
        · exact (ih h).imp_right (List.mem_cons_of_mem _)

/-- R5: a line put at its place keeps the order. -/
theorem pairwise_placeLine {x : ServiceLine} {ls : List ServiceLine} (h : ls.Pairwise fun a b => a.number < b.number) :
    (placeLine x ls).Pairwise fun a b => a.number < b.number := by
  induction ls with
  | nil => simp [placeLine]
  | cons z zs ih =>
    obtain ⟨hz, hs⟩ := List.pairwise_cons.1 h
    unfold placeLine
    split
    · next hx =>
      refine List.pairwise_cons.2 ⟨fun a ha => ?_, h⟩
      rcases List.mem_cons.1 ha with rfl | ha
      · exact hx
      · exact hx.trans (hz a ha)
    · split
      · next hx => exact List.pairwise_cons.2 ⟨fun a ha => hx ▸ hz a ha, hs⟩
      · next hlt hne =>
        refine List.pairwise_cons.2 ⟨fun a ha => ?_, ih hs⟩
        rcases mem_placeLine ha with rfl | ha
        · omega
        · exact hz a ha

theorem keepsSound_lineSet {l : ServiceLine} (hl : 1 ≤ l.number ∧ l.number ≤ 4) : KeepsSound (lineSet l) := by
  intro r r' h hf
  unfold lineSet at hf
  split at hf <;> cases hf
  refine sound_monitored _ (pairwise_placeLine h.1) fun y hy => ?_
  rcases mem_placeLine hy with rfl | hy
  · exact hl
  · exact h.2.1 y hy

/-- R5: a line read from figures has a number 1 to 4. -/
theorem lineOf_number {a b c d e f g : Nat} {w : Option Nat} {l : ServiceLine} (h : lineOf a b c d e f g w = some l) :
    1 ≤ l.number ∧ l.number ≤ 4 := by
  unfold lineOf at h
  split at h
  · split at h
    · next hr => cases h; exact ⟨hr.1, hr.2.1⟩
    · cases h
  · cases h

theorem setLineOf_number {f : LineFields} {l : ServiceLine} (h : setLineOf f = some l) :
    1 ≤ l.number ∧ l.number ≤ 4 := lineOf_number h

/-- R21: the lines of a REBUILD stand in number order. -/
theorem rebuildLines_sound {l : List RebuildLine} {ls : List ServiceLine} (h : rebuildLines l = some ls) :
    (ls.Pairwise fun a b => a.number < b.number) ∧ ∀ x ∈ ls, 1 ≤ x.number ∧ x.number ≤ 4 := by
  induction l generalizing ls with
  | nil => cases h; simp
  | cons a as ih =>
    unfold rebuildLines at h
    split at h
    · next x xs hx hxs =>
      split at h <;> cases h
      obtain ⟨h1, h2⟩ := ih hxs
      refine ⟨pairwise_placeLine h1, fun y hy => ?_⟩
      rcases mem_placeLine hy with rfl | hy
      · exact lineOf_number hx
      · exact h2 y hy
    · cases h

theorem sound_rebuilt (k : Word32) (f : RebuildFields) : (Machine.monitored (fun _ => true) (rebuiltRecord k f)).Sound := by
  have h : ((rebuiltRecord k f).lines.Pairwise fun a b => a.number < b.number)
      ∧ ∀ x ∈ (rebuiltRecord k f).lines, 1 ≤ x.number ∧ x.number ≤ 4 := by
    show (((rebuildLines f.lines).getD []).Pairwise fun a b => a.number < b.number)
      ∧ ∀ x ∈ (rebuildLines f.lines).getD [], 1 ≤ x.number ∧ x.number ≤ 4
    cases hl : rebuildLines f.lines with
    | none => simp
    | some ls => exact rebuildLines_sound hl
  exact sound_monitored _ h.1 h.2

theorem sound_enrolled (s : State) (f : EnrolFields) : (enrolledRecord s f).Sound := by
  simp [enrolledRecord, MachineRecord.Sound]

end Sys2Proof
end

