-- ==== Sys2Proof/Laws/Moves.lean ====
section
/-! SUPPORT. Laws/Moves.lean: everything an event can do to the journal and to a port's notice queue, as two small step
relations, and the relation `Within` between a state and what the blocks of deliveries, tanks and records make of it. Each
operation of those blocks has one lemma here; later proofs cite it in place of unfolding the operation. -/

namespace Sys2Proof.Machine

/-! ### What can become of the journal and of a notice queue -/

/-- R157 to R165: an append, a reservation, a release of the head, a cold start. -/
inductive JournalStep : Journal → Journal → Prop
  | append (j : Journal) (e : JournalEntry) (h : e.seq = j.nextSeq) :
      JournalStep j { entries := j.entries ++ [e], reservations := j.reservations - 1, nextSeq := j.nextSeq + 1 }
  | reserve (j : Journal) : JournalStep j { j with reservations := j.reservations + 1 }
  | release (j : Journal) : JournalStep j j.dropHead
  | cold (j : Journal) : JournalStep j coldJournal

/-- R172, R173, R177, R178: a notice entered, the oldest taken, the queue emptied; or something else of the port. -/
inductive PortStep : PortState → PortState → Prop
  | enter (n : Notice) (x : PortState) : PortStep x (enterNotice n x)
  | take (x : PortState) : PortStep x (takeNotice x)
  | emptied (x y : PortState) (h : y.notices = []) (hl : y.lost = false) : PortStep x y
  | other (x y : PortState) (h : y.notices = x.notices) (hl : y.lost = x.lost) : PortStep x y

/-- The commands waiting are left alone; the journal and the ports move by their steps; and sound records in the cache
(R5, R140) stay sound, where `fed` holds, which stands for what is known of the record that a FETCH brings. -/
structure Moves (fed : Prop) (s t : State) : Prop where
  pending : t.pending = s.pending
  journal : Relation.ReflTransGen JournalStep s.journal t.journal
  port : ∀ q, Relation.ReflTransGen PortStep (s.port q) (t.port q)
  records : fed → s.RecordsSound → t.RecordsSound

/-- What the blocks of deliveries, tanks and records make of a state: they leave the power, start-up, the clock, the
configuration, the scanner and the ticket counter alone. -/
structure Within (fed : Prop) (s t : State) : Prop extends Moves fed s t where
  power : t.power = s.power
  startUp : t.startUp = s.startUp
  clock : t.clock = s.clock
  config : t.config = s.config
  scanner : t.scanner = s.scanner
  ticketCounter : t.ticketCounter = s.ticketCounter

variable {fed : Prop}

/-- R5, R140: the same cache lines hold the same records. -/
theorem sound_of_lines {s t : State} (h : t.table.lines = s.table.lines) (hs : s.RecordsSound) : t.RecordsSound := by
  simpa only [State.RecordsSound, State.line, h] using hs

theorem Moves.refl (s : State) : Moves fed s s := ⟨rfl, .refl, fun _ => .refl, fun _ h => h⟩

theorem Moves.trans {s t u : State} (h : Moves fed s t) (k : Moves fed t u) : Moves fed s u :=
  ⟨k.pending.trans h.pending, h.journal.trans k.journal, fun q => (h.port q).trans (k.port q),
   fun g hs => k.records g (h.records g hs)⟩

theorem Within.refl (s : State) : Within fed s s := ⟨.refl s, rfl, rfl, rfl, rfl, rfl, rfl⟩

theorem Within.trans {s t u : State} (h : Within fed s t) (k : Within fed t u) : Within fed s u :=
  ⟨h.toMoves.trans k.toMoves, k.power.trans h.power, k.startUp.trans h.startUp, k.clock.trans h.clock,
   k.config.trans h.config, k.scanner.trans h.scanner, k.ticketCounter.trans h.ticketCounter⟩

/-- A state that differs at most in its table, meters, tanks, contexts, expired list, park table and free index. -/
theorem Within.of_same {s t : State} (hp : t.pending = s.pending) (hj : t.journal = s.journal)
    (hq : t.ports = s.ports) (h1 : t.power = s.power) (h2 : t.startUp = s.startUp) (h3 : t.clock = s.clock)
    (h4 : t.config = s.config) (h5 : t.scanner = s.scanner) (h6 : t.ticketCounter = s.ticketCounter)
    (hr : fed → s.RecordsSound → t.RecordsSound) : Within fed s t :=
  ⟨⟨hp, hj ▸ .refl, fun q => by simp only [State.port, hq]; exact .refl, hr⟩, h1, h2, h3, h4, h5, h6⟩

/-- A state that differs only in its ports, each of which has moved. -/
theorem Within.of_ports {s t : State} (h : t = { s with ports := t.ports })
    (hq : ∀ q, Relation.ReflTransGen PortStep (s.port q) (t.port q)) : Within fed s t := by
  have g : ∀ {α : Type} (f : State → α), (∀ p, f { s with ports := p } = f s) → f t = f s :=
    fun f hf => by rw [h]; exact hf _
  exact ⟨⟨g _ fun _ => rfl, by rw [g (fun x => x.journal) fun _ => rfl], hq,
    fun _ => sound_of_lines (g (fun x => x.table.lines) fun _ => rfl)⟩, g _ fun _ => rfl, g _ fun _ => rfl,
    g _ fun _ => rfl, g _ fun _ => rfl, g _ fun _ => rfl, g _ fun _ => rfl⟩

/-- A state that differs only in its machine table. -/
theorem Within.of_table {s t : State} (h : t = { s with table := t.table })
    (hr : fed → s.RecordsSound → t.RecordsSound) : Within fed s t := by
  have g : ∀ {α : Type} (f : State → α), (∀ x, f { s with table := x } = f s) → f t = f s :=
    fun f hf => by rw [h]; exact hf _
  exact .of_same (g _ fun _ => rfl) (g _ fun _ => rfl) (g _ fun _ => rfl) (g _ fun _ => rfl) (g _ fun _ => rfl)
    (g _ fun _ => rfl) (g _ fun _ => rfl) (g _ fun _ => rfl) (g _ fun _ => rfl) hr

/-- Commands in a row: what each one does, all of them do. -/
theorem Within.foldl {α : Type} {s t : State} {f : State → α → State} (hf : ∀ x a, Within fed x (f x a)) (l : List α)
    (h : Within fed s t) : Within fed s (l.foldl f t) := by
  induction l generalizing t with
  | nil => exact h
  | cons a l ih => exact ih (h.trans (hf t a))

theorem Moves.foldl {α : Type} {s t : State} {f : State → α → State} (hf : ∀ x a, Moves fed x (f x a)) (l : List α)
    (h : Moves fed s t) : Moves fed s (l.foldl f t) := by
  induction l generalizing t with
  | nil => exact h
  | cons a l ih => exact ih (h.trans (hf t a))

/-! ### The updates -/

variable {fed : Prop} {o s : State}

theorem Within.modPort (h : Within fed o s) (p : Port) (f : PortState → PortState)
    (hf : PortStep (s.port p) (f (s.port p))) : Within fed o (s.modPort p f) := by
  refine h.trans (Within.of_ports rfl fun q => ?_)
  rw [State.port_modPort]
  split
  · next e => subst e; exact .single hf
  · exact .refl

theorem Within.modCtx (h : Within fed o s) (n : NozzleId) (f : Context → Context) : Within fed o (s.modCtx n f) :=
  h.trans (.of_same rfl rfl rfl rfl rfl rfl rfl rfl rfl fun _ => sound_of_lines rfl)

theorem Within.modDelivery (h : Within fed o s) (n : NozzleId) (f : Delivery → Delivery) : Within fed o (s.modDelivery n f) :=
  h.modCtx ..

theorem Within.modMeter (h : Within fed o s) (n : NozzleId) (f : Meter → Meter) : Within fed o (s.modMeter n f) :=
  h.trans (.of_same rfl rfl rfl rfl rfl rfl rfl rfl rfl fun _ => sound_of_lines rfl)

theorem Within.modTank (h : Within fed o s) (t : TankId) (f : Tank → Tank) : Within fed o (s.modTank t f) :=
  h.trans (.of_same rfl rfl rfl rfl rfl rfl rfl rfl rfl fun _ => sound_of_lines rfl)

theorem Within.modTable (h : Within fed o s) (f : MachineTable → MachineTable)
    (hf : (f s.table).lines = s.table.lines) : Within fed o (s.modTable f) :=
  h.trans (.of_same rfl rfl rfl rfl rfl rfl rfl rfl rfl fun _ => sound_of_lines hf)

/-- A line changed holds the record it held, or none, or a sound one. -/
theorem Within.modLine (h : Within fed o s) (l : LineId) (f : CacheLine → CacheLine)
    (hf : fed → s.RecordsSound → ∀ r, (f (s.line l)).content.record = some r → (s.line l).content.record = some r ∨ r.Sound) : Within fed o (s.modLine l f) := by
  refine h.trans (.of_same rfl rfl rfl rfl rfl rfl rfl rfl rfl fun g hs j st k r hj => ?_)
  rw [State.line_modLine] at hj
  split at hj
  · rcases hf g hs r (by rw [hj]; rfl) with h1 | h1
    · match hc : (s.line l).content with
      | .held st' k' r' =>
        rw [hc] at h1
        cases h1
        exact hs _ _ _ _ hc
      | .fetching _ _ => rw [hc] at h1; cases h1
      | .empty => rw [hc] at h1; cases h1
    · exact h1
  · exact hs _ _ _ _ hj

theorem Within.setSlot (h : Within fed o s) (k : ParkId) (x : ParkSlot) : Within fed o (s.setSlot k x) :=
  h.trans (.of_same rfl rfl rfl rfl rfl rfl rfl rfl rfl fun _ => sound_of_lines rfl)

theorem Within.expired (h : Within fed o s) (l : List Nat) : Within fed o { s with expired := l } :=
  h.trans (.of_same rfl rfl rfl rfl rfl rfl rfl rfl rfl fun _ => sound_of_lines rfl)

theorem Within.freeIndex (h : Within fed o s) (k : Nat) : Within fed o { s with freeIndex := k } :=
  h.trans (.of_same rfl rfl rfl rfl rfl rfl rfl rfl rfl fun _ => sound_of_lines rfl)

theorem Within.postWhere (h : Within fed o s) (d : Port → Bool) (b : NoticeBody) : Within fed o (s.postWhere d b) := by
  refine h.trans (Within.of_ports rfl fun q => ?_)
  rw [State.port_postWhere]
  split
  · exact .single (.enter ..)
  · exact .refl

theorem Within.postTo (h : Within fed o s) (p : Port) (b : NoticeBody) : Within fed o (s.postTo p b) := h.postWhere ..
theorem Within.postAll (h : Within fed o s) (b : NoticeBody) : Within fed o (s.postAll b) := h.postWhere ..
theorem Within.postRole (h : Within fed o s) (r : Role) (b : NoticeBody) : Within fed o (s.postRole r b) := h.postWhere ..
theorem Within.postOffice (h : Within fed o s) (b : NoticeBody) : Within fed o (s.postOffice b) := h.postWhere ..
theorem Within.postOwner (h : Within fed o s) (n : NozzleId) (b : NoticeBody) : Within fed o (s.postOwner n b) :=
  h.postWhere ..

theorem Within.postOffices (h : Within fed o s) (l : List NoticeBody) : Within fed o (s.postOffices l) :=
  h.foldl (fun x b => (Within.refl x).postOffice b) l

theorem Within.respond (h : Within fed o s) (p : Port) (r : Response) : Within fed o (s.respond p r) :=
  h.modPort _ _ (.other _ _ rfl rfl)

theorem Within.reply (h : Within fed o s) (p : Port) (c : ReqCode) (tag : Byte) (st : Status) (f : Payload) :
    Within fed o (s.reply p c tag st f) := h.respond ..

theorem Within.takeInHand (h : Within fed o s) (p : Port) (tag : Byte) (r : WaitingRequest) :
    Within fed o (s.takeInHand p tag r) := h.modPort _ _ (.other _ _ rfl rfl)

theorem Within.idleAssembler (h : Within fed o s) (p : Port) : Within fed o (s.idleAssembler p) :=
  h.modPort _ _ (.other _ _ rfl rfl)

theorem Within.answer (h : Within fed o s) (p : Port) (st : Status) (f : Payload) : Within fed o (s.answer p st f) := by
  unfold State.answer
  split
  · exact h
  · exact (h.modPort _ _ (.other _ _ rfl rfl)).respond ..

theorem Within.refuseFrame (h : Within fed o s) (p : Port) (c tag : Byte) (st : Status) :
    Within fed o (s.refuseFrame p c tag st) := h.respond ..

theorem Within.badField (h : Within fed o s) (p : Port) (c : ReqCode) (tag : Byte) : Within fed o (s.badField p c tag) :=
  h.reply ..

theorem Within.addFault (h : Within fed o s) (n : NozzleId) (f : PendingFault) : Within fed o (s.addFault n f) :=
  h.modDelivery ..

/-! ### The machine table's own operations -/

theorem Within.setSlotState (h : Within fed o s) (k : SlotId) (x : SlotState) : Within fed o (s.setSlotState k x) :=
  h.modTable _ rfl
theorem Within.markEntry (h : Within fed o s) (f : Nat) (b : Bool) : Within fed o (s.markEntry f b) := h.modTable _ rfl
theorem Within.touch (h : Within fed o s) (l : LineId) : Within fed o (s.touch l) := h.modTable _ rfl
theorem Within.enqueue (h : Within fed o s) (op : StoreOp) : Within fed o (s.enqueue op) := h.modTable _ rfl
theorem Within.emptyOut (h : Within fed o s) (l : LineId) : Within fed o (s.emptyOut l) :=
  h.modLine _ _ fun _ _ _ e => by cases e
theorem Within.setPin (h : Within fed o s) (l : LineId) (b : Bool) : Within fed o (s.setPin l b) :=
  h.modLine _ _ fun _ _ _ e => .inl e
theorem Within.waitForLine (h : Within fed o s) (f : Nat) (w : Requester) : Within fed o (s.waitForLine f w) := h.modTable _ rfl
/-- R8: a requester withdrawn changes no line's content. -/
theorem content_withdrawRequester (w : Requester) (l : LineId) :
    ((s.withdrawRequester w).line l).content = (s.line l).content := by
  simp only [State.withdrawRequester, State.line, State.modTable, read_mapWith]

theorem Within.withdrawRequester (h : Within fed o s) (w : Requester) : Within fed o (s.withdrawRequester w) := by
  have hr (hs : s.RecordsSound) : (s.withdrawRequester w).RecordsSound := by
    intro l st k r hl
    rw [content_withdrawRequester] at hl
    exact hs l st k r hl
  generalize ht : s.withdrawRequester w = t at hr ⊢
  exact h.trans (.of_table (by subst ht; rfl) fun _ => hr)
theorem Within.popWait (h : Within fed o s) (f : Nat) : Within fed o (s.popWait f) := h.modTable _ rfl
theorem Within.storeOk (h : Within fed o s) : Within fed o s.storeOk := h.modTable _ rfl
theorem Within.storeBad (h : Within fed o s) : Within fed o s.storeBad := h.modTable _ rfl
theorem Within.landed (h : Within fed o s) : Within fed o s.landed := h.modTable _ rfl
theorem Within.erased (h : Within fed o s) (k : SlotId) : Within fed o (s.erased k) := (h.setSlotState ..).modTable _ rfl

theorem Within.beginFetch (h : Within fed o s) (l : LineId) (f : Nat) (k : SlotId) (w : List Requester) :
    Within fed o (s.beginFetch l f k w) := (h.modLine _ _ fun _ _ _ e => by cases e).enqueue ..

theorem Within.putRecord (h : Within fed o s) (l : LineId) (k : SlotId) (r : MachineRecord)
    (hr : fed → s.RecordsSound → r.Sound) : Within fed o (s.putRecord l k r) := by
  have hl (st : HeldState) (q : Bool) : Within fed o (s.modLine l fun x =>
      { x with content := .held st k r, writeQueued := q }) :=
    h.modLine _ _ fun g hs _ e => by cases e; exact .inr (hr g hs)
  unfold State.putRecord
  dsimp only
  split
  · exact (hl _ _).touch ..
  · exact ((hl _ _).enqueue ..).touch ..

theorem Within.changeRecord (h : Within fed o s) (l : LineId) (f : MachineRecord → MachineRecord)
    (hf : ∀ r : MachineRecord, r.Sound → (f r).Sound) : Within fed o (s.changeRecord l f) := by
  unfold State.changeRecord
  split
  · next hc => exact h.putRecord _ _ _ fun _ hs => hf _ ((hs _ _ _ _ hc).lazyReset _)
  all_goals exact h

theorem Within.requestRecord (h : Within fed o s) (f : Nat) (w : Requester) : Within fed o (s.requestRecord f w).1 := by
  unfold State.requestRecord
  repeat' split
  all_goals dsimp only
  all_goals first
    | exact h | exact h.touch _ | exact h.modLine _ _ fun _ _ _ e => .inl e | exact h.beginFetch _ _ _ _ | exact h.waitForLine _ _

theorem Within.queueConfigWrite (h : Within fed o s) : Within fed o s.queueConfigWrite := by
  unfold State.queueConfigWrite
  split
  · exact h
  · exact h.enqueue ..

theorem Within.coverRequests (h : Within fed o s) : Within fed o (coverRequests s) := by
  refine h.trans (Within.of_ports rfl fun q => .single (.other _ _ ?_ ?_)) <;>
    simp only [State.port, Machine.coverRequests, read_mapWith]

theorem Within.launch (h : Within fed o s) (op : StoreOp) (rest : List StoreOp) : Within fed o (s.launch op rest) := by
  unfold State.launch
  dsimp only
  split
  · split
    · next hc => exact (h.modLine _ _ fun _ _ _ e => .inl (by rw [hc]; exact e)).modTable _ rfl
    all_goals exact h.modTable _ rfl
  all_goals first | exact h.modTable _ rfl | exact h.coverRequests.modTable _ rfl

theorem Within.startStore (h : Within fed o s) : Within fed o s.startStore := by
  unfold State.startStore
  split <;> first | exact h.launch .. | exact h

/-! ### Meters, pumps and the RUN -/

theorem Within.bindMeter (h : Within fed o s) (n : NozzleId) : Within fed o (s.bindMeter n) := h.modMeter ..
theorem Within.releaseMeter (h : Within fed o s) (n : NozzleId) : Within fed o (s.releaseMeter n) := h.modMeter ..
theorem Within.abandonProving (h : Within fed o s) (n : NozzleId) : Within fed o (s.abandonProving n) := h.modMeter ..
theorem Within.faultMeter (h : Within fed o s) (n : NozzleId) (c : MeterCause) : Within fed o (s.faultMeter n c) :=
  (h.modMeter ..).postOwner ..
theorem Within.setPump (h : Within fed o s) (t : TankId) (x : PumpState) (k : Option Nat) : Within fed o (s.setPump t x k) :=
  h.modTank ..

theorem Within.runOnPump (h : Within fed o s) (t : TankId) : Within fed o (s.runOnPump t) := by
  unfold State.runOnPump
  dsimp only
  split <;> exact h.setPump ..

theorem Within.leftDemand (h : Within fed o s) (n : NozzleId) : Within fed o (s.leftDemand n) := by
  unfold State.leftDemand
  dsimp only
  split
  · exact h.runOnPump ..
  · exact h

theorem Within.enterHeld (h : Within fed o s) (n : NozzleId) (c : HoldCause) : Within fed o (s.enterHeld n c) :=
  (h.modCtx ..).postOwner ..

theorem Within.heldByFault (h : Within fed o s) (n : NozzleId) (f : PendingFault) (c : HoldCause) :
    Within fed o (s.heldByFault n f c) := (h.addFault ..).enterHeld ..

theorem Within.postRunEnded (h : Within fed o s) (n : NozzleId) (r : RunEnd) : Within fed o (s.postRunEnded n r) :=
  h.postOwner ..

theorem Within.stopFlow (h : Within fed o s) (n : NozzleId) (r : RunEnd) : Within fed o (s.stopFlow n r) :=
  (((h.modCtx ..).abandonProving ..).leftDemand ..).postRunEnded ..

theorem Within.quitPriming (h : Within fed o s) (n : NozzleId) (r : RunEnd) : Within fed o (s.quitPriming n r) :=
  ((h.modCtx ..).leftDemand ..).postRunEnded ..

theorem Within.stageTest (h : Within fed o s) (n : NozzleId) : Within fed o (s.stageTest n) := by
  unfold State.stageTest
  dsimp only
  split
  · exact h.stopFlow ..
  · split
    · exact h.modCtx ..
    · exact h

theorem Within.enterFlow (h : Within fed o s) (n : NozzleId) : Within fed o (s.enterFlow n) := (h.modCtx ..).stageTest ..

theorem Within.enterProving (h : Within fed o s) (n : NozzleId) : Within fed o (s.enterProving n) := (h.modCtx ..).modMeter ..

theorem Within.toldRunning (h : Within fed o s) (n : NozzleId) : Within fed o (s.toldRunning n) := by
  unfold State.toldRunning
  split
  · exact h.enterFlow ..
  · exact h.enterProving ..

theorem Within.joinDemand (h : Within fed o s) (n : NozzleId) : Within fed o (s.joinDemand n) := by
  unfold State.joinDemand
  dsimp only
  repeat' split
  all_goals first
    | exact h | exact h.setPump .. | exact h.toldRunning .. | exact (h.setPump ..).toldRunning ..
    | exact (h.quitPriming ..).heldByFault ..

theorem Within.beginRun (h : Within fed o s) (n : NozzleId) : Within fed o (s.beginRun n) := by
  unfold State.beginRun
  dsimp only
  split
  · exact ((h.modCtx ..).postRunEnded ..).heldByFault ..
  · exact (((h.modCtx ..).modMeter ..).modCtx ..).joinDemand ..

theorem Within.creepReaches (h : Within fed o s) (n : NozzleId) : Within fed o (s.creepReaches n) := by
  unfold State.creepReaches
  repeat' split
  all_goals first | exact h | exact h.addFault .. | exact (h.quitPriming ..).heldByFault ..

theorem Within.strayPulse (h : Within fed o s) (n : NozzleId) : Within fed o (s.strayPulse n) := by
  unfold State.strayPulse
  dsimp only
  split
  · exact ((h.modMeter ..).faultMeter ..).creepReaches ..
  · exact h.modMeter ..

/-! ### Tanks -/

theorem Within.evaluateTier (h : Within fed o s) (t : TankId) : Within fed o (s.evaluateTier t) := by
  unfold State.evaluateTier
  dsimp only
  split
  · exact h
  · exact (h.modTank ..).postAll ..

theorem Within.endLow (h : Within fed o s) (n : NozzleId) : Within fed o (s.endLow n) := by
  unfold State.endLow
  split
  · exact (h.quitPriming ..).heldByFault ..
  · exact h.stopFlow ..
  · exact h.stopFlow ..
  · exact h.stopFlow ..
  all_goals exact h

theorem Within.endLows (h : Within fed o s) (l : List NozzleId) : Within fed o (l.foldl State.endLow s) :=
  Within.foldl (fun x n => (Within.refl x).endLow n) l h

theorem Within.evaluateLow (h : Within fed o s) (t : TankId) : Within fed o (s.evaluateLow t) := by
  unfold State.evaluateLow
  dsimp only
  split
  · split
    · exact h
    · split
      · exact (h.setPump t .heldLow none).endLows _
      · exact h.setPump ..
  · split
    · exact h.setPump ..
    · exact h

theorem Within.evaluateTank (h : Within fed o s) (t : TankId) : Within fed o (s.evaluateTank t) := by
  unfold State.evaluateTank
  split
  · exact (h.evaluateTier ..).evaluateLow ..
  · exact h

theorem Within.gaugeTank (h : Within fed o s) (t : TankId) : Within fed o (s.gaugeTank t) := by
  unfold State.gaugeTank
  dsimp only
  split
  · exact (h.modTank ..).evaluateTank ..
  · exact h

theorem Within.chargeTank (h : Within fed o s) (t : TankId) (k : Nat) : Within fed o (s.chargeTank t k) :=
  (h.modTank ..).evaluateTank ..

theorem Within.cancelReceipt (h : Within fed o s) (t : TankId) : Within fed o (s.cancelReceipt t) := by
  unfold State.cancelReceipt
  split
  · exact h
  · exact (h.modTank ..).postOffice ..

theorem Within.reconcileTank (h : Within fed o s) (w : Occasion) (t : TankId) : Within fed o (s.reconcileTank w t) := by
  unfold State.reconcileTank
  dsimp only
  split <;> first | exact h | exact h.postOffice .. | exact ((h.modTank ..).postOffice ..).evaluateTank ..

theorem Within.reconcileAll (h : Within fed o s) (w : Occasion) : Within fed o (s.reconcileAll w) :=
  h.foldl (fun x t => (Within.refl x).reconcileTank w t) _

/-! ### Finishing -/

theorem Within.postLevel (h : Within fed o s) (k : LevelKind) : Within fed o (s.postLevel k) := h.postOffice ..

/-- R159: an append is one step of the journal. -/
theorem Within.append (h : Within fed o s) (e : JournalEntry) (he : e.seq = s.journal.nextSeq) :
    Within fed o (s.append e) := by
  have h1 : Within fed s { s with journal :=
      { entries := s.journal.entries ++ [e], reservations := s.journal.reservations - 1,
        nextSeq := s.journal.nextSeq + 1 } } :=
    ⟨⟨rfl, .single (.append _ e he), fun _ => .refl, fun _ => sound_of_lines rfl⟩, rfl, rfl, rfl, rfl, rfl, rfl⟩
  unfold State.append
  dsimp only
  split
  · exact (h.trans h1).postLevel ..
  · exact h.trans h1

theorem Within.evaluateFuel (h : Within fed o s) (l : LineId) (r : Option MachineRecord) :
    Within fed o (s.evaluateFuel l r) := by
  unfold State.evaluateFuel
  dsimp only
  have h1 := h.changeRecord l (monitored (ofBasis .fuel)) fun _ hr => hr.monitored _
  split
  · exact h1.postOffices ..
  · exact h1

theorem Within.handOn (h : Within fed o s) (d : Delivery) (w : DeliveryOutcome) : Within fed o (s.handOn d w) := by
  unfold State.handOn
  dsimp only
  split
  · exact h.append _ rfl
  · exact ((((h.append _ rfl).changeRecord _ _ (by exact fun _ e => e.of_same rfl rfl)).chargeTank ..).evaluateFuel ..).setPin ..

theorem Within.finishNozzle (h : Within fed o s) (n : NozzleId) (w : DeliveryOutcome) : Within fed o (s.finishNozzle n w) :=
  (((h.modCtx ..).releaseMeter ..).handOn ..).postOwner ..

theorem Within.finishParked (h : Within fed o s) (k : ParkId) (p : Parked) (w : DeliveryOutcome) :
    Within fed o (s.finishParked k p w) := by
  unfold State.finishParked
  dsimp only
  split
  · exact (((h.setSlot ..).handOn ..).postTo ..).postTo ..
  · exact ((h.setSlot ..).handOn ..).postTo ..

theorem Within.finishRefused (h : Within fed o s) (n : NozzleId) (r : Reason) : Within fed o (s.finishRefused n r) :=
  (h.modDelivery ..).finishNozzle ..

/-! ### Authorisation -/

theorem Within.authorise (h : Within fed o s) (n : NozzleId) (g a : Nat) (f : Factor) (r first : Bool) :
    Within fed o (s.authorise n g a f r first) := (h.modDelivery ..).postOwner ..

theorem Within.refuseAuth (h : Within fed o s) (n : NozzleId) (r : Reason) (first : Bool) :
    Within fed o (s.refuseAuth n r first) := by
  unfold State.refuseAuth
  dsimp only
  split
  · exact (h.modDelivery ..).finishRefused ..
  · exact ((h.modDelivery ..).postOwner ..).enterHeld ..

theorem Within.awaitGrant (h : Within fed o s) (n : NozzleId) (w : WaitTerms) : Within fed o (s.awaitGrant n w) :=
  ((h.modCtx ..).expired ..).postRole ..

theorem Within.authStep (h : Within fed o s) (n : NozzleId) (q : Requested) : Within fed o (s.authStep n q).1 := by
  have h0 : Within fed o (if (s.delivery n).firstAuth then s.modDelivery n (fun d => { d with requested := some q })
      else s) := by
    split
    · exact h.modDelivery ..
    · exact h
  unfold State.authStep
  dsimp only
  generalize (if (s.delivery n).firstAuth then s.modDelivery n (fun d => { d with requested := some q }) else s) = x
    at h0 ⊢
  repeat' split
  all_goals first | exact h0 | exact h0.awaitGrant .. | exact h0.authorise ..

theorem Within.postClosed (h : Within fed o s) (n : NozzleId) (w : GrantOutcome) (l : Option Nat) (r : Option Reason) :
    Within fed o (s.postClosed n w l r) := h.postRole ..

theorem Within.cancelWait (h : Within fed o s) (n : NozzleId) (w : GrantOutcome) : Within fed o (s.cancelWait n w) :=
  (h.modCtx ..).postClosed ..

/-! ### Step lists -/

theorem Within.identified (h : Within fed o s) (n : NozzleId) (l : LineId) : Within fed o (s.identified n l) :=
  ((((h.setPin ..).changeRecord _ _ (by exact fun _ e => e.of_same rfl rfl)).modDelivery ..).bindMeter ..).postOwner ..

theorem Within.identTest (h : Within fed o s) (n : NozzleId) (l : LineId) : Within fed o (s.identTest n l).1 := by
  unfold State.identTest
  repeat' split
  all_goals first | exact h.finishRefused .. | exact h.identified ..

theorem Within.runFrom (h : Within fed o s) (n : NozzleId) (k : Nat) (l : List Step) : Within fed o (s.runFrom n k l) := by
  induction l generalizing s k with
  | nil => exact h.enterHeld ..
  | cons x xs ih =>
    unfold State.runFrom
    dsimp only
    split
    · split
      · split
        · exact ih ((((h.modCtx ..).modDelivery ..).requestRecord ..).identTest ..) _
        · exact (((h.modCtx ..).modDelivery ..).requestRecord ..).identTest ..
      · exact (((h.modCtx ..).modDelivery ..).requestRecord ..).modCtx ..
      · exact (((h.modCtx ..).modDelivery ..).requestRecord ..).finishRefused ..
    · split
      · exact ih ((h.modCtx ..).authStep ..) _
      · exact (h.modCtx ..).authStep ..
      · exact ((h.modCtx ..).authStep ..).refuseAuth ..
    · exact (h.modCtx ..).beginRun ..
    · exact (h.modCtx ..).enterHeld ..
    · exact (h.modCtx ..).finishNozzle ..

theorem Within.runRest (h : Within fed o s) (n : NozzleId) : Within fed o (s.runRest n) := h.runFrom ..
theorem Within.runAll (h : Within fed o s) (n : NozzleId) : Within fed o (s.runAll n) := h.runFrom ..

theorem Within.identGiven (h : Within fed o s) (n : NozzleId) (l : LineId) : Within fed o (s.identGiven n l) := by
  unfold State.identGiven
  dsimp only
  split
  · exact (h.identTest ..).runRest ..
  · exact h.identTest ..

theorem Within.goOn (h : Within fed o s) (n : NozzleId) (r : RunEnd) : Within fed o (s.goOn n r) := by
  unfold State.goOn
  split <;> first
    | exact h.runRest .. | exact (h.addFault ..).runRest .. | exact h.heldByFault .. | exact h.finishNozzle ..

/-! ### Pulses -/

theorem Within.legPulse (h : Within fed o s) (n : NozzleId) : Within fed o (s.legPulse n) := by
  unfold State.legPulse
  dsimp only
  repeat' split
  all_goals first
    | exact ((h.modMeter ..).modDelivery ..).postOwner .. | exact (h.modMeter ..).modDelivery ..

theorem Within.creepPulse (h : Within fed o s) (n : NozzleId) : Within fed o (s.creepPulse n) := by
  unfold State.creepPulse
  dsimp only
  split
  · exact h.modMeter ..
  · exact (h.modMeter ..).freeIndex ..

theorem Within.countedPulse (h : Within fed o s) (n : NozzleId) : Within fed o (s.countedPulse n) := by
  unfold State.countedPulse
  dsimp only
  split
  · split
    · exact (h.faultMeter ..).modCtx ..
    · exact (h.faultMeter ..).stopFlow ..
  · split <;> first
      | exact (h.legPulse ..).creepPulse .. | exact ((h.legPulse ..).modCtx ..).stageTest ..
      | exact (h.legPulse ..).modCtx .. | exact h.legPulse ..

theorem Within.pulse (h : Within fed o s) (n : NozzleId) : Within fed o (s.pulse n) := by
  unfold State.pulse
  repeat' split
  all_goals first | exact h | exact h.strayPulse .. | exact h.countedPulse ..

/-! ### Parking and resumption -/

theorem Within.unreserve (h : Within fed o s) (n : NozzleId) : Within fed o (s.unreserve n) := by
  unfold State.unreserve
  split
  · exact h.setSlot ..
  · exact h

theorem Within.moveToPark (h : Within fed o s) (n : NozzleId) (k : ParkId) (r : ParkReason) :
    Within fed o (s.moveToPark n k r) := (((h.setSlot ..).modCtx ..).releaseMeter ..).postTo ..

theorem Within.addEndFault (h : Within fed o s) (n : NozzleId) : Within fed o (s.addEndFault n) := by
  unfold State.addEndFault
  split <;> first | exact h | exact h.addFault ..

theorem Within.drainSettled (h : Within fed o s) (n : NozzleId) : Within fed o (s.drainSettled n) := by
  unfold State.drainSettled
  dsimp only
  split
  · exact (h.modCtx ..).finishNozzle ..
  · split
    · exact ((h.modCtx ..).addEndFault ..).moveToPark ..
    · exact h.modCtx ..
  · exact ((h.modCtx ..).modCtx ..).goOn ..

theorem Within.recap (h : Within fed o s) (n : NozzleId) (t : TankId) : Within fed o (s.recap n t) := by
  unfold State.recap
  dsimp only
  repeat' split
  all_goals first | exact h | exact h.modDelivery ..

theorem Within.takeUp (h : Within fed o s) (k : ParkId) (p : Parked) (n : NozzleId) : Within fed o (s.takeUp k p n) :=
  (((h.setSlot ..).modCtx ..).bindMeter ..).recap ..

theorem Within.replay (h : Within fed o s) (n left : NozzleId) : Within fed o (s.replay n left) :=
  ((h.foldl (fun x _ => (Within.refl x).postOwner ..) _).modDelivery ..).postOwner ..

theorem Within.resumeState (h : Within fed o s) (n : NozzleId) (w : Bool) : Within fed o (s.resumeState n w) := by
  unfold State.resumeState
  split <;> first | exact h.awaitGrant .. | exact h.enterHeld ..

theorem Within.resumeAt (h : Within fed o s) (k : ParkId) (p : Parked) (n : NozzleId) : Within fed o (s.resumeAt k p n) :=
  ((h.takeUp ..).replay ..).resumeState ..

end Sys2Proof.Machine
end

