-- ==== Sys2Proof/Laws/RecordMoves.lean ====
section
/-! SUPPORT. Laws/RecordMoves.lean: what the machine table unit makes of the journal and of the notice queues: one
`Within` lemma for each operation of Machine/Records.lean. -/

namespace Sys2Proof.Machine

variable {fed : Prop} {o s : State}

theorem Within.refuse (h : Within fed o s) (w : RecordRefusal) (who : Requester) : Within fed o (s.refuse w who) := by
  unfold State.refuse
  split
  · exact h.answer ..
  · exact h.finishRefused ..

theorem Within.refuseAll (h : Within fed o s) (w : RecordRefusal) (l : List Requester) :
    Within fed o (l.foldl (State.refuse w) s) :=
  Within.foldl (f := State.refuse w) (fun x a => (Within.refl x).refuse w a) l h

theorem Within.serveRead (h : Within fed o s) (p : Port) (k : SlotId) (r : MachineRecord) :
    Within fed o (s.serveRead p k r) := h.answer ..

theorem Within.serveSet (h : Within fed o s) (p : Port) (l : LineId) (r : MachineRecord) (q : MachinePatch) :
    Within fed o (s.serveSet p l r q) := by
  unfold State.serveSet
  split
  · exact h.answer ..
  · exact (h.changeRecord _ _ (by exact fun _ e => e.of_same rfl rfl)).answer ..

theorem Within.serveState (h : Within fed o s) (p : Port) (l : LineId) (r : MachineRecord) (b : Bool) :
    Within fed o (s.serveState p l r b) := by
  unfold State.serveState
  split
  · exact h.answer ..
  · exact (h.changeRecord _ _ (by exact fun _ e => e.of_same rfl rfl)).answer ..

theorem Within.postJump (h : Within fed o s) (p : Port) (r : MachineRecord) (a b : Nat) (c : Option (Nat × Nat)) :
    Within fed o (s.postJump p r a b c) := by
  unfold State.postJump
  split
  · exact h
  · exact h.postOffice ..

theorem Within.serveHours (h : Within fed o s) (p : Port) (l : LineId) (r : MachineRecord) (k : Nat) :
    Within fed o (s.serveHours p l r k) := by
  unfold State.serveHours
  split
  · exact h.answer ..
  · exact (h.postOffice ..).answer ..
  · next v c _ =>
    have h1 := (h.postJump p r k v c).changeRecord l (hoursApplied s.config.time.epoch s.clock.siteTime v)
      fun _ hr => hr.hoursApplied ..
    dsimp only
    split
    · exact h1
    · exact (h1.postOffices ..).answer ..

theorem Within.serveService (h : Within fed o s) (p : Port) (l : LineId) (r : MachineRecord) (k : Nat) (c : ServiceCause)
    (f : MachineRecord → Status ⊕ MachineRecord) (hf : KeepsSound f) : Within fed o (s.serveService p l r k c f) := by
  unfold State.serveService
  split
  · exact h.answer ..
  · have h1 := h.changeRecord l (fun x => match f x with
      | .inl _ => x
      | .inr y => y) fun x hx => by
        split
        · exact hx
        · next e => exact hf _ _ hx e
    dsimp only
    split
    · exact h1
    · exact (h1.postOffices ..).answer ..

theorem Within.rebuildInto (h : Within fed o s) (p : Port) (l : LineId) (k : SlotId) (f : RebuildFields)
    (old : Option MachineRecord) : Within fed o (s.rebuildInto p l k f old) :=
  (((h.markEntry ..).putRecord _ _ _ fun _ _ => sound_rebuilt ..).postOffices ..).answer ..

theorem Within.tryRebuild (h : Within fed o s) (p : Port) (f : RebuildFields) : Within fed o (s.tryRebuild p f) := by
  unfold State.tryRebuild
  split
  · exact h.answer ..
  · split
    · exact h.answer ..
    · split
      · exact h.answer ..
      · split
        · split
          · split
            · exact h.answer ..
            · exact h.rebuildInto ..
          · exact h.modLine _ _ fun _ _ _ e => .inl e
          · exact h
        · split
          · exact (h.emptyOut ..).rebuildInto ..
          · exact h.waitForLine ..

theorem Within.enrolInto (h : Within fed o s) (p : Port) (l : LineId) (k : SlotId) (f : EnrolFields) :
    Within fed o (s.enrolInto p l k f) :=
  ((((h.setSlotState ..).modTable _ (by rfl)).emptyOut ..).putRecord _ _ _ fun _ _ => sound_enrolled ..).answer ..

theorem Within.tryEnrol (h : Within fed o s) (p : Port) (f : EnrolFields) : Within fed o (s.tryEnrol p f) := by
  unfold State.tryEnrol
  split
  · exact h.answer ..
  · split
    · exact h.answer ..
    · split
      · exact h.answer ..
      · split
        · exact h.enrolInto ..
        · exact h.waitForLine ..

theorem Within.serve (h : Within fed o s) (p : Port) (l : LineId) : Within fed o (s.serve p l) := by
  unfold State.serve
  split
  · split
    · exact h.serveRead ..
    · exact h.serveSet ..
    · exact h.serveState ..
    · exact h.serveState ..
    · exact h.serveHours ..
    · exact h.serveService _ _ _ _ _ _ (keepsSound_meterChanged _ _)
    · exact h.serveService _ _ _ _ _ _ (keepsSound_serviceDone _ _)
    · exact h.serveService _ _ _ _ _ _ (keepsSound_waived _ _)
    · split
      · next e => exact h.serveService _ _ _ _ _ _ (keepsSound_lineSet (setLineOf_number e))
      · exact h.answer ..
    · exact h.serveService _ _ _ _ _ _ (keepsSound_lineRemoved _)
    · exact h.tryRebuild ..
    · exact h.tryEnrol ..
    · exact h
    · exact h
  all_goals exact h

theorem Within.askFor (h : Within fed o s) (p : Port) (f : Nat) : Within fed o (s.askFor p f) := by
  unfold State.askFor
  dsimp only
  split
  · exact (h.requestRecord ..).serve ..
  · exact h.requestRecord ..
  · exact (h.requestRecord ..).refuse ..

theorem Within.dealWith (h : Within fed o s) (f : Nat) (who : Requester) : Within fed o (State.dealWith f s who) := by
  unfold State.dealWith
  split
  · split
    · exact h.tryEnrol ..
    · exact h.tryRebuild ..
    · exact h.askFor ..
    · exact h
  · dsimp only
    split
    · exact (h.requestRecord ..).identGiven ..
    · exact h.requestRecord ..
    · exact (h.requestRecord ..).refuse ..

theorem Within.dealWithAll (h : Within fed o s) (f : Nat) (l : List Requester) :
    Within fed o (l.foldl (State.dealWith f) s) :=
  Within.foldl (f := State.dealWith f) (fun x a => (Within.refl x).dealWith f a) l h

theorem Within.cameIntoLine (h : Within fed o s) (f : Nat) : Within fed o (s.cameIntoLine f) := by
  unfold State.cameIntoLine
  split
  · exact (h.popWait ..).dealWithAll ..
  · exact h

theorem Within.serviceLines (h : Within fed o s) (k : Nat) : Within fed o (serviceLines k s) := by
  induction k generalizing s with
  | zero => exact h
  | succ k ih =>
    unfold Machine.serviceLines
    split
    · exact ih ((h.popWait ..).dealWithAll ..)
    all_goals exact h

theorem Within.lineFreed (h : Within fed o s) : Within fed o s.lineFreed := h.serviceLines _

theorem Within.discardLine (h : Within fed o s) (l : LineId) : Within fed o (s.discardLine l) :=
  ((h.modTable _ (by rfl)).emptyOut ..).refuseAll ..

theorem Within.withdraw (h : Within fed o s) (p : Port) (f : Nat) (k : SlotId) : Within fed o (s.withdraw p f k) := by
  unfold State.withdraw
  dsimp only
  split
  · exact (((((h.setSlotState ..).discardLine ..).popWait ..).refuseAll ..).lineFreed).enqueue ..
  · exact ((((h.setSlotState ..).popWait ..).refuseAll ..).lineFreed).enqueue ..

theorem Within.tryWithdraw (h : Within fed o s) (p : Port) (f : Nat) : Within fed o (s.tryWithdraw p f) := by
  unfold State.tryWithdraw
  split
  · exact h.answer ..
  · split
    · exact h.answer ..
    · split
      · exact h.answer ..
      · exact h.withdraw ..

theorem Within.abandonErase (h : Within fed o s) (k : SlotId) (a : Option Port) : Within fed o (s.abandonErase k a) := by
  unfold State.abandonErase
  dsimp only
  split
  · exact (h.setSlotState ..).answer ..
  · exact h.setSlotState ..

theorem Within.dropErase (h : Within fed o s) (op : StoreOp) : Within fed o (s.dropErase op) := by
  unfold State.dropErase
  split
  · exact h.abandonErase ..
  all_goals exact h

theorem Within.answerConfig (h : Within fed o s) (st : Status) (b : Bool) (p : Port) :
    Within fed o (State.answerConfig st b s p) := by
  unfold State.answerConfig
  split
  · split
    · exact h.answer ..
    · exact h
  · exact h

theorem Within.answerConfigs (h : Within fed o s) (st : Status) (b : Bool) (l : List Port) :
    Within fed o (l.foldl (State.answerConfig st b) s) :=
  Within.foldl (f := State.answerConfig st b) (fun x a => (Within.refl x).answerConfig st b a) l h

theorem Within.emptyOuts (h : Within fed o s) (l : List LineId) : Within fed o (l.foldl State.emptyOut s) :=
  Within.foldl (f := State.emptyOut) (fun x a => (Within.refl x).emptyOut a) l h

theorem Within.dropErases (h : Within fed o s) (l : List StoreOp) : Within fed o (l.foldl State.dropErase s) :=
  Within.foldl (f := State.dropErase) (fun x a => (Within.refl x).dropErase a) l h

theorem Within.enterFaulted (h : Within fed o s) : Within fed o s.enterFaulted :=
  (((((h.modTable _ (by rfl)).emptyOuts ..).refuseAll ..).dropErases ..).answerConfigs ..).postAll ..

theorem Within.checkFailures (h : Within fed o s) : Within fed o s.checkFailures := by
  unfold State.checkFailures
  split
  · exact h.enterFaulted
  · exact h

theorem Within.dropStaleTicket (h : Within fed o s) (l : LineId) (r : MachineRecord) :
    Within fed o (s.dropStaleTicket l r) := by
  unfold State.dropStaleTicket
  split
  · exact h
  · split
    · exact h
    · exact h.changeRecord _ _ fun _ e => e.of_same rfl rfl

/-- R13: the record a FETCH brings, sound where it is known to be. -/
theorem Within.fetched (h : Within fed o s) (l : LineId) (k : SlotId) (r : MachineRecord) (hr : fed → r.Sound) :
    Within fed o (s.fetched l k r) :=
  ((((h.modLine _ _ fun g _ _ e => by cases e; exact .inr (hr g)).dropStaleTicket ..).touch ..).dealWithAll ..).lineFreed

theorem acceptedRecord_eq {f : Nat} {res : FetchResult} {r : MachineRecord} (h : acceptedRecord f res = some r) :
    res = .record r := by
  unfold acceptedRecord at h
  split at h
  · split at h <;> cases h
    rfl
  all_goals cases h

theorem Within.failWaiter (h : Within fed o s) (w : RecordRefusal) (f : Nat) (who : Requester) :
    Within fed o (State.failWaiter w f s who) := by
  unfold State.failWaiter
  split
  · exact h.dealWith ..
  · exact h.refuse ..

theorem Within.failWaiters (h : Within fed o s) (w : RecordRefusal) (f : Nat) (l : List Requester) :
    Within fed o (l.foldl (State.failWaiter w f) s) :=
  Within.foldl (f := State.failWaiter w f) (fun x a => (Within.refl x).failWaiter w f a) l h

theorem Within.fetchFailed (h : Within fed o s) (l : LineId) (f : Nat) (k : SlotId) (a b : Bool) :
    Within fed o (s.fetchFailed l f k a b) := by
  have hm : Within fed o (if a && b then s.markEntry f true else s) := by
    split
    · exact h.markEntry ..
    · exact h
  unfold State.fetchFailed
  dsimp only
  split
  · exact ((hm.emptyOut ..).refuseAll ..).enterFaulted
  · split
    · exact ((hm.emptyOut ..).failWaiters ..).lineFreed
    · exact h.modTable _ rfl

theorem Within.endFetch (h : Within fed o s) (x : InFlight) (l : LineId) (k : SlotId) (a : Bool) (res : FetchResult)
    (hr : fed → ∀ r, res = .record r → r.Sound) : Within fed o (s.endFetch x l k a res) := by
  unfold State.endFetch
  dsimp only
  split
  · split
    · exact h.landed.storeOk
    · exact h.landed.storeBad.checkFailures
  · split
    · split
      · next e => exact h.landed.storeOk.fetched _ _ _ fun g => hr g _ (acceptedRecord_eq e)
      · exact h.landed.storeBad.fetchFailed ..
    · exact h.landed
    · exact h.landed

theorem Within.writeAgain (h : Within fed o s) (l : LineId) (k : SlotId) : Within fed o (s.writeAgain l k) := by
  unfold State.writeAgain
  split
  · next _ _ k' r hc =>
    have h1 := h.modLine l (fun x => { x with content := .held .dirty k' r, writeQueued := true })
      fun _ _ _ e => .inl (by rw [hc]; exact e)
    dsimp only
    split
    · exact h1
    · exact h1.enqueue ..
  · exact h
  · exact h

theorem Within.written (h : Within fed o s) (l : LineId) : Within fed o (s.written l) := by
  unfold State.written
  split
  · next hc => exact h.modLine _ _ fun _ _ _ e => .inl (by rw [hc]; exact e)
  · exact h
  · exact h

theorem Within.endWrite (h : Within fed o s) (x : InFlight) (l : LineId) (k : SlotId) (ok : Bool) :
    Within fed o (s.endWrite x l k ok) := by
  unfold State.endWrite
  dsimp only
  split
  · split
    · exact h.landed.storeOk
    · exact (h.landed.storeOk.written ..).lineFreed
  · split
    · exact h.landed.storeBad.checkFailures
    · exact (h.landed.storeBad.writeAgain ..).checkFailures

theorem Within.endErase (h : Within fed o s) (k : SlotId) (a : Option Port) (ok : Bool) : Within fed o (s.endErase k a ok) := by
  unfold State.endErase
  dsimp only
  split
  · split
    · exact (h.landed.storeOk.erased ..).answer ..
    · exact h.landed.storeOk.erased ..
  · split
    · exact (h.landed.storeBad.abandonErase ..).enterFaulted
    · split
      · exact h.landed.storeBad.enqueue ..
      · exact h.landed.storeBad.setSlotState ..

theorem Within.endConfigWrite (h : Within fed o s) (ok : Bool) : Within fed o (s.endConfigWrite ok) := by
  unfold State.endConfigWrite
  dsimp only
  split
  · exact h.landed.storeOk.answerConfigs ..
  · exact h.landed.storeBad.queueConfigWrite.checkFailures

end Sys2Proof.Machine
end

