-- ==== Sys2Proof/Laws/EventMoves.lean ====
section
/-! SUPPORT. Laws/EventMoves.lean: what start-up, each request and each event make of the journal, the notice queues and the
commands waiting, and from them the one law of a whole command (`exec_moves`): everything a command does to the journal
and to a port's notices is a run of the steps of Laws/Moves.lean, and it leaves the queue of commands alone. -/

namespace Sys2Proof.Machine

variable {fed : Prop} {o s : State}

/-- A move followed by what the blocks do. -/
theorem Moves.by {t : State} (h : Moves fed o s) (f : Within fed s s → Within fed s t) : Moves fed o t :=
  h.trans (f (.refl s)).toMoves

/-- The same, read from its end. -/
theorem Moves.after {x t : State} (f : Within fed x x → Within fed x t) (h : Moves fed o x) : Moves fed o t := h.by f

theorem Moves.of_same {s t : State} (hp : t.pending = s.pending) (hj : t.journal = s.journal)
    (hq : t.ports = s.ports) (hl : t.table.lines = s.table.lines) : Moves fed s t :=
  ⟨hp, hj ▸ .refl, fun q => by simp only [State.port, hq]; exact .refl, fun _ => sound_of_lines hl⟩

theorem Moves.of_ports {s t : State} (hp : t.pending = s.pending) (hj : t.journal = s.journal)
    (hq : ∀ q, PortStep (s.port q) (t.port q)) (hl : t.table.lines = s.table.lines) : Moves fed s t :=
  ⟨hp, hj ▸ .refl, fun q => .single (hq q), fun _ => sound_of_lines hl⟩

/-! ### Start-up -/

theorem Moves.setStage (h : Moves fed o s) (x : Stage) : Moves fed o (s.setStage x) := h.trans (.of_same rfl rfl rfl rfl)

theorem Within.takeBaud (h : Within fed o s) (p : Port) : Within fed o (s.takeBaud p) := by
  refine h.modPort _ _ (.other _ _ ?_ ?_) <;> split <;> rfl

theorem Moves.takeBauds (h : Moves fed o s) (l : List Port) : Moves fed o (l.foldl State.takeBaud s) :=
  h.by (Within.foldl (f := State.takeBaud) (fun x a => (Within.refl x).takeBaud a) l)

theorem Moves.evaluateTanks (h : Moves fed o s) (l : List TankId) : Moves fed o (l.foldl State.evaluateTank s) :=
  h.by (Within.foldl (f := State.evaluateTank) (fun x a => (Within.refl x).evaluateTank a) l)

theorem Moves.advanceEpoch (h : Moves fed o s) : Moves fed o s.advanceEpoch := h.trans (.of_same rfl rfl rfl rfl)

theorem Moves.configLoaded (h : Moves fed o s) (c : Configuration) (g : Bool) : Moves fed o (s.configLoaded c g) := by
  unfold State.configLoaded
  extract_lets _ _ s1 s2 s3
  have h1 : Moves fed o s1 := h.trans (.of_same rfl rfl rfl rfl)
  have h2 : Moves fed o s2 := (h1.takeBauds _).evaluateTanks _
  have h3 : Moves fed o s3 := by
    clear_value s2
    unfold s3
    split
    · exact h2.advanceEpoch.by fun w => w.queueConfigWrite
    · exact h2
  exact h3.setStage _

theorem Moves.landed (h : Moves fed o s) : Moves fed o s.landed := h.by fun w => w.landed
theorem Moves.storeOk (h : Moves fed o s) : Moves fed o s.storeOk := h.by fun w => w.storeOk
theorem Moves.storeBad (h : Moves fed o s) : Moves fed o s.storeBad := h.by fun w => w.storeBad
theorem Moves.enqueue (h : Moves fed o s) (op : StoreOp) : Moves fed o (s.enqueue op) := h.by fun w => w.enqueue op

theorem Moves.endConfigRead (h : Moves fed o s) (a : Bool) (res : ConfigResult) : Moves fed o (s.endConfigRead a res) := by
  unfold State.endConfigRead
  dsimp only
  split
  · exact h.landed.storeOk.configLoaded ..
  · split
    · exact h.landed.storeBad.configLoaded ..
    · exact h.landed.storeBad.enqueue _
  · split
    · exact h.landed.storeBad.configLoaded ..
    · exact h.landed.storeBad.enqueue _

theorem Within.applyFleet (h : Within fed o s) (k : SlotId) (n : Nat) : Within fed o (s.applyFleet k n) := by
  unfold State.applyFleet
  dsimp only
  split <;> exact (h.setSlotState ..).modTable _ rfl

theorem Within.countUnread (h : Within fed o s) (k : SlotId) : Within fed o (s.countUnread k) :=
  (h.setSlotState ..).modTable _ rfl

theorem Within.applyUnread (h : Within fed o s) (k : SlotId) : Within fed o (s.applyUnread k) := by
  unfold State.applyUnread
  split
  · exact h.applyFleet ..
  · exact h.countUnread k

theorem Within.applyRead (h : Within fed o s) (k : SlotId) (n : Option Nat) : Within fed o (s.applyRead k n) := by
  unfold State.applyRead
  split
  · exact h.applyFleet ..
  · split
    · exact h.applyFleet ..
    · exact h.setSlotState ..

theorem Within.queueDirty (h : Within fed o s) (l : LineId) : Within fed o (s.queueDirty l) := by
  unfold State.queueDirty
  split
  · exact (h.modLine _ _ fun _ _ _ e => .inl e).enqueue ..
  all_goals exact h

theorem Within.freeLoaded (h : Within fed o s) (n : NozzleId) : Within fed o (s.freeLoaded n) := by
  unfold State.freeLoaded
  split
  · exact h.modCtx ..
  · exact h

theorem Within.freeReserved (h : Within fed o s) (k : ParkId) : Within fed o (s.freeReserved k) := by
  unfold State.freeReserved
  split
  · exact h.setSlot ..
  all_goals exact h

theorem Moves.countInterrupted (h : Moves fed o s) : Moves fed o s.countInterrupted := h.trans (.of_same rfl rfl rfl rfl)

theorem Moves.interruptNozzle (h : Moves fed o s) (n : NozzleId) : Moves fed o (s.interruptNozzle n) := by
  unfold State.interruptNozzle
  split
  · exact (h.by fun w => w.finishNozzle ..).countInterrupted
  · exact h

theorem Moves.interruptSlot (h : Moves fed o s) (k : ParkId) : Moves fed o (s.interruptSlot k) := by
  unfold State.interruptSlot
  split
  · exact (h.by fun w => w.finishParked ..).countInterrupted
  all_goals exact h

theorem Moves.openBusiness (h : Moves fed o s) : Moves fed o s.openBusiness := by
  have h1 : Moves fed o (allSlots.foldl State.freeReserved (allNozzles.foldl State.freeLoaded s)) :=
    (h.by (Within.foldl (f := State.freeLoaded) (fun x a => (Within.refl x).freeLoaded a) _)).by
      (Within.foldl (f := State.freeReserved) (fun x a => (Within.refl x).freeReserved a) _)
  have h2 := Moves.foldl (f := State.interruptNozzle) (fun x a => (Moves.refl x).interruptNozzle a) allNozzles h1
  have h3 := Moves.foldl (f := State.interruptSlot) (fun x a => (Moves.refl x).interruptSlot a) allSlots h2
  exact h3.by (Within.foldl (f := State.cancelReceipt) (fun x a => (Within.refl x).cancelReceipt a) _)

theorem Moves.queueDirties (h : Moves fed o s) (l : List LineId) : Moves fed o (l.foldl State.queueDirty s) :=
  h.by (Within.foldl (f := State.queueDirty) (fun x a => (Within.refl x).queueDirty a) l)

theorem Moves.indexDone (h : Moves fed o s) : Moves fed o s.indexDone := by
  unfold State.indexDone
  dsimp only
  split
  · exact h.setStage _
  · exact (h.queueDirties _).openBusiness.setStage _

theorem Within.giveUpHeaders (h : Within fed o s) (k : Nat) : Within fed o (s.giveUpHeaders k) :=
  Within.foldl (f := State.countUnread) (fun x a => (Within.refl x).countUnread a) _ h

theorem Moves.nextHeaderRead (h : Moves fed o s) (k : SlotId) : Moves fed o (s.nextHeaderRead k) := by
  have h1 : Moves fed o { s with startUp := { s.startUp with nextHeader := k.val + 1 } } :=
    h.trans (.of_same rfl rfl rfl rfl)
  unfold State.nextHeaderRead
  dsimp only
  split
  · exact h1.enqueue _
  · exact h1.indexDone

theorem Within.loseHeaders (h : Within fed o s) (k : SlotId) (a : Bool) : Within fed o (s.loseHeaders k a) := by
  unfold State.loseHeaders
  split
  · exact (h.applyUnread k).giveUpHeaders _
  · exact h.giveUpHeaders _

theorem Moves.endHeaderRead (h : Moves fed o s) (k : SlotId) (a : Bool) (res : HeaderResult) :
    Moves fed o (s.endHeaderRead k a res) := by
  unfold State.endHeaderRead
  dsimp only
  split
  · exact (h.landed.storeOk.by fun w => w.applyRead ..).nextHeaderRead _
  · split
    · exact (h.landed.storeOk.by fun w => w.applyRead ..).nextHeaderRead _
    · split
      · exact (h.landed.storeOk.by fun w => w.applyUnread ..).nextHeaderRead _
      · exact h.landed.storeOk.enqueue _
  · split
    · exact (h.landed.storeBad.by fun w => (w.loseHeaders ..).enterFaulted).indexDone
    · split
      · exact (h.landed.storeBad.by fun w => w.applyUnread ..).nextHeaderRead _
      · exact h.landed.storeBad.enqueue _

theorem Moves.leaveEpoch (h : Moves fed o s) : Moves fed o s.leaveEpoch := by
  unfold State.leaveEpoch
  split
  · split
    · exact ((h.setStage _).by fun w => w.giveUpHeaders _).indexDone
    · split
      · exact h
      · exact (h.setStage _).enqueue _
  · exact h

theorem Moves.leaveWrites (h : Moves fed o s) : Moves fed o s.leaveWrites := by
  unfold State.leaveWrites
  split
  · exact (h.setStage _).by fun w => w.postAll _
  · exact h

theorem Moves.settle (h : Moves fed o s) : Moves fed o s.settle := h.leaveEpoch.leaveWrites.by fun w => w.startStore

/-- R24: the lines that a warm reset keeps hold the records they held. -/
theorem sound_settled {s t : State} (h : t.table.lines = Tab.mapWith (fun _ x => settledLine x) s.table.lines)
    (hs : s.RecordsSound) : t.RecordsSound := by
  intro l st k r hl
  rw [State.line, h, read_mapWith] at hl
  unfold settledLine at hl
  split at hl
  · cases hl
  · cases hl
  all_goals next hc => cases hl; exact hs _ _ _ _ hc

/-- R23: an empty cache holds no record. -/
theorem sound_cold {t : State} (h : t.table.lines = coldTable.lines) : t.RecordsSound := by
  intro l st k r hl
  rw [State.line, h] at hl
  simp [coldTable, Tab.read, Tab.all, emptyLine] at hl

theorem Moves.inReset (h : Moves fed o s) : Moves fed o s.inReset :=
  h.trans ⟨rfl, .refl, fun q => .single (.emptied _ _ (by simp [State.inReset, State.port, Tab.read, resetPort])
    (by simp [State.inReset, State.port, Tab.read, resetPort])), fun _ => sound_settled rfl⟩

theorem Moves.startOver (h : Moves fed o s) (c : ResetCause) : Moves fed o (s.startOver c) := by
  refine h.trans ⟨rfl, ?_, fun q => .single (.emptied _ _ ?_ ?_), fun _ hs => ?_⟩
  · simp only [State.startOver]
    split
    · exact .single (.cold _)
    · exact .refl
  · simp [State.startOver, State.port, Tab.read, resetPort]
  · simp [State.startOver, State.port, Tab.read, resetPort]
  · cases hc : s.power.checkGood
    · exact sound_cold (by simp [State.startOver, hc])
    · exact sound_settled (s := s) (by simp [State.startOver, hc, warmTable]) hs

theorem event_moves {k : State → State} {t : State} (hk : Moves fed s (k s)) (h : s.event k = .next t) : Moves fed s t := by
  unfold State.event at h
  split at h
  · cases h; exact hk.settle
  · cases h; exact .refl s

/-! ### Requests -/

theorem Moves.takeFrame (h : Moves fed o s) (p : Port) {k : State → State} (hk : ∀ x, Moves fed x (k x)) :
    Moves fed o (s.takeFrame p k) := by
  unfold State.takeFrame
  split
  · split
    · exact h.by fun w => w.idleAssembler p
    · exact (h.by fun w => w.idleAssembler p).trans (hk _)
  · exact h

theorem Moves.admission (h : Moves fed o s) (p : Port) (c : ReqCode) (tag : Byte) (n : Option Nat) {k : State → State}
    (hk : ∀ x, Moves fed x (k x)) : Moves fed o (s.admission p c tag n k) := by
  refine h.takeFrame p fun x => ?_
  split
  · exact (Moves.refl x).by fun w => w.refuseFrame ..
  · split
    · exact (Moves.refl x).by fun w => w.refuseFrame ..
    · split
      · exact (Moves.refl x).by fun w => w.refuseFrame ..
      · exact hk x

theorem Moves.withNozzle (h : Moves fed o s) (p : Port) (c : ReqCode) (tag : Byte) (n : Nat) {k : NozzleId → State}
    (hk : ∀ i, Moves fed s (k i)) : Moves fed o (s.withNozzle p c tag n k) := by
  unfold State.withNozzle
  split
  · exact h.trans (hk _)
  · exact h.by fun w => w.badField ..

theorem Moves.withTank (h : Moves fed o s) (p : Port) (c : ReqCode) (tag : Byte) (n : Nat) {k : TankId → State}
    (hk : ∀ i, Moves fed s (k i)) : Moves fed o (s.withTank p c tag n k) := by
  unfold State.withTank
  split
  · exact h.trans (hk _)
  · exact h.by fun w => w.badField ..

theorem Moves.reply (h : Moves fed o s) (p : Port) (c : ReqCode) (tag : Byte) (st : Status) (f : Payload) :
    Moves fed o (s.reply p c tag st f) := h.by fun w => w.reply ..

theorem Within.askInHand (h : Within fed o s) (p : Port) (tag : Byte) (f : Nat) (r : WaitingRequest) :
    Within fed o (s.askInHand p tag f r) := (h.takeInHand ..).askFor ..

theorem Within.loadSteps (h : Within fed o s) (p : Port) (tag : Byte) (l : List RawStep) (n : NozzleId) :
    Within fed o (s.loadSteps p tag l n) := by
  unfold State.loadSteps
  split
  · split
    · split
      · exact (h.modCtx ..).reply ..
      · exact h.reply ..
    · exact h.reply ..
  · split
    · exact (h.modCtx ..).reply ..
    · exact h.reply ..
  all_goals exact h.reply ..

theorem Moves.reserve (h : Moves fed o s) : Moves fed o s.reserve := by
  have h1 : Moves fed o { s with journal := { s.journal with reservations := s.journal.reservations + 1 } } :=
    h.trans ⟨rfl, .single (.reserve _), fun _ => .refl, fun _ => sound_of_lines rfl⟩
  unfold State.reserve
  dsimp only
  split
  · exact h1.by fun w => w.postLevel _
  · exact h1

theorem Moves.openDelivery (h : Moves fed o s) (p : Port) (tag : Byte) (n : NozzleId) : Moves fed o (s.openDelivery p tag n) := by
  unfold State.openDelivery
  extract_lets t s1 s2 d s3
  have h2 : Moves fed o s2 := h.reserve.trans (.of_same rfl rfl rfl rfl)
  exact h2.by fun w => ((w.modCtx ..).reply ..).runAll ..

theorem Moves.startNozzle (h : Moves fed o s) (p : Port) (tag : Byte) (n : NozzleId) : Moves fed o (s.startNozzle p tag n) := by
  unfold State.startNozzle
  split
  · split
    · exact h.reply ..
    · exact h.openDelivery ..
  · exact h.reply ..

theorem Within.continueNozzle (h : Within fed o s) (p : Port) (tag : Byte) (n : NozzleId) :
    Within fed o (s.continueNozzle p tag n) := by
  unfold State.continueNozzle
  split
  · split
    · exact h.reply ..
    · exact ((h.modCtx ..).reply ..).runAll ..
  · exact h.reply ..

theorem Within.stopNozzle (h : Within fed o s) (p : Port) (tag : Byte) (n : NozzleId) : Within fed o (s.stopNozzle p tag n) := by
  unfold State.stopNozzle
  split
  · exact ((h.quitPriming ..).goOn ..).reply ..
  · exact (h.stopFlow ..).reply ..
  · exact (h.stopFlow ..).reply ..
  · exact (h.stopFlow ..).reply ..
  all_goals exact h.reply ..

theorem Within.recordAbort (h : Within fed o s) (n : NozzleId) : Within fed o (s.recordAbort n) := (h.modCtx ..).unreserve ..

theorem Within.abortNozzle (h : Within fed o s) (n : NozzleId) : Within fed o (s.abortNozzle n) := by
  unfold State.abortNozzle
  split
  · exact h
  · exact h.modCtx ..
  · exact (h.withdrawRequester ..).finishNozzle ..
  · exact (h.cancelWait ..).finishNozzle ..
  · exact (h.quitPriming ..).goOn ..
  · exact (h.stopFlow ..).recordAbort ..
  · exact (h.stopFlow ..).recordAbort ..
  · exact (h.stopFlow ..).recordAbort ..
  · exact h.recordAbort ..
  · exact h.finishNozzle ..

theorem Within.parkInto (h : Within fed o s) (n : NozzleId) (k : ParkId) : Within fed o (s.parkInto n k) := by
  unfold State.parkInto
  split
  · exact h.moveToPark ..
  · exact ((h.cancelWait ..).addFault ..).moveToPark ..
  · exact (h.setSlot ..).modCtx ..
  · exact ((h.setSlot ..).stopFlow ..).modCtx ..
  · exact ((h.setSlot ..).stopFlow ..).modCtx ..
  all_goals exact h

theorem Within.parkNozzle (h : Within fed o s) (p : Port) (tag : Byte) (n : NozzleId) : Within fed o (s.parkNozzle p tag n) := by
  unfold State.parkNozzle
  dsimp only
  split
  · exact h.reply ..
  · split
    · exact h.reply ..
    · split
      · exact h.reply ..
      · split
        · exact h.reply ..
        · split
          · exact h.reply ..
          · exact (h.parkInto ..).reply ..

theorem Within.resumeNozzle (h : Within fed o s) (p : Port) (tag : Byte) (t : Nat) (n : NozzleId) :
    Within fed o (s.resumeNozzle p tag t n) := by
  unfold State.resumeNozzle
  split
  · exact h.badField ..
  · split
    · exact h.reply ..
    · split
      · exact h.reply ..
      · exact (h.resumeAt ..).reply ..

theorem Within.takeGrant (h : Within fed o s) (p : Port) (tag : Byte) (n : NozzleId) (w : WaitTerms) (x : Nat) :
    Within fed o (s.takeGrant p tag n w x) := by
  unfold State.takeGrant
  dsimp only
  split
  · exact ((((h.modCtx ..).authorise ..).postClosed ..).reply ..).runRest ..
  · exact (((h.modCtx ..).postClosed ..).reply ..).refuseAuth ..

theorem Within.grantFor (h : Within fed o s) (p : Port) (tag : Byte) (t x : Nat) : Within fed o (s.grantFor p tag t x) := by
  unfold State.grantFor
  split
  · exact h.reply ..
  · split
    · exact h.takeGrant ..
    · exact h.reply ..

theorem Moves.release (h : Moves fed o s) (p : Port) (tag : Byte) (q : Word32) : Moves fed o (s.release p tag q) := by
  have h1 : Moves fed o { s with journal := s.journal.dropHead } :=
    h.trans ⟨rfl, .single (.release _), fun _ => .refl, fun _ => sound_of_lines rfl⟩
  unfold State.release
  dsimp only
  split
  · exact h1.reply ..
  · exact h.reply ..

theorem Within.openReceipt (h : Within fed o s) (p : Port) (tag : Byte) (k : Nat) (t : TankId) :
    Within fed o (s.openReceipt p tag k t) := by
  unfold State.openReceipt
  dsimp only
  split
  · exact h.badField ..
  · split
    · exact h.reply ..
    · split
      · exact h.reply ..
      · split
        · exact h.badField ..
        · exact (h.modTank ..).reply ..

theorem Within.closeReceipt (h : Within fed o s) (p : Port) (tag : Byte) (t : TankId) : Within fed o (s.closeReceipt p tag t) := by
  unfold State.closeReceipt
  dsimp only
  split
  · exact h.badField ..
  · exact (((h.modTank ..).postOffice ..).reply ..).evaluateTank ..

theorem Within.adjustStock (h : Within fed o s) (p : Port) (tag : Byte) (a : Int) (t : TankId) :
    Within fed o (s.adjustStock p tag a t) := by
  unfold State.adjustStock
  dsimp only
  split
  · exact h.badField ..
  · split
    · exact h.reply ..
    · exact ((h.modTank ..).reply ..).evaluateTank ..

theorem Within.storeRetry (h : Within fed o s) : Within fed o s.storeRetry := by
  unfold State.storeRetry
  split
  · exact (h.modTable _ (by rfl)).postAll ..
  · exact h

theorem Moves.setClock (h : Moves fed o s) (k : Word32) (t : Nat) : Moves fed o (s.setClock k t) :=
  h.trans (.of_same rfl rfl rfl rfl)

theorem Within.kmWritten (h : Within fed o s) (q : Tab NozzlePatch 8) (n : NozzleId) : Within fed o (State.kmWritten q s n) := by
  unfold State.kmWritten
  split
  · exact h.modMeter ..
  · exact h

theorem Moves.probesWritten (h : Moves fed o s) (q : ProbePatch) (i : ChannelId) : Moves fed o (State.probesWritten q s i) := by
  unfold State.probesWritten
  dsimp only
  split
  · split
    · exact Moves.after (fun w => w.postRole ..) (h.trans (.of_same rfl rfl rfl rfl))
    · exact h.trans (.of_same rfl rfl rfl rfl)
  · exact h

theorem Moves.divisorWritten (h : Moves fed o s) (q : ProbePatch) : Moves fed o (State.divisorWritten q s) := by
  unfold State.divisorWritten
  split
  · exact h.trans (.of_same rfl rfl rfl rfl)
  · exact h

theorem Within.tankWritten (h : Within fed o s) (c : Tab TankConfig 4) (t : TankId) :
    Within fed o (State.tankWritten c s t) := by
  unfold State.tankWritten
  dsimp only
  split
  · exact h.modTank ..
  · split
    · exact h.evaluateTank ..
    · exact h

theorem Moves.configChanged (h : Moves fed o s) (g : ConfigChange) (c : Configuration) : Moves fed o (s.configChanged g c) := by
  have h1 : Moves fed o { s with config := c } := h.trans (.of_same rfl rfl rfl rfl)
  unfold State.configChanged
  dsimp only
  split
  · exact h1.takeBauds _
  · exact h1.by (Within.foldl (f := State.kmWritten _) (fun x a => (Within.refl x).kmWritten _ a) _)
  · exact (Moves.foldl (f := State.probesWritten _) (fun x a => (Moves.refl x).probesWritten _ a) _ h1).divisorWritten _
  · exact h1.by (Within.foldl (f := State.tankWritten _) (fun x a => (Within.refl x).tankWritten _ a) _)
  · exact h1.trans (.of_same rfl rfl rfl rfl)
  all_goals exact h1

theorem Moves.acceptConfig (h : Moves fed o s) (p : Port) (tag : Byte) (g : ConfigChange) (c : Configuration) :
    Moves fed o (s.acceptConfig p tag g c) := by
  unfold State.acceptConfig
  dsimp only
  split
  · exact (h.configChanged ..).by fun w => w.queueConfigWrite.reply ..
  · exact (h.configChanged ..).by fun w => (w.takeInHand ..).queueConfigWrite

theorem Within.fetchNotice (h : Within fed o s) (p : Port) (tag : Byte) : Within fed o (s.fetchNotice p tag) := by
  unfold State.fetchNotice
  dsimp only
  split
  · exact h.reply ..
  · exact (h.modPort _ _ (.take _)).reply ..

theorem Within.peek (h : Within fed o s) (p : Port) (tag : Byte) : Within fed o (s.peek p tag) := by
  unfold State.peek
  dsimp only
  split <;> exact h.reply ..

/-! ### Field lines, timers, time -/

theorem Within.creepTest (h : Within fed o s) (n : NozzleId) : Within fed o (s.creepTest n) := by
  unfold State.creepTest
  dsimp only
  split
  · exact ((h.modMeter ..).modMeter ..).enterFlow ..
  · exact ((h.modMeter ..).faultMeter ..).stopFlow ..

theorem Within.postProbe (h : Within fed o s) (i : ChannelId) (a b : Channel) : Within fed o (s.postProbe i a b) := by
  unfold State.postProbe
  split
  · exact h
  · exact h.postRole ..

theorem Moves.sample (h : Moves fed o s) (i : ChannelId) (k : Nat) : Moves fed o (s.sample i k) := by
  unfold State.sample
  dsimp only
  split
  · exact Moves.after (fun w => (w.postProbe ..).gaugeTank ..) (h.trans (.of_same rfl rfl rfl rfl))
  · exact Moves.after (fun w => w.postProbe ..) (h.trans (.of_same rfl rfl rfl rfl))

theorem Within.holdExpired (h : Within fed o s) (n : NozzleId) : Within fed o (s.holdExpired n) := by
  unfold State.holdExpired
  split
  · split
    · exact h.moveToPark ..
    · exact h.finishNozzle ..
  · exact h.finishNozzle ..

theorem Within.timeOut (h : Within fed o s) (n : NozzleId) (w : WaitTerms) : Within fed o (s.timeOut n w) :=
  (h.postClosed ..).refuseAuth ..

theorem Within.grantExpired (h : Within fed o s) (n : NozzleId) : Within fed o (s.grantExpired n) := by
  unfold State.grantExpired
  dsimp only
  split
  · exact (h.modCtx ..).expired _
  · split
    · exact ((h.modCtx ..).expired _).timeOut ..
    · split
      · exact ((((h.modCtx ..).expired _).authorise ..).postClosed ..).runRest ..
      · exact ((h.modCtx ..).expired _).timeOut ..

theorem Within.parkExpires (h : Within fed o s) (k : ParkId) : Within fed o (s.parkExpires k) := by
  unfold State.parkExpires
  split
  · split
    · exact h.finishParked ..
    · exact h
  all_goals exact h

theorem Within.tellNozzle (h : Within fed o s) (n : NozzleId) : Within fed o (s.tellNozzle n) := by
  unfold State.tellNozzle
  split
  · exact h.toldRunning ..
  · exact h

theorem Within.pumpStarted (h : Within fed o s) (t : TankId) : Within fed o (s.pumpStarted t) := by
  unfold State.pumpStarted
  split
  · exact h.runOnPump ..
  · exact Within.foldl (f := State.tellNozzle) (fun x a => (Within.refl x).tellNozzle a) _ (h.setPump ..)

theorem Moves.countTick (h : Moves fed o s) : Moves fed o s.countTick := h.trans (.of_same rfl rfl rfl rfl)

theorem Moves.tickDeliveries (h : Moves fed o s) : Moves fed o s.tickDeliveries := by
  unfold State.tickDeliveries
  split
  · exact h.trans (.of_same rfl rfl rfl rfl)
  · exact h

theorem Moves.countInReset (h : Moves fed o s) : Moves fed o s.countInReset := h.trans (.of_same rfl rfl rfl rfl)

theorem tickPort_step (x : PortState) : PortStep x (tickPort x) := .other _ _ rfl rfl

theorem Moves.tickField (h : Moves fed o s) : Moves fed o s.tickField := by
  refine h.trans (.of_ports rfl rfl (fun q => ?_) rfl)
  simp only [State.tickField, State.port, read_mapWith]
  exact tickPort_step _

theorem Moves.rollover (h : Moves fed o s) : Moves fed o s.rollover :=
  Moves.after (fun w => (w.postAll ..).reconcileAll ..) (h.trans (.of_same rfl rfl rfl rfl))

theorem Moves.lateRollover (h : Moves fed o s) : Moves fed o s.lateRollover := by
  unfold State.lateRollover
  split
  · exact h.rollover.settle
  · exact h

/-! ### Ports -/

theorem expiredFrame_step (x : PortState) : PortStep x (expiredFrame x) := by
  refine .other _ _ ?_ ?_ <;> unfold expiredFrame <;> split <;> rfl

theorem Moves.initialiseDue (h : Moves fed o s) :
    Moves fed o { s with power := { s.power with initialiseDue := true } } := h.trans (.of_same rfl rfl rfl rfl)

theorem Moves.sent (h : Moves fed o s) (p : Port) : Moves fed o (s.sent p) := by
  unfold State.sent
  split
  · exact h
  · next r rest hl =>
    have h1 := h.by fun w => (w.modPort p (fun x => { x with line := rest }) (.other _ _ rfl rfl)).takeBaud p
    dsimp only
    split
    · exact h1.initialiseDue
    · exact h1

theorem Within.reclaim (h : Within fed o s) (p : Port) (op : StoreOp) : Within fed o (State.reclaim p s op) := by
  unfold State.reclaim
  split
  · split
    · exact h.setSlotState ..
    · exact h
  all_goals exact h

theorem Within.withdrawPort (h : Within fed o s) (p : Port) : Within fed o (s.withdrawPort p) := by
  unfold State.withdrawPort
  extract_lets s1
  exact Within.modTable (Within.foldl (f := State.reclaim p) (fun x a => (Within.refl x).reclaim p a) _
    (h.withdrawRequester _)) _ rfl

theorem Within.lineBreak (h : Within fed o s) (p : Port) : Within fed o (s.lineBreak p) := by
  unfold State.lineBreak
  split
  · exact ((h.withdrawPort p).modPort _ _ (.emptied _ _ rfl rfl)).takeBaud p
  · exact h.modPort _ _ (.other _ _ rfl rfl)

theorem Moves.runRequest (h : Moves fed o s) (i : Instr) : Moves fed o (runRequest i s) := by
  cases i <;> unfold Machine.runRequest
  case steps => exact h.admission _ _ _ _ fun x => (Moves.refl x).withNozzle _ _ _ _ fun _ => (Moves.refl x).by fun w => w.loadSteps ..
  case start => exact h.admission _ _ _ _ fun x => (Moves.refl x).withNozzle _ _ _ _ fun _ => (Moves.refl x).startNozzle ..
  case continueList => exact h.admission _ _ _ _ fun x => (Moves.refl x).withNozzle _ _ _ _ fun _ => (Moves.refl x).by fun w => w.continueNozzle ..
  case stop => exact h.admission _ _ _ _ fun x => (Moves.refl x).withNozzle _ _ _ _ fun _ => (Moves.refl x).by fun w => w.stopNozzle ..
  case abort =>
    refine h.admission _ _ _ _ fun x => (Moves.refl x).withNozzle _ _ _ _ fun _ => ?_
    split
    · exact (Moves.refl x).reply ..
    · exact (Moves.refl x).by fun w => (w.abortNozzle ..).reply ..
  case park => exact h.admission _ _ _ _ fun x => (Moves.refl x).withNozzle _ _ _ _ fun _ => (Moves.refl x).by fun w => w.parkNozzle ..
  case resume => exact h.admission _ _ _ _ fun x => (Moves.refl x).withNozzle _ _ _ _ fun _ => (Moves.refl x).by fun w => w.resumeNozzle ..
  case meterClear => exact h.admission _ _ _ _ fun x => (Moves.refl x).withNozzle _ _ _ _ fun _ => (Moves.refl x).by fun w => (w.modMeter ..).reply ..
  case hours =>
    refine h.admission _ _ _ _ fun x => ?_
    split
    · exact (Moves.refl x).by fun w => w.askInHand ..
    · exact (Moves.refl x).by fun w => w.badField ..
  case grant =>
    refine h.admission _ _ _ _ fun x => ?_
    split
    · exact (Moves.refl x).by fun w => w.badField ..
    · exact (Moves.refl x).by fun w => w.grantFor ..
  case journalFetch => exact h.admission _ _ _ _ fun x => (Moves.refl x).reply ..
  case journalRelease => exact h.admission _ _ _ _ fun x => (Moves.refl x).release ..
  case enrol =>
    refine h.admission _ _ _ _ fun x => ?_
    split
    · exact (Moves.refl x).by fun w => ((w.takeInHand ..).tryEnrol ..).cameIntoLine ..
    · exact (Moves.refl x).by fun w => w.badField ..
  case withdraw => exact h.admission _ _ _ _ fun x => (Moves.refl x).by fun w => (w.takeInHand ..).tryWithdraw ..
  case machineSet =>
    refine h.admission _ _ _ _ fun x => ?_
    split
    · exact (Moves.refl x).by fun w => w.askInHand ..
    · exact (Moves.refl x).by fun w => w.badField ..
  case standDown => exact h.admission _ _ _ _ fun x => (Moves.refl x).by fun w => w.askInHand ..
  case returnMachine => exact h.admission _ _ _ _ fun x => (Moves.refl x).by fun w => w.askInHand ..
  case rebuild => exact h.admission _ _ _ _ fun x => (Moves.refl x).by fun w => ((w.takeInHand ..).tryRebuild ..).cameIntoLine ..
  case setLine =>
    refine h.admission _ _ _ _ fun x => ?_
    split
    · exact (Moves.refl x).by fun w => w.askInHand ..
    · exact (Moves.refl x).by fun w => w.badField ..
  case setLineRemove =>
    refine h.admission _ _ _ _ fun x => ?_
    split
    · exact (Moves.refl x).by fun w => w.askInHand ..
    · exact (Moves.refl x).by fun w => w.badField ..
  case serviceDone =>
    refine h.admission _ _ _ _ fun x => ?_
    split
    · exact (Moves.refl x).by fun w => w.askInHand ..
    · exact (Moves.refl x).by fun w => w.badField ..
  case waiver =>
    refine h.admission _ _ _ _ fun x => ?_
    split
    · exact (Moves.refl x).by fun w => w.askInHand ..
    · exact (Moves.refl x).by fun w => w.badField ..
  case meterChange =>
    refine h.admission _ _ _ _ fun x => ?_
    split
    · exact (Moves.refl x).by fun w => w.askInHand ..
    · exact (Moves.refl x).by fun w => w.badField ..
  case receiptOpen => exact h.admission _ _ _ _ fun x => (Moves.refl x).withTank _ _ _ _ fun _ => (Moves.refl x).by fun w => w.openReceipt ..
  case receiptClose => exact h.admission _ _ _ _ fun x => (Moves.refl x).withTank _ _ _ _ fun _ => (Moves.refl x).by fun w => w.closeReceipt ..
  case stockAdjust => exact h.admission _ _ _ _ fun x => (Moves.refl x).withTank _ _ _ _ fun _ => (Moves.refl x).by fun w => w.adjustStock ..
  case reconcile => exact h.admission _ _ _ _ fun x => (Moves.refl x).by fun w => (w.reconcileAll ..).reply ..
  case configSet =>
    refine h.admission _ _ _ _ fun x => ?_
    split
    · exact (Moves.refl x).by fun w => w.badField ..
    · split
      · exact (Moves.refl x).reply ..
      · split
        · exact (Moves.refl x).reply ..
        · exact (Moves.refl x).acceptConfig ..
  case configRead =>
    refine h.admission _ _ _ _ fun x => ?_
    split
    · exact (Moves.refl x).reply ..
    · exact (Moves.refl x).by fun w => w.badField ..
  case storeRetry => exact h.admission _ _ _ _ fun x => (Moves.refl x).by fun w => w.storeRetry.reply ..
  case clockSet =>
    refine h.admission _ _ _ _ fun x => ?_
    split
    · exact (Moves.refl x).by fun w => w.badField ..
    · exact ((Moves.refl x).setClock ..).reply ..
  case initialise => exact h.admission _ _ _ _ fun x => (Moves.refl x).reply ..
  case nozzleStatus => exact h.admission _ _ _ _ fun x => (Moves.refl x).withNozzle _ _ _ _ fun _ => (Moves.refl x).reply ..
  case machineRead => exact h.admission _ _ _ _ fun x => (Moves.refl x).by fun w => w.askInHand ..
  case tankStatus => exact h.admission _ _ _ _ fun x => (Moves.refl x).withTank _ _ _ _ fun _ => (Moves.refl x).reply ..
  case clockRead => exact h.admission _ _ _ _ fun x => (Moves.refl x).reply ..
  case deviceStatus =>
    refine h.admission _ _ _ _ fun x => ?_
    split
    · exact (Moves.refl x).reply ..
    · exact (Moves.refl x).by fun w => w.badField ..
  case nextNotice => exact h.admission _ _ _ _ fun x => (Moves.refl x).by fun w => w.fetchNotice ..
  case peekNotice => exact h.admission _ _ _ _ fun x => (Moves.refl x).by fun w => w.peek ..
  case noticeMask =>
    refine h.admission _ _ _ _ fun x => ?_
    split
    · exact (Moves.refl x).by fun w => (w.modPort _ _ (.other _ _ rfl rfl)).reply ..
    · exact (Moves.refl x).by fun w => w.badField ..
  case attentionSelect =>
    refine h.admission _ _ _ _ fun x => ?_
    split
    · exact (Moves.refl x).by fun w => (w.modPort _ _ (.other _ _ rfl rfl)).reply ..
    · exact (Moves.refl x).by fun w => w.badField ..
  case attentionAck =>
    exact h.admission _ _ _ _ fun x => (Moves.refl x).by fun w => (w.modPort _ _ (.other _ _ rfl rfl)).reply ..
  all_goals exact h

theorem Moves.reqUnknown (h : Moves fed o s) (p : Port) (c tag : Byte) : Moves fed o (State.reqUnknown p c tag s) := by
  refine h.takeFrame p fun x => ?_
  split <;> exact (Moves.refl x).by fun w => w.refuseFrame ..

theorem Moves.reqBadFrame (h : Moves fed o s) (p : Port) (c tag : Byte) : Moves fed o (State.reqBadFrame p c tag s) :=
  h.takeFrame p fun x => (Moves.refl x).by fun w => w.refuseFrame ..

theorem Moves.requestFrame (h : Moves fed o s) (p : Port) (b : List Byte) : Moves fed o (State.requestFrame p b s) := by
  unfold State.requestFrame
  split
  · split
    · exact h.reqUnknown ..
    · split
      · exact h.runRequest _
      · exact h.admission _ _ _ _ fun x => (Moves.refl x).by fun w => w.badField ..
  · exact h

theorem Moves.completeFrame (h : Moves fed o s) (p : Port) (b : List Byte) : Moves fed o (State.completeFrame p b s) := by
  unfold State.completeFrame
  dsimp only
  split
  · exact h.requestFrame ..
  · exact h.reqBadFrame ..

theorem Moves.takeByte (h : Moves fed o s) (p : Port) (b : Byte) : Moves fed o (State.takeByte p b s) := by
  unfold State.takeByte
  split
  · split
    · exact h.by fun w => w.modPort _ _ (.other _ _ rfl rfl)
    · exact h
  · split
    · exact h.by fun w => w.modPort _ _ (.other _ _ rfl rfl)
    · exact h.by fun w => w.idleAssembler p
  · dsimp only
    split
    · exact h.completeFrame ..
    · exact h.by fun w => w.modPort _ _ (.other _ _ rfl rfl)

/-! ### Every command -/

/-- Everything a command can do to the journal, to the notice queues, to the commands waiting and to the soundness of the
records in the cache. -/
theorem exec_moves {c : Instr} {s t : State} (h : exec c s = .next t)
    (hr : fed → ∀ r, c = .fetchComplete (.record r) → r.Sound) : Moves fed s t := by
  have req : ∀ {i : Instr} {k : State → State}, s.event k = .next t → (∀ x, runRequest i x = k x) → Moves fed s t :=
    fun hk hi => event_moves (hi s ▸ (Moves.refl s).runRequest _) hk
  cases c
  case badFrame => exact event_moves ((Moves.refl s).reqBadFrame ..) h
  case unknownRequest => exact event_moves ((Moves.refl s).reqUnknown ..) h
  case frameTimerExpiry p =>
    exact event_moves (k := fun x => x.modPort p expiredFrame) ((Moves.refl s).by fun w => w.modPort _ _ (expiredFrame_step _)) h
  case responseSent p => exact event_moves (k := fun x => x.sent p) ((Moves.refl s).sent ..) h
  case portReset p => exact event_moves (k := fun x => x.lineBreak p) ((Moves.refl s).by fun w => w.lineBreak p) h
  case reset =>
    change execReset s = _ at h
    unfold execReset at h
    split at h <;> cases h
    · refine Moves.settle (Moves.startOver ?_ _)
      exact .of_same rfl rfl rfl rfl
    · exact .of_same rfl rfl rfl rfl
  case powerUp =>
    change execPowerUp _ s = _ at h
    unfold execPowerUp at h
    split at h <;> cases h
    · exact .of_same rfl rfl rfl rfl
    · refine Moves.settle (Moves.startOver ?_ _)
      exact .of_same rfl rfl rfl rfl
  case initialiseReset =>
    refine event_moves ?_ h
    split
    · exact (Moves.refl s).startOver _
    · exact .refl s
  case tick =>
    change execTick s = _ at h
    unfold execTick at h
    split at h
    · split at h <;> cases h
      · exact (Moves.refl s).countInReset
      · exact (Moves.refl s).lateRollover.countTick.tickDeliveries.tickField
    · cases h; exact .refl s
  case shiftRollover =>
    refine event_moves ?_ h
    split
    · exact (Moves.refl s).rollover
    · exact .refl s
  case meterPulse n => exact event_moves (k := fun x => x.pulse n) ((Moves.refl s).by fun w => w.pulse _) h
  case scanTimerExpiry =>
    refine event_moves ?_ h
    split
    · exact .of_same rfl rfl rfl rfl
    · exact .refl s
  case sampleComplete i k => exact event_moves (k := fun x => x.sample i k.toNat) ((Moves.refl s).sample ..) h
  case creepWindowExpiry =>
    refine event_moves ?_ h
    split
    · exact (Moves.refl s).by fun w => w.creepTest _
    · exact .refl s
  case stallTimerExpiry =>
    refine event_moves ?_ h
    split
    · exact (Moves.refl s).by fun w => w.stopFlow ..
    · exact .refl s
  case drainSettleExpiry =>
    refine event_moves ?_ h
    split
    · exact (Moves.refl s).by fun w => w.drainSettled ..
    · exact .refl s
  case holdTimerExpiry =>
    refine event_moves ?_ h
    split
    · exact (Moves.refl s).by fun w => w.holdExpired ..
    · exact .refl s
  case parkTimerExpiry =>
    refine event_moves ?_ h
    split
    · exact (Moves.refl s).by fun w => w.parkExpires ..
    · exact .refl s
  case grantTimerExpiry =>
    refine event_moves ?_ h
    split
    · exact (Moves.refl s).by fun w => w.grantExpired ..
    · exact .refl s
  case pumpStartTimerExpiry =>
    refine event_moves ?_ h
    split
    · exact (Moves.refl s).by fun w => w.pumpStarted ..
    · exact .refl s
  case runOnTimerExpiry =>
    refine event_moves ?_ h
    split
    · exact (Moves.refl s).by fun w => w.setPump ..
    · exact .refl s
  case fetchComplete =>
    change execFetchComplete _ s = _ at h
    unfold execFetchComplete at h
    refine event_moves ?_ h
    split
    · split
      · exact (Moves.refl s).by fun w => w.endFetch _ _ _ _ _ fun g r e => hr g r (by rw [e])
      · exact .refl s
    · exact .refl s
  case writeComplete =>
    change execWriteComplete _ s = _ at h
    unfold execWriteComplete at h
    refine event_moves ?_ h
    split
    · split
      · exact (Moves.refl s).by fun w => w.endWrite ..
      · exact .refl s
    · exact .refl s
  case eraseComplete =>
    change execEraseComplete _ s = _ at h
    unfold execEraseComplete at h
    refine event_moves ?_ h
    split
    · split
      · exact (Moves.refl s).by fun w => w.endErase ..
      · exact .refl s
    · exact .refl s
  case headerReadComplete =>
    change execHeaderReadComplete _ s = _ at h
    unfold execHeaderReadComplete at h
    refine event_moves ?_ h
    split
    · split
      · exact (Moves.refl s).endHeaderRead ..
      · exact .refl s
    · exact .refl s
  case configReadComplete =>
    change execConfigReadComplete _ s = _ at h
    unfold execConfigReadComplete at h
    refine event_moves ?_ h
    split
    · split
      · exact (Moves.refl s).endConfigRead ..
      · exact .refl s
    · exact .refl s
  case configWriteComplete =>
    change execConfigWriteComplete _ s = _ at h
    unfold execConfigWriteComplete at h
    refine event_moves ?_ h
    split
    · split
      · exact (Moves.refl s).by fun w => w.endConfigWrite ..
      · exact .refl s
    · exact .refl s
  case portByteReceived =>
    refine event_moves ?_ h
    split
    · split
      · exact (Moves.refl s).by fun w => w.idleAssembler _
      · exact (Moves.refl s).takeByte ..
    · exact .refl s
  case resetHeldLow => cases h; exact (Moves.refl s).inReset.trans (.of_same rfl rfl rfl rfl)
  case powerDown => cases h; exact (Moves.refl s).inReset.trans (.of_same rfl rfl rfl rfl)
  case steps p tag n l => exact req (i := .steps p tag n l) h fun _ => rfl
  case start p tag n => exact req (i := .start p tag n) h fun _ => rfl
  case continueList p tag n => exact req (i := .continueList p tag n) h fun _ => rfl
  case stop p tag n => exact req (i := .stop p tag n) h fun _ => rfl
  case abort p tag n => exact req (i := .abort p tag n) h fun _ => rfl
  case park p tag n => exact req (i := .park p tag n) h fun _ => rfl
  case resume p tag t n => exact req (i := .resume p tag t n) h fun _ => rfl
  case meterClear p tag n => exact req (i := .meterClear p tag n) h fun _ => rfl
  case hours p tag a b => exact req (i := .hours p tag a b) h fun _ => rfl
  case grant p tag a b => exact req (i := .grant p tag a b) h fun _ => rfl
  case journalFetch p tag => exact req (i := .journalFetch p tag) h fun _ => rfl
  case journalRelease p tag a => exact req (i := .journalRelease p tag a) h fun _ => rfl
  case enrol p tag a => exact req (i := .enrol p tag a) h fun _ => rfl
  case withdraw p tag a => exact req (i := .withdraw p tag a) h fun _ => rfl
  case machineSet p tag a b => exact req (i := .machineSet p tag a b) h fun _ => rfl
  case standDown p tag a => exact req (i := .standDown p tag a) h fun _ => rfl
  case returnMachine p tag a => exact req (i := .returnMachine p tag a) h fun _ => rfl
  case rebuild p tag a => exact req (i := .rebuild p tag a) h fun _ => rfl
  case setLine p tag a b => exact req (i := .setLine p tag a b) h fun _ => rfl
  case setLineRemove p tag a b => exact req (i := .setLineRemove p tag a b) h fun _ => rfl
  case serviceDone p tag a b d => exact req (i := .serviceDone p tag a b d) h fun _ => rfl
  case waiver p tag a b d => exact req (i := .waiver p tag a b d) h fun _ => rfl
  case meterChange p tag a b d => exact req (i := .meterChange p tag a b d) h fun _ => rfl
  case receiptOpen p tag a b => exact req (i := .receiptOpen p tag a b) h fun _ => rfl
  case receiptClose p tag a => exact req (i := .receiptClose p tag a) h fun _ => rfl
  case stockAdjust p tag a b => exact req (i := .stockAdjust p tag a b) h fun _ => rfl
  case reconcile p tag => exact req (i := .reconcile p tag) h fun _ => rfl
  case configSet p tag a => exact req (i := .configSet p tag a) h fun _ => rfl
  case configRead p tag a => exact req (i := .configRead p tag a) h fun _ => rfl
  case storeRetry p tag => exact req (i := .storeRetry p tag) h fun _ => rfl
  case clockSet p tag a b => exact req (i := .clockSet p tag a b) h fun _ => rfl
  case initialise p tag => exact req (i := .initialise p tag) h fun _ => rfl
  case nozzleStatus p tag a => exact req (i := .nozzleStatus p tag a) h fun _ => rfl
  case machineRead p tag a => exact req (i := .machineRead p tag a) h fun _ => rfl
  case tankStatus p tag a => exact req (i := .tankStatus p tag a) h fun _ => rfl
  case clockRead p tag => exact req (i := .clockRead p tag) h fun _ => rfl
  case deviceStatus p tag a => exact req (i := .deviceStatus p tag a) h fun _ => rfl
  case nextNotice p tag => exact req (i := .nextNotice p tag) h fun _ => rfl
  case peekNotice p tag => exact req (i := .peekNotice p tag) h fun _ => rfl
  case noticeMask p tag a => exact req (i := .noticeMask p tag a) h fun _ => rfl
  case attentionSelect p tag a => exact req (i := .attentionSelect p tag a) h fun _ => rfl
  case attentionAck p tag => exact req (i := .attentionAck p tag) h fun _ => rfl

end Sys2Proof.Machine
end

