-- ==== Sys2Proof/Laws/Layout.lean ====
section
/-! SUPPORT. Laws/Layout.lean: how long the bytes of chapter 12 are: a figure has the width it is sent in, and no response
body exceeds the 200 bytes of R188. -/

namespace Sys2Proof.Machine

@[simp] theorem bytesOf_length (w v : Nat) : (bytesOf w v).length = w := by
  induction w generalizing v with
  | zero => rfl
  | succ w ih => simp [bytesOf, ih]

@[simp] theorem fig_length (w v : Nat) : (fig w v).length = w := by unfold fig; split <;> simp

@[simp] theorem sfig_length (w : Nat) (v : Int) : (sfig w v).length = w := by unfold sfig; split <;> simp

theorem fieldsWithin_length (l : List Byte) : (fieldsWithin l).length ≤ 197 := by
  unfold fieldsWithin
  split
  · assumption
  · simp

/-- R188: fields that fit are sent as they are. -/
theorem fieldsWithin_of_le (l : List Byte) (h : l.length ≤ 197) : fieldsWithin l = l := if_pos h

/-- R188: no response body exceeds 200 bytes. -/
theorem responseBody_length (r : Response) : (responseBody r).length ≤ 200 := by
  have := fieldsWithin_length (payloadBytes r.payload)
  simp [responseBody, enum]; omega

end Sys2Proof.Machine
end

