-- ==== Sys2Proof/Laws/PerInstr.lean ====
section
/-! SUPPORT. Laws/PerInstr.lean: what holds of every command as syntax, said once per constructor. -/

namespace Sys2Proof.Laws.RequestCode

open Sys2Proof.Machine

/-- A request's code byte reads back as its code, and a request names the nozzle its permission turns on exactly when its
code is one of R170's first row. A command that is not a request has neither. -/
def Statement (i : Instr) : Prop :=
  ∀ p c tag n, i.request = some (p, c, tag, n) → ReqCode.ofByte c.byte = some c
    ∧ n.isSome = decide (c ∈ [.steps, .start, .continueList, .stop, .abort, .park, .resume, .meterClear])

/-- The reading of a request's parts settles the statement. -/
theorem of_request {i : Instr} {p : Port} {c : ReqCode} {tag : Byte} {n : Option Nat}
    (h : i.request = some (p, c, tag, n)) (hc : ReqCode.ofByte c.byte = some c)
    (hn : n.isSome = decide (c ∈ [.steps, .start, .continueList, .stop, .abort, .park, .resume, .meterClear])) :
    Statement i := by
  intro p' c' tag' n' h'
  rw [h] at h'
  cases h'
  exact ⟨hc, hn⟩

/-- A command that is no request meets the statement. -/
theorem of_none {i : Instr} (h : i.request = none) : Statement i := by
  intro p c tag n h'
  rw [h] at h'
  cases h'

theorem steps (p : Port) (tag : Byte) (nozzle : Nat) (list : List RawStep) : Statement (.steps p tag nozzle list) :=
  of_request rfl (by decide) (by rfl)
theorem start (p : Port) (tag : Byte) (nozzle : Nat) : Statement (.start p tag nozzle) :=
  of_request rfl (by decide) (by rfl)
theorem continueList (p : Port) (tag : Byte) (nozzle : Nat) : Statement (.continueList p tag nozzle) :=
  of_request rfl (by decide) (by rfl)
theorem stop (p : Port) (tag : Byte) (nozzle : Nat) : Statement (.stop p tag nozzle) :=
  of_request rfl (by decide) (by rfl)
theorem abort (p : Port) (tag : Byte) (nozzle : Nat) : Statement (.abort p tag nozzle) :=
  of_request rfl (by decide) (by rfl)
theorem park (p : Port) (tag : Byte) (nozzle : Nat) : Statement (.park p tag nozzle) :=
  of_request rfl (by decide) (by rfl)
theorem resume (p : Port) (tag : Byte) (ticket nozzle : Nat) : Statement (.resume p tag ticket nozzle) :=
  of_request rfl (by decide) (by rfl)
theorem meterClear (p : Port) (tag : Byte) (nozzle : Nat) : Statement (.meterClear p tag nozzle) :=
  of_request rfl (by decide) (by rfl)
theorem hours (p : Port) (tag : Byte) (fleet reading : Nat) : Statement (.hours p tag fleet reading) :=
  of_request rfl (by decide) (by rfl)
theorem grant (p : Port) (tag : Byte) (ticket extra : Nat) : Statement (.grant p tag ticket extra) :=
  of_request rfl (by decide) (by rfl)
theorem journalFetch (p : Port) (tag : Byte) : Statement (.journalFetch p tag) :=
  of_request rfl (by decide) (by rfl)
theorem journalRelease (p : Port) (tag : Byte) (seq : Word32) : Statement (.journalRelease p tag seq) :=
  of_request rfl (by decide) (by rfl)
theorem enrol (p : Port) (tag : Byte) (fields : EnrolFields) : Statement (.enrol p tag fields) :=
  of_request rfl (by decide) (by rfl)
theorem withdraw (p : Port) (tag : Byte) (fleet : Nat) : Statement (.withdraw p tag fleet) :=
  of_request rfl (by decide) (by rfl)
theorem machineSet (p : Port) (tag : Byte) (fleet : Nat) (patch : MachinePatch) : Statement (.machineSet p tag fleet patch) :=
  of_request rfl (by decide) (by rfl)
theorem standDown (p : Port) (tag : Byte) (fleet : Nat) : Statement (.standDown p tag fleet) :=
  of_request rfl (by decide) (by rfl)
theorem returnMachine (p : Port) (tag : Byte) (fleet : Nat) : Statement (.returnMachine p tag fleet) :=
  of_request rfl (by decide) (by rfl)
theorem rebuild (p : Port) (tag : Byte) (fields : RebuildFields) : Statement (.rebuild p tag fields) :=
  of_request rfl (by decide) (by rfl)
theorem setLine (p : Port) (tag : Byte) (fleet : Nat) (line : LineFields) : Statement (.setLine p tag fleet line) :=
  of_request rfl (by decide) (by rfl)
theorem setLineRemove (p : Port) (tag : Byte) (fleet line : Nat) : Statement (.setLineRemove p tag fleet line) :=
  of_request rfl (by decide) (by rfl)
theorem serviceDone (p : Port) (tag : Byte) (fleet line reading : Nat) : Statement (.serviceDone p tag fleet line reading) :=
  of_request rfl (by decide) (by rfl)
theorem waiver (p : Port) (tag : Byte) (fleet line extension : Nat) : Statement (.waiver p tag fleet line extension) :=
  of_request rfl (by decide) (by rfl)
theorem meterChange (p : Port) (tag : Byte) (fleet oldFinal newReading : Nat) : Statement (.meterChange p tag fleet oldFinal newReading) :=
  of_request rfl (by decide) (by rfl)
theorem receiptOpen (p : Port) (tag : Byte) (tank docket : Nat) : Statement (.receiptOpen p tag tank docket) :=
  of_request rfl (by decide) (by rfl)
theorem receiptClose (p : Port) (tag : Byte) (tank : Nat) : Statement (.receiptClose p tag tank) :=
  of_request rfl (by decide) (by rfl)
theorem stockAdjust (p : Port) (tag : Byte) (tank : Nat) (amount : Int) : Statement (.stockAdjust p tag tank amount) :=
  of_request rfl (by decide) (by rfl)
theorem reconcile (p : Port) (tag : Byte) : Statement (.reconcile p tag) :=
  of_request rfl (by decide) (by rfl)
theorem configSet (p : Port) (tag : Byte) (change : ConfigChange) : Statement (.configSet p tag change) :=
  of_request rfl (by decide) (by rfl)
theorem configRead (p : Port) (tag : Byte) (group : Nat) : Statement (.configRead p tag group) :=
  of_request rfl (by decide) (by rfl)
theorem storeRetry (p : Port) (tag : Byte) : Statement (.storeRetry p tag) :=
  of_request rfl (by decide) (by rfl)
theorem clockSet (p : Port) (tag : Byte) (shift : Word32) (ticks : Nat) : Statement (.clockSet p tag shift ticks) :=
  of_request rfl (by decide) (by rfl)
theorem initialise (p : Port) (tag : Byte) : Statement (.initialise p tag) :=
  of_request rfl (by decide) (by rfl)
theorem nozzleStatus (p : Port) (tag : Byte) (nozzle : Nat) : Statement (.nozzleStatus p tag nozzle) :=
  of_request rfl (by decide) (by rfl)
theorem machineRead (p : Port) (tag : Byte) (fleet : Nat) : Statement (.machineRead p tag fleet) :=
  of_request rfl (by decide) (by rfl)
theorem tankStatus (p : Port) (tag : Byte) (tank : Nat) : Statement (.tankStatus p tag tank) :=
  of_request rfl (by decide) (by rfl)
theorem clockRead (p : Port) (tag : Byte) : Statement (.clockRead p tag) :=
  of_request rfl (by decide) (by rfl)
theorem deviceStatus (p : Port) (tag : Byte) (sect : Nat) : Statement (.deviceStatus p tag sect) :=
  of_request rfl (by decide) (by rfl)
theorem nextNotice (p : Port) (tag : Byte) : Statement (.nextNotice p tag) :=
  of_request rfl (by decide) (by rfl)
theorem peekNotice (p : Port) (tag : Byte) : Statement (.peekNotice p tag) :=
  of_request rfl (by decide) (by rfl)
theorem noticeMask (p : Port) (tag : Byte) (kinds : Word32) : Statement (.noticeMask p tag kinds) :=
  of_request rfl (by decide) (by rfl)
theorem attentionSelect (p : Port) (tag : Byte) (conditions : Byte) : Statement (.attentionSelect p tag conditions) :=
  of_request rfl (by decide) (by rfl)
theorem attentionAck (p : Port) (tag : Byte) : Statement (.attentionAck p tag) :=
  of_request rfl (by decide) (by rfl)
theorem badFrame (p : Port) (code tag : Byte) : Statement (.badFrame p code tag) :=
  of_none rfl
theorem unknownRequest (p : Port) (code tag : Byte) : Statement (.unknownRequest p code tag) :=
  of_none rfl
theorem frameTimerExpiry (p : Port) : Statement (.frameTimerExpiry p) :=
  of_none rfl
theorem responseSent (p : Port) : Statement (.responseSent p) :=
  of_none rfl
theorem portReset (p : Port) : Statement (.portReset p) :=
  of_none rfl
theorem reset : Statement .reset :=
  of_none rfl
theorem powerUp (backupHeld : Bool) : Statement (.powerUp backupHeld) :=
  of_none rfl
theorem initialiseReset : Statement .initialiseReset :=
  of_none rfl
theorem tick : Statement .tick :=
  of_none rfl
theorem shiftRollover : Statement .shiftRollover :=
  of_none rfl
theorem meterPulse (n : NozzleId) : Statement (.meterPulse n) :=
  of_none rfl
theorem scanTimerExpiry : Statement .scanTimerExpiry :=
  of_none rfl
theorem sampleComplete (c : ChannelId) (code : BitVec 16) : Statement (.sampleComplete c code) :=
  of_none rfl
theorem creepWindowExpiry (n : NozzleId) : Statement (.creepWindowExpiry n) :=
  of_none rfl
theorem stallTimerExpiry (n : NozzleId) : Statement (.stallTimerExpiry n) :=
  of_none rfl
theorem drainSettleExpiry (n : NozzleId) : Statement (.drainSettleExpiry n) :=
  of_none rfl
theorem holdTimerExpiry (n : NozzleId) : Statement (.holdTimerExpiry n) :=
  of_none rfl
theorem parkTimerExpiry (k : ParkId) : Statement (.parkTimerExpiry k) :=
  of_none rfl
theorem grantTimerExpiry (n : NozzleId) : Statement (.grantTimerExpiry n) :=
  of_none rfl
theorem pumpStartTimerExpiry (t : TankId) : Statement (.pumpStartTimerExpiry t) :=
  of_none rfl
theorem runOnTimerExpiry (t : TankId) : Statement (.runOnTimerExpiry t) :=
  of_none rfl
theorem fetchComplete (result : FetchResult) : Statement (.fetchComplete result) :=
  of_none rfl
theorem writeComplete (ok : Bool) : Statement (.writeComplete ok) :=
  of_none rfl
theorem eraseComplete (ok : Bool) : Statement (.eraseComplete ok) :=
  of_none rfl
theorem headerReadComplete (result : HeaderResult) : Statement (.headerReadComplete result) :=
  of_none rfl
theorem configReadComplete (result : ConfigResult) : Statement (.configReadComplete result) :=
  of_none rfl
theorem configWriteComplete (ok : Bool) : Statement (.configWriteComplete ok) :=
  of_none rfl
theorem portByteReceived (p : Port) (byte : Byte) : Statement (.portByteReceived p byte) :=
  of_none rfl
theorem resetHeldLow : Statement .resetHeldLow :=
  of_none rfl
theorem powerDown : Statement .powerDown :=
  of_none rfl

end Sys2Proof.Laws.RequestCode
end

