-- ==== Sys2Proof/Laws/Requests.lean ====
section
/-! SUPPORT. Laws/Requests.lean: what stands between a command and its block's effect: the end of every event on a READY
part, the tests of a complete frame, the answer joining the line. Later proofs cite these in place of unfolding
`State.event`, `State.admission` or `State.reply`. -/

namespace Sys2Proof.Machine

variable {s : State}

/-! ### The end of an event -/

/-- R12, R185: with the part READY an event ends with the store interface starting what it may. -/
theorem settle_of_ready (h : s.startUp.stage = .ready) : s.settle = s.startStore := by
  simp [State.settle, State.leaveEpoch, State.leaveWrites, h]

theorem event_of_running {k : State → State} (h : s.running = true) : s.event k = .next (k s).settle := if_pos h

theorem event_of_up {k : State → State} (h : s.Up) (hk : (k s).startUp.stage = .ready) :
    s.event k = .next (k s).startStore := by
  rw [event_of_running h.1, settle_of_ready hk]

/-- R184: a part that does not run takes no event. -/
theorem event_of_stopped {k : State → State} (h : s.running = false) : s.event k = .next s := by
  simp [State.event, h]

/-! ### The tests of a frame -/

/-- R167: a port that hears and does not transmit takes a complete frame. -/
theorem takeFrame_hears {p : Port} {k : State → State} (hs : s.startUp.stage ≠ .configuration)
    (hl : (s.port p).line = []) : s.takeFrame p k = k (s.idleAssembler p) := by
  simp [State.takeFrame, State.heard, hs, PortState.transmitting, hl]

@[simp] theorem permits_idleAssembler {p q : Port} {c : ReqCode} {n : Option Nat} :
    (s.idleAssembler p).permits q c n = s.permits q c n := rfl

@[simp] theorem inHand_idleAssembler {p : Port} : ((s.idleAssembler p).port p).inHand = (s.port p).inHand := by
  simp [State.idleAssembler]

@[simp] theorem line_idleAssembler {p : Port} : ((s.idleAssembler p).port p).line = (s.port p).line := by
  simp [State.idleAssembler]

@[simp] theorem notices_idleAssembler {p : Port} : ((s.idleAssembler p).port p).notices = (s.port p).notices := by
  simp [State.idleAssembler]

@[simp] theorem lost_idleAssembler {p : Port} : ((s.idleAssembler p).port p).lost = (s.port p).lost := by
  simp [State.idleAssembler]

/-- R168: every test of a frame at a port that takes it. -/
theorem admission_taken {p : Port} {c : ReqCode} {tag : Byte} {n : Option Nat} {k : State → State}
    (hs : s.startUp.stage ≠ .configuration) (hl : (s.port p).line = []) :
    s.admission p c tag n k =
      if (s.port p).inHand.isSome then (s.idleAssembler p).refuseFrame p c.byte tag .portBusy
      else if s.startUp.stage ≠ .ready ∧ c ≠ .deviceStatus then (s.idleAssembler p).refuseFrame p c.byte tag .starting
      else if s.permits p c n = false then (s.idleAssembler p).refuseFrame p c.byte tag .notPermitted
      else k (s.idleAssembler p) := by
  rw [State.admission, takeFrame_hears hs hl]
  by_cases hr : s.startUp.stage = .ready <;> simp [State.ready, hr]

/-- R168: a frame that passes every test is handed to its block, the assembler IDLE. -/
theorem admission_accepts {p : Port} {c : ReqCode} {tag : Byte} {n : Option Nat} {k : State → State}
    (h : s.Accepts p) (hp : s.permits p c n = true) : s.admission p c tag n k = k (s.idleAssembler p) := by
  obtain ⟨⟨-, hs⟩, hl, hi⟩ := h
  rw [admission_taken (by simp [hs]) hl]
  simp [hi, hs, hp]

/-- R170: a request of the last row is permitted to every role. -/
theorem permits_all {p : Port} {c : ReqCode} {n : Option Nat} (h : c.ofAll = true) : s.permits p c n = true := by
  simp [State.permits, h]

/-- A request that passes its frame's tests, on a READY part, its block leaving the part READY. -/
theorem event_accepts {p : Port} {c : ReqCode} {tag : Byte} {n : Option Nat} {k : State → State} (h : s.Accepts p)
    (hp : s.permits p c n = true) (hk : (k (s.idleAssembler p)).startUp.stage = .ready) :
    (s.event fun x => x.admission p c tag n k) = .next (k (s.idleAssembler p)).startStore := by
  rw [event_of_up h.1 (by rw [admission_accepts h hp]; exact hk), admission_accepts h hp]

/-! ### Answers -/

/-- R188: a refused frame is answered in its own code and tag, with a status and no fields. -/
theorem refuseFrame_idleAssembler {p : Port} {c tag : Byte} {st : Status} (hl : (s.port p).line = []) :
    (s.idleAssembler p).refuseFrame p c tag st =
      s.modPort p fun x => { x with assembler := .idle, line := [⟨c + 0x80, tag, st, .nothing⟩] } := by
  simp only [State.refuseFrame, State.respond, State.idleAssembler, State.modPort_modPort]
  exact State.modPort_congr _ _ _ _ (by simp [hl, responseCode])

theorem reply_idleAssembler {p : Port} {c : ReqCode} {tag : Byte} {st : Status} {f : Payload}
    (h : (s.port p).line = []) : (s.idleAssembler p).reply p c tag st f = s.answered p c tag st f := by
  simp only [State.reply, State.respond, State.idleAssembler, State.modPort_modPort, State.answered]
  exact State.modPort_congr _ _ _ _ (by simp [h, answerTo, responseCode])

/-- R169: the answer to the request in hand joins the line, and nothing is in hand. -/
theorem answer_of_inHand {p : Port} {st : Status} {f : Payload} {h : InHand} (hh : (s.port p).inHand = some h) :
    s.answer p st f = s.modPort p fun x =>
      { x with inHand := none, line := x.line ++ [answerTo h.request.code h.tag st f] } := by
  simp only [State.answer, hh, State.respond, State.modPort_modPort, answerTo, responseCode]

end Sys2Proof.Machine
end

