-- ==== Sys2Proof/WellFormed.lean ====
section
/-! DEFINITION. WellFormed.lean: which commands can come to the part. A request's figures fit the bytes its frame gives
them (R189, R190, R195), a frame's lists fit its count byte, and an UNKNOWN_REQUEST frame carries a code outside the
table of section 12.4. A figure that fits its bytes may still lie outside the range of its rule: refusing it is the
meaning of the command. -/

namespace Sys2Proof

/-- A figure of one byte. -/
def fits1 (n : Nat) : Bool := decide (n < 256)
/-- A figure of two bytes. -/
def fits2 (n : Nat) : Bool := decide (n < 65536)
/-- A figure of four bytes. -/
def fits4 (n : Nat) : Bool := decide (n < 4294967296)
/-- An optional figure. -/
def fitsOpt (f : Nat → Bool) (n : Option Nat) : Bool :=
  match n with
  | none => true
  | some v => f v

/-- R190: a step's parameters fit their bytes, and a kind that names no step is outside 1 to 5. -/
def RawStep.fits : RawStep → Bool
  | .ident f _ v => fits2 f && fits1 v
  | .auth a => fits4 a
  | .run a => fits4 a
  | .hold => true
  | .finish => true
  | .other k => fits1 k && decide (k = 0 ∨ 5 < k)

/-- R195: a service line of a REBUILD. -/
def RebuildLine.fits (l : RebuildLine) : Bool :=
  fits1 l.number && fits1 l.basis && fits4 l.interval && fits4 l.lastDone && fits4 l.warn && fits4 l.grace
    && fits1 l.enforcing && fitsOpt fits4 l.waiver

/-- R195: the line of a SET_LINE. -/
def LineFields.fits (l : LineFields) : Bool :=
  fits1 l.number && fits1 l.basis && fits4 l.interval && fits4 l.lastDone && fits4 l.warn && fits4 l.grace
    && fits1 l.enforcing

/-- R17. -/
def EnrolFields.fits (f : EnrolFields) : Bool :=
  fits2 f.fleet && fits1 f.cls && fits1 f.product && fits4 f.capacity && fitsOpt fits4 f.allowance && fits4 f.reading

/-- R21. -/
def RebuildFields.fits (f : RebuildFields) : Bool :=
  fits2 f.fleet && fits1 f.cls && fits1 f.product && fits4 f.capacity && fits4 f.allowance && fits4 f.reading
    && fits4 f.used && fits4 f.lifetimeFuel && fits4 f.offset && fits1 f.state && decide (f.lines.length < 256)
    && f.lines.all RebuildLine.fits

/-- R19. -/
def MachinePatch.fits (q : MachinePatch) : Bool :=
  fitsOpt fits1 q.cls && fitsOpt fits1 q.product && fitsOpt fits4 q.capacity && fitsOpt fits4 q.allowance

/-- A signed figure of four bytes. -/
def fitsSigned4 (v : Int) : Bool := decide (-2147483648 ≤ v ∧ v < 2147483648)

/-- Whether a command can come to the part. -/
def Instr.wellFormed : Instr → Bool
  | .steps _ _ n l => fits1 n && decide (l.length < 256) && l.all RawStep.fits
  | .start _ _ n => fits1 n
  | .continueList _ _ n => fits1 n
  | .stop _ _ n => fits1 n
  | .abort _ _ n => fits1 n
  | .park _ _ n => fits1 n
  | .resume _ _ t n => fits2 t && fits1 n
  | .meterClear _ _ n => fits1 n
  | .hours _ _ f r => fits2 f && fits4 r
  | .grant _ _ t x => fits2 t && fits4 x
  | .journalFetch _ _ => true
  | .journalRelease _ _ _ => true
  | .enrol _ _ f => f.fits
  | .withdraw _ _ f => fits2 f
  | .machineSet _ _ f q => fits2 f && q.fits
  | .standDown _ _ f => fits2 f
  | .returnMachine _ _ f => fits2 f
  | .rebuild _ _ f => f.fits
  | .setLine _ _ f l => fits2 f && l.fits
  | .setLineRemove _ _ f n => fits2 f && fits1 n
  | .serviceDone _ _ f n r => fits2 f && fits1 n && fits4 r
  | .waiver _ _ f n x => fits2 f && fits1 n && fits4 x
  | .meterChange _ _ f o n => fits2 f && fits4 o && fits4 n
  | .receiptOpen _ _ t d => fits1 t && fits4 d
  | .receiptClose _ _ t => fits1 t
  | .stockAdjust _ _ t a => fits1 t && fitsSigned4 a
  | .reconcile _ _ => true
  | .configSet _ _ _ => true
  | .configRead _ _ g => fits1 g
  | .storeRetry _ _ => true
  | .clockSet _ _ _ t => fits4 t
  | .initialise _ _ => true
  | .nozzleStatus _ _ n => fits1 n
  | .machineRead _ _ f => fits2 f
  | .tankStatus _ _ t => fits1 t
  | .clockRead _ _ => true
  | .deviceStatus _ _ k => fits1 k
  | .nextNotice _ _ => true
  | .peekNotice _ _ => true
  | .noticeMask _ _ _ => true
  | .attentionSelect _ _ _ => true
  | .attentionAck _ _ => true
  | .badFrame _ _ _ => true
  | .unknownRequest _ code _ => (Machine.ReqCode.ofByte code).isNone
  | .frameTimerExpiry _ => true
  | .responseSent _ => true
  | .portReset _ => true
  | .reset => true
  | .powerUp _ => true
  | .initialiseReset => true
  | .tick => true
  | .shiftRollover => true
  | .meterPulse _ => true
  | .scanTimerExpiry => true
  | .sampleComplete _ _ => true
  | .creepWindowExpiry _ => true
  | .stallTimerExpiry _ => true
  | .drainSettleExpiry _ => true
  | .holdTimerExpiry _ => true
  | .parkTimerExpiry _ => true
  | .grantTimerExpiry _ => true
  | .pumpStartTimerExpiry _ => true
  | .runOnTimerExpiry _ => true
  | .fetchComplete _ => true
  | .writeComplete _ => true
  | .eraseComplete _ => true
  | .headerReadComplete _ => true
  | .configReadComplete _ => true
  | .configWriteComplete _ => true
  | .portByteReceived _ _ => true
  | .resetHeldLow => true
  | .powerDown => true

end Sys2Proof
end

