-- ==== Sys2Proof/Tests/Slice0.lean ====
section
/-! SUPPORT. Tests/Slice0.lean: the model's own tests. Ill-formed commands that `Instr.wellFormed` refuses; figures that the
spec works out, against the arithmetic; one step of a command on a small bench; and, for every statement with
hypotheses, a state that meets them, clause by clause. The expected figures come from the spec's worked cases. -/

namespace Sys2Proof.Tests

open Machine

-- One theorem after another: the kernel's evaluations wait for one another, and each wait would hold a thread.
set_option Elab.async false

/-! ### Commands that cannot come to the part -/

theorem test_refuses_nozzle_of_two_bytes : (Instr.start 0 1 256).wellFormed = false := by decide

theorem test_refuses_fleet_of_three_bytes : (Instr.machineRead 0 1 65536).wellFormed = false := by decide

theorem test_refuses_reading_of_five_bytes : (Instr.hours 0 1 7 4294967296).wellFormed = false := by decide

theorem test_refuses_amount_of_five_bytes : (Instr.stockAdjust 0 1 1 2147483648).wellFormed = false := by decide

theorem test_refuses_list_past_its_count :
    (Instr.steps 0 1 1 (List.replicate 256 .hold)).wellFormed = false := by decide +kernel

theorem test_refuses_step_kind_that_is_a_step : (Instr.steps 0 1 1 [.other 4]).wellFormed = false := by decide

theorem test_refuses_wide_step_figures :
    (Instr.steps 0 1 1 [.ident 65536 0 0]).wellFormed = false
    ∧ (Instr.steps 0 1 1 [.auth 4294967296]).wellFormed = false
    ∧ (Instr.steps 0 1 1 [.run 4294967296]).wellFormed = false := by decide

theorem test_refuses_known_code_as_unknown : (Instr.unknownRequest 0 0x44 1).wellFormed = false := by decide

theorem test_refuses_wide_enrol_figure :
    (Instr.enrol 0 1 { fleet := 7, cls := 256, product := 1, capacity := 1, tag := 0, allowance := none,
                       reading := 0 }).wellFormed = false := by decide

theorem test_refuses_wide_line_figure :
    (Instr.setLine 0 1 7 { number := 256, basis := 0, interval := 1, lastDone := 0, warn := 0, grace := 0,
                           enforcing := 0 }).wellFormed = false := by decide

/-- A line of a REBUILD whose waiver does not fit. -/
def wideLine : RebuildLine :=
  { number := 1, basis := 0, interval := 1, lastDone := 0, warn := 0, grace := 0, enforcing := 0,
    waiver := some 4294967296 }

theorem test_refuses_wide_rebuild_line :
    (Instr.rebuild 0 1 { fleet := 7, cls := 0, product := 1, capacity := 1, tag := 0, allowance := 0, reading := 0,
                         used := 0, lifetimeFuel := 0, offset := 0, lines := [wideLine],
                         state := 0 }).wellFormed = false := by decide

theorem test_refuses_wide_patch_figure :
    (Instr.machineSet 0 1 7 { cls := some 256, product := none, capacity := none, tag := none,
                              allowance := none }).wellFormed = false := by decide

theorem test_takes_figures_out_of_range : (Instr.start 0 1 9).wellFormed = true := by decide

/-! ### Figures the spec works out -/

/-- R188: the check figure of the generator 0x1021 from 0xFFFF, bits most significant first, over "123456789". -/
theorem test_crc_check_figure :
    crc [0x31, 0x32, 0x33, 0x34, 0x35, 0x36, 0x37, 0x38, 0x39] = 0x29B1 := by decide +kernel

/-- R45's table at K_m 98,500 and the worked case of section 3.2. -/
theorem test_gross : grossOf 66 98500 = 67 ∧ grossOf 65 98500 = 65 ∧ grossOf 41370 98500 = 42000 := by decide

/-- R47's roundings. -/
theorem test_average_temperature :
    avgTemp 16905000 42000 0 = 403 ∧ avgTemp 16904999 42000 0 = 402 ∧ avgTemp (-10) 4 0 = -3
    ∧ avgTemp (-9) 4 0 = -2 ∧ avgTemp 0 0 250 = 250 := by decide

/-- R48's table. -/
theorem test_correction_factor :
    ctlOf 830 403 = 979001 ∧ ctlOf 835 403 = 978874 ∧ ctlOf 835 97 = 1004426 ∧ ctlOf 2000 700 = 900000
    ∧ ctlClamped 2000 700 = true ∧ ctlOf 2000 (-390) = 1100000 ∧ ctlClamped 835 97 = false := by decide

/-- R49: the whole leg of section 3.2, the second leg of section 3.3, and the half at the clamp. -/
theorem test_net_volume : netOf 42000 979001 = 41118 ∧ netOf 10000 983400 = 9834 ∧ netOf 10000 900000 = 9000 := by
  decide

/-- Section 3.4, tank T2: both probes good, and the temperature probe failed. -/
theorem test_gauge :
    let pts : List StrapPoint := [⟨200, 4100⟩, ⟨1200, 38000⟩, ⟨1400, 44600⟩, ⟨3000, 92000⟩]
    (gaugeOf pts ⟨830, 250⟩ (some 1337) (some 336)).net = some 4186456
    ∧ (gaugeOf pts ⟨830, 250⟩ (some 1337) none).net = some 4216808
    ∧ (gaugeOf pts ⟨830, 250⟩ (some 1337) none).substituted = true
    ∧ (gaugeOf pts ⟨830, 250⟩ (some 3000) none).overGauge = true
    ∧ (strapVolume pts 1337) = (4252100, false) := by decide

/-- R35: 4 mA and 20 mA on the default temperature span, and the ends of validity. -/
theorem test_sample_value :
    sampleValue ⟨-400, 850⟩ 10486 = -400 ∧ sampleValue ⟨-400, 850⟩ 52429 = 850
    ∧ sampleValue ⟨-400, 850⟩ 9437 = -400 ∧ sampleValid 9436 = false ∧ sampleValid 9437 = true
    ∧ sampleValid 55050 = true ∧ sampleValid 55051 = false := by decide

/-- Section 4.2, tank T2 through a day: the tiers at its usable stocks. -/
theorem test_tiers :
    let t2 : TankConfig :=
      { defaultTank with capacity := 9200000, tier1 := 2000000, tier2 := 1200000, reserve := 600000, floor := 250000 }
    nextTier t2 2298000 .normal = .normal ∧ nextTier t2 1998000 .normal = .tier1
    ∧ nextTier t2 2004000 .tier1 = .tier1 ∧ nextTier t2 1104000 .tier1 = .tier2
    ∧ nextTier t2 2500000 .tier2 = .normal := by decide

/-- Section 8.1, line 2 of machine 602: the bands around a due point of 46,230. -/
theorem test_bands :
    bandOf 46029 46230 200 100 = .current ∧ bandOf 46030 46230 200 100 = .dueSoon
    ∧ bandOf 46229 46230 200 100 = .dueSoon ∧ bandOf 46230 46230 200 100 = .due
    ∧ bandOf 46329 46230 200 100 = .due ∧ bandOf 46330 46230 200 100 = .overdue := by decide

/-- Section 6.3, machine 214: E at TIER1, the cap of a restricted machine, and the three terms. -/
theorem test_authorisation_terms :
    let haul : ClassConfig := { defaultClass with grantEligible := true, ration := 40000, defaultAllowance := 180000 }
    effective defaultConfiguration.authorisation haul .tier1 180000 = some 135000
    ∧ effective defaultConfiguration.authorisation haul .reserve 180000 = none
    ∧ capOf haul true 135000 = (40000, .restriction) ∧ capOf haul false 135000 = (135000, .allowance)
    ∧ requestTerm .fill 454200 0 = 454200 ∧ allowanceTerm 135000 62500 0 = 72500
    ∧ factorOf 72500 454200 72500 .allowance = .allowance := by decide

/-- R145: the limit an hour after the last post, with the default tolerance. -/
theorem test_jump_limit : jumpLimit 7200 2 = 12 := by decide

/-! ### A bench: a READY part with one port of each role and machine 7 in the cache -/

def benchConfig : Configuration :=
  { defaultConfiguration with
    ports := #v[⟨.island, 19200⟩, ⟨.fleet, 19200⟩, ⟨.workshop, 19200⟩, ⟨.monitor, 19200⟩],
    nozzles := Tab.all 8 { defaultNozzle 0 with enabled := true },
    tanks := defaultConfiguration.tanks.write 0 { defaultTank with enabled := true },
    time := { shiftLength := 86400, epoch := 5 } }

/-- READY, the cache empty, tank 1 with known stock and a known gauge. -/
def bench : State :=
  { State.reset with
    startUp := { State.reset.startUp with stage := .ready }, table := coldTable, config := benchConfig,
    tanks := State.reset.tanks.write 0
      { coldTank with book := some 5000000, tier := .normal, gauge := { invalidGauge with net := some 5000000 } } }

def serviceLine : ServiceLine :=
  { number := 1, basis := .hours, interval := 500, lastDone := 600, warn := 50, grace := 20, enforcing := true,
    waiver := none, state := .current }

def machine7 : MachineRecord :=
  { fleet := 7, cls := 0, stoodDown := false, product := 0, capacity := 400000, tag := 0xA1, allowance := 300000,
    used := 1000, usageShift := 0, lifetimeFuel := 5000, reading := 1000, offset := 0,
    stamp := some { epoch := 5, time := 0 }, lines := [serviceLine], restricted := false, openTicket := none }

/-- Machine 7 enrolled in slot 3, its record not in the cache. -/
def stored : State := bench.modTable fun t =>
  { t with index := [{ fleet := 7, slot := 3, damaged := false }], slots := t.slots.write 3 .used }

/-- The record of machine 7 CLEAN in line 0. -/
def cached : State := stored.modLine 0 fun x => { x with content := .held .clean 3 machine7 }

def delivery7 : Delivery :=
  { blankDelivery with ticket := 1, fleet := 7, line := some 0, product := some 0, requested := some .fill,
                       limit := 100000, factor := some .request, legs := [newLeg 0] }

/-- Nozzle 1 with a delivery of machine 7, in the third of four steps, in the state given. -/
def atNozzle (x : NozzleState) : State :=
  ({ cached with journal := { cached.journal with reservations := 1 } }.modCtx 0 fun c =>
    { c with state := x, delivery := some delivery7, pointer := 2,
             steps := [.ident 7 0xA1 true, .auth .fill, .run 0, .hold] }).modMeter 0 fun m =>
      { m with state := .inUse, bound := true, proven := true }

/-- The channel a nozzle's temperature comes from, GOOD at 38.0 °C. -/
def warm (s : State) : State :=
  { s with scanner := { s.scanner with
      channels := s.scanner.channels.write 0 { state := .good, value := some 380, hold := 0, settle := 0 } } }

/-- The state after a command, the bench itself where there is none. -/
def after (c : Instr) (s : State) : State :=
  match exec c s with
  | .next t => t
  | .fault _ => s
  | .refused _ => s

/-- A response on port A's line. -/
def sending : State := bench.modPort 0 fun x => { x with line := [answerTo .initialise 1 .ok .nothing] }

/-- The statuses on a port's line. -/
def statuses (p : Port) (s : State) : List Status := (s.port p).line.map fun r => r.status

/-! ### One step of each kind of command -/

theorem test_status_requests_answer :
    statuses 3 (after (.nozzleStatus 3 1 8) bench) = [.ok] ∧ statuses 3 (after (.tankStatus 3 1 5) bench) = [.badField]
    ∧ statuses 3 (after (.clockRead 3 1) bench) = [.ok] ∧ statuses 3 (after (.deviceStatus 3 1 5) bench) = [.badField]
    ∧ statuses 3 (after (.nextNotice 3 1) bench) = [.empty] ∧ statuses 3 (after (.peekNotice 3 1) bench) = [.empty]
    ∧ statuses 3 (after (.noticeMask 3 1 1) bench) = [.badField]
    ∧ statuses 3 (after (.attentionSelect 3 1 7) bench) = [.ok]
    ∧ statuses 3 (after (.attentionAck 3 1) bench) = [.ok]
    ∧ statuses 3 (after (.machineRead 3 1 7) cached) = [.ok] := by decide +kernel

theorem test_roles_are_kept :
    statuses 3 (after (.storeRetry 3 1) bench) = [.notPermitted]
    ∧ statuses 1 (after (.steps 1 1 1 []) bench) = [.notPermitted]
    ∧ statuses 0 (after (.start 0 1 9) bench) = [.notPermitted] := by decide +kernel

theorem test_steps_then_start :
    let list : List RawStep := [.ident 7 0xA1 1, .auth 0, .run 0, .finish]
    let loaded := after (.steps 0 1 1 list) cached
    let started := after (.start 0 2 1) { loaded with ports := bench.ports }
    ((loaded.ctx 0).state = .loaded ∧ statuses 0 loaded = [.ok])
    ∧ (started.ctx 0).state = .priming ∧ (started.line 0).pinned = true ∧ (started.tank 0).pump.state = .starting
    ∧ started.ticketCounter = 2 ∧ started.journal.reservations = 1 ∧ (started.delivery 0).limit = 299000 := by
  decide +kernel

theorem test_bad_list_refused :
    statuses 0 (after (.steps 0 1 1 [.ident 7 0 0, .run 0, .finish]) bench) = [.badList] := by decide +kernel

theorem test_full_flow_pulse :
    let s := warm (atNozzle .flowFull)
    let t := after (.meterPulse 0) s
    (t.meter 0).count = 1 ∧ (t.delivery 0).running = 1 ∧ (t.ctx 0).stall = some 90 := by decide +kernel

theorem test_stray_pulse_faults :
    let s := bench.modMeter 0 fun m => { m with stray := 19 }
    ((after (.meterPulse 0) s).meter 0).state = .faulted := by decide +kernel

theorem test_stop_then_drain :
    let t := after (.stop 0 1 1) (atNozzle .flowFull)
    (t.ctx 0).state = .draining ∧ (t.ctx 0).drain = some 4 ∧ statuses 0 t = [.ok]
    ∧ ((after (.drainSettleExpiry 0) (t.modCtx 0 fun c => { c with drain := some 0 })).ctx 0).state = .held := by
  decide +kernel

theorem test_abort_of_a_hold_finishes :
    let t := after (.abort 0 1 1) (atNozzle .held)
    (t.ctx 0).state = .free ∧ t.journal.entries.length = 1 ∧ t.journal.nextSeq = 2 := by decide +kernel

theorem test_park_and_resume :
    let t := after (.park 0 1 1) (atNozzle .held)
    let u := after (.resume 0 2 1 2) { t with ports := bench.ports }
    (t.ctx 0).state = .free ∧ (t.slot 0 ≠ .empty)
    ∧ (u.ctx 1).state = .held ∧ (u.delivery 1).legs.length = 2 ∧ u.slot 0 = .empty := by decide +kernel

theorem test_hours_clamped :
    let s : State := { cached with clock := { cached.clock with siteTime := 7200 } }
    let t := after (.hours 1 1 7 2000) s
    statuses 1 t = [.okClamped] ∧ ((t.cached 7).map fun r => r.reading) = some 1012 := by decide +kernel

theorem test_enrol_takes_lowest_slot :
    let f : EnrolFields :=
      { fleet := 9, cls := 0, product := 1, capacity := 1000, tag := 0, allowance := none, reading := 0 }
    let t := after (.enrol 2 1 f) cached
    statuses 2 t = [.ok] ∧ (t.entry 9).map (fun e => e.slot) = some 0
    ∧ t.table.inFlight.map (fun x => x.op) = some (.write 1 0) := by decide +kernel

theorem test_store_faults_at_third_failure :
    let s : State := { cached with table := { cached.table with
      failures := 2, inFlight := some { op := .write 0 3, data := .record machine7, discarded := false } } }
    (after (.writeComplete false) s).table.faulted = true := by decide +kernel

theorem test_tick_counts :
    let t := after .tick (atNozzle .flowFull)
    t.clock.siteTime = 1 ∧ t.clock.ticks = 1 ∧ t.scanner.timer = 1 := by decide +kernel

/-- R177: the port whose line has broken is reset once; a second break before its line has returned high resets nothing. -/
theorem test_break_resets_once :
    let broken := after (.portReset 0) sending
    let again := after (.portReset 0) (broken.modPort 0 fun x => { x with line := (sending.port 0).line })
    (broken.port 0).line = [] ∧ (broken.port 0).receive = .low ∧ (again.port 0).line = (sending.port 0).line
    ∧ ((after .tick (after .tick broken)).port 0).receive = .high := by decide +kernel

/-- R179, R180: under a RESET held low the shift clock goes on, and rolls over. -/
theorem test_tick_under_reset :
    let s := after .resetHeldLow { bench with clock := { bench.clock with ticks := 86399, shift := 4 } }
    (after .tick s).clock.shift = 5 ∧ (after .tick s).clock.ticks = 0 := by decide +kernel

/-- R137: a METER_CHANGE that would carry the lifetime hours' sum past its bound. -/
theorem test_meter_change_sum :
    meterChanged 999999 12 { machine7 with offset := 99000001 } = .inl .badReading
    ∧ (meterChanged 999999 12 { machine7 with offset := 99000000 }).isRight = true := by decide +kernel

/-- What is left in the queue after a step. -/
def queueAfter (s : State) : Option (List Instr) :=
  match step s with
  | .next t => some t.pending
  | .fault _ => none
  | .refused _ => none

theorem test_step_takes_the_front :
    queueAfter { bench with pending := [.powerDown, .tick] } = some [.tick] ∧ queueAfter bench = some [] := by
  decide +kernel

/-! ### States that meet the hypotheses of the statements, clause by clause -/

/-- The bench in another stage of start-up. -/
def starting (x : Stage) : State := { bench with startUp := { bench.startUp with stage := x } }

/-- A request in hand at port A. -/
def waiting : State := bench.modPort 0 fun x => { x with inHand := some { tag := 1, request := .machineRead 7 } }

def notice1 : Notice := { time := 0, body := .storeState true }

/-- A queue of notices at port A. -/
def queued (k : Nat) : State := bench.modPort 0 fun x => { x with notices := List.replicate k notice1 }

/-- An operation in flight, in a state of the store's. -/
def inFlight (op : StoreOp) (s : State) : State :=
  { s with table := { s.table with inFlight := some { op := op, data := .nothing, discarded := false } } }

def entry1 (seq : Word32) : JournalEntry := { bench.entryFor delivery7 .complete with seq := seq }

/-- A journal of two entries. -/
def journalled : State := { bench with journal := { entries := [entry1 1, entry1 2], reservations := 0, nextSeq := 3 } }

theorem witness_StepTakesFrontCommand : bench.pending = [] := by decide

theorem witness_JournalNumbersStayConsecutive :
    journalled.journal.Consecutive ∧ exec .tick journalled = .next (after .tick journalled) := by
  refine ⟨by decide +kernel, rfl⟩

theorem witness_NoticeQueuesStayBounded :
    (queued 32).NoticesBounded ∧ exec .tick (queued 32) = .next (after .tick (queued 32)) := by
  refine ⟨by decide +kernel, rfl⟩

/-- No record but machine 7's stands in the cache of `cached`. -/
theorem cached_records_sound : cached.RecordsSound := by
  intro l st k r h
  have h0 : (cached.line 0).content = .held .clean 3 machine7 := by decide +kernel
  have he : ∀ j : LineId, j ≠ 0 → (cached.line j).content = .empty := by decide +kernel
  by_cases hl : l = 0
  · rw [hl, h0] at h
    cases h
    decide
  · rw [he l hl] at h
    cases h

theorem witness_CachedRecordsStaySound :
    let s : State := { inFlight (.fetch 1 3 false) cached with pending := [.fetchComplete (.record machine7)] }
    s.RecordsSound ∧ machine7.Sound ∧ (∃ t, step s = .next t)
    ∧ ({ machine7 with lines := [{ serviceLine with state := .overdue }], restricted := true } : MachineRecord).Sound
    ∧ ¬ ({ machine7 with restricted := true } : MachineRecord).Sound
    ∧ ¬ ({ machine7 with lines := [serviceLine, serviceLine] } : MachineRecord).Sound := by
  exact ⟨cached_records_sound, by decide, ⟨_, rfl⟩, by decide, by decide, by decide⟩

theorem witness_RefusedFramesTouchNothing :
    (Instr.clockRead 0 1).request = some (0, .clockRead, 1, none)
    ∧ (Instr.steps 2 1 1 []).request = some (2, .steps, 1, some 1)
    ∧ ((starting .configuration).running = true ∧ (starting .configuration).startUp.stage = .configuration)
    ∧ (sending.running = true ∧ sending.startUp.stage ≠ .configuration ∧ (sending.port 0).line ≠ [])
    ∧ (waiting.running = true ∧ waiting.startUp.stage ≠ .configuration ∧ (waiting.port 0).line = []
      ∧ (waiting.port 0).inHand.isSome = true)
    ∧ ((starting .writes).running = true ∧ (starting .writes).startUp.stage ≠ .configuration
      ∧ (starting .writes).startUp.stage ≠ .ready ∧ ((starting .writes).port 0).line = []
      ∧ ((starting .writes).port 0).inHand = none ∧ ReqCode.clockRead ≠ .deviceStatus)
    ∧ (bench.running = true ∧ bench.startUp.stage = .ready ∧ (bench.port 2).line = [] ∧ (bench.port 2).inHand = none
      ∧ bench.permits 2 .steps (some 1) = false)
    ∧ (bench.Up ∧ (bench.port 0).line = [] ∧ waiting.Up) := by
  refine ⟨rfl, rfl, ?_⟩
  decide +kernel

/-- Port A's assembler in the state given. -/
def assembling (x : Assembler) : State := bench.modPort 0 fun y => { y with assembler := x }

theorem witness_AssemblerTakesBytes :
    let start := assembling (.assembling [] 2)
    let part := assembling (.assembling [2, 0x43] 2)
    let late := assembling (.assembling [2] 0)
    bench.Up ∧ (late.Up ∧ (late.port 0).assembler = .assembling [2] 0)
    ∧ (sending.Up ∧ (sending.port 0).line ≠ [])
    ∧ ((bench.port 0).line = [] ∧ (bench.port 0).assembler = .idle ∧ (0x5B : Byte) ≠ 0x5A)
    ∧ (start.Up ∧ (start.port 0).line = [] ∧ (start.port 0).assembler = .assembling [] 2)
    ∧ (2 ≤ (2 : Byte).toNat ∧ (200 : Byte).toNat ≤ 200 ∧ (1 : Byte).toNat < 2 ∧ 200 < (201 : Byte).toNat)
    ∧ (part.Up ∧ (part.port 0).line = [] ∧ (part.port 0).assembler = .assembling (2 :: [0x43]) 2
      ∧ [(0x43 : Byte)].length + 1 < (2 : Byte).toNat + 2) := by decide +kernel

theorem witness_CompletedFrameIsItsRequest :
    let s := assembling (.assembling [2, 0x43, 1, 0xEA] 2)
    s.Up ∧ (s.port 0).line = [] ∧ (s.port 0).assembler = .assembling ((2 : Byte) :: 0x43 :: 1 :: [] ++ [0xEA]) 2
    ∧ (2 : Byte).toNat = ([] : List Byte).length + 2 ∧ [(0xEA : Byte)].length = 1
    ∧ numberOf ([0xEA] ++ [0x42]) = (crc (2 :: 0x43 :: 1 :: [])).toNat
    ∧ ReqCode.ofByte 0x43 = some .clockRead ∧ requestOf 0 1 .clockRead [] = some (.clockRead 0 1) := by decide +kernel

/-- A frame whose body has not the length its code calls for, all but its last byte in port A's assembler. -/
def oddFrame (bytes : List Byte) (s : State) : State :=
  s.modPort 0 fun y => { y with assembler := .assembling bytes 2 }

/-- START with a byte too many and with none, CLOCK_READ and DEVICE_STATUS likewise: R168's tests in their order. -/
theorem witness_RefusedFramesTouchNothing_length :
    let start : List Byte := [4, 0x02, 1, 1, 0, 0x71]
    let clock : List Byte := [3, 0x43, 1, 0, 0x68]
    let answered (bytes : List Byte) (b : Byte) (s : State) : List Status :=
      statuses 0 (after (.portByteReceived 0 b) (oddFrame bytes s))
    (¬ ReqCode.start.Fits [1, 0] ∧ ¬ ReqCode.start.Fits [] ∧ ¬ ReqCode.clockRead.Fits [0]
      ∧ ¬ ReqCode.rebuild.Fits (List.replicate 33 0) ∧ ReqCode.setLine.Fits [0, 7, 1, 4])
    ∧ ((oddFrame start bench).running = true ∧ (oddFrame start bench).startUp.stage = .ready
      ∧ ((oddFrame start bench).port 0).line = []
      ∧ ((oddFrame start bench).port 0).assembler = .assembling ((4 : Byte) :: 0x02 :: 1 :: [1, 0] ++ [0x71]) 2
      ∧ (4 : Byte).toNat = [(1 : Byte), 0].length + 2
      ∧ numberOf ([0x71] ++ [0x63]) = (crc (4 :: 0x02 :: 1 :: [1, 0])).toNat ∧ ReqCode.ofByte 0x02 = some .start
      ∧ requestOf 0 1 .start [1, 0] = none ∧ bench.permits 0 .start (([(1 : Byte), 0][0]?).map fun x => x.toNat) = true)
    ∧ (answered start 0x63 bench = [.badField] ∧ answered [2, 0x02, 1, 0xD4] 0xBF bench = [.notPermitted]
      ∧ answered clock 0xD0 bench = [.badField] ∧ answered clock 0xD0 waiting = [.portBusy]
      ∧ answered clock 0xD0 (starting .writes) = [.starting]
      ∧ answered [2, 0x44, 1, 0x73] 0xD5 (starting .writes) = [.badField]) := by
  intro start clock answered
  refine ⟨⟨?_, ?_, ?_, ?_, ?_⟩, by decide +kernel, by decide +kernel⟩
  · exact fun h => absurd (h.1 1 rfl) (by decide)
  · exact fun h => absurd (h.1 1 rfl) (by decide)
  · exact fun h => absurd (h.1 0 rfl) (by decide)
  · exact fun h => absurd (h.2.2.1 rfl) (by decide)
  · exact ⟨nofun, nofun, nofun, fun _ => rfl⟩

/-- R191: a list of an IDENT and a HOLD fills nine bytes, and not eight. -/
theorem witness_RefusedFramesTouchNothing_steps :
    StepsFill 2 [0x01, 0, 7, 0, 0, 0, 0xA1, 1, 0x04] ∧ ReqCode.steps.Fits [1, 1, 0x04]
    ∧ requestOf 0 1 .steps [1, 2, 0x01, 0, 7, 0, 0, 0, 0xA1, 1] = none := by
  refine ⟨⟨[[0x01, 0, 7, 0, 0, 0, 0xA1, 1], [0x04]], rfl, rfl, ?_⟩, ⟨nofun, fun _ => ?_, nofun, nofun⟩, by decide⟩
  · intro x hx
    rcases List.mem_cons.1 hx with rfl | hx
    · exact ⟨_, _, rfl, rfl⟩
    · rw [List.mem_singleton.1 hx]
      exact ⟨_, _, rfl, rfl⟩
  · refine ⟨1, 1, [0x04], rfl, [[0x04]], rfl, rfl, fun x hx => ?_⟩
    rw [List.mem_singleton.1 hx]
    exact ⟨_, _, rfl, rfl⟩

theorem witness_SentResponseLeavesLine :
    sending.Up ∧ (sending.port 0).line = answerTo .initialise 1 .ok .nothing :: [] := by decide +kernel

/-- Port A's receive line as given. -/
def hearing (x : ReceiveLine) : State := waiting.modPort 0 fun y => { y with receive := x }

theorem witness_BreakResetsItsPort :
    (∀ x, x ∈ [ReceiveLine.high, .low, .lowBefore] →
      (hearing x).Up ∧ (∀ l, Requester.port 0 ∉ ((hearing x).line l).waiters) ∧ (hearing x).table.lineWait = []
      ∧ (∀ op ∈ (hearing x).table.queue, op.askedBy 0 = false) ∧ (hearing x).table.inFlight = none
      ∧ ((hearing x).port 0).receive = x)
    ∧ StoreOp.askedBy 0 (.erase 3 (some 2)) = false := by decide +kernel

theorem witness_BreakWithdrawsItsRequest :
    let s : State := { stored with table := { stored.table with
      slots := stored.table.slots.write 3 .erasing, queue := [.erase 3 (some 2)],
      lineWait := [(8, [.port 2, .port 1]), (9, [.port 2])] } }
    (s.Up ∧ (s.port 2).receive = .high ∧ s.table.inFlight = none ∧ StoreOp.erase 3 (some 2) ∈ s.table.queue
      ∧ StoreOp.erase 4 (some 2) ∉ s.table.queue ∧ (3 : Port) ≠ 2)
    ∧ ((inFlight (.erase 5 (some 2)) s).table.inFlight
      = some { op := .erase 5 (some 2), data := .nothing, discarded := false })
    ∧ StoreOp.askedBy 2 (.erase 5 (some 1)) = false ∧ StoreOp.askedBy 2 .configWrite = false := by decide +kernel

theorem witness_NoticeEntersQueue :
    let masked := bench.modPort 0 fun x => { x with mask := 0x00040000 }
    let kind := NoticeBody.storeState true
    maskHas (masked.port 0).mask kind.kind = true
    ∧ (maskHas ((queued 15).port 0).mask kind.kind = false ∧ ((queued 15).port 0).notices.length < 32)
    ∧ (maskHas ((queued 31).port 0).mask kind.kind = false ∧ ((queued 31).port 0).notices.length < 32)
    ∧ (maskHas ((queued 32).port 0).mask kind.kind = false ∧ 32 ≤ ((queued 32).port 0).notices.length) := by
  decide +kernel

theorem witness_NoticesReadOldestFirst :
    (bench.Accepts 3 ∧ (bench.port 3).notices = [])
    ∧ ((queued 2).Accepts 0 ∧ ((queued 2).port 0).notices = notice1 :: [notice1]) := by decide +kernel

theorem witness_NoticeMaskReplaced :
    bench.Accepts 3
    ∧ (∀ i : Fin 32, (0x00040002 : Word32).getLsbD i = true → 1 ≤ i.val ∧ i.val ≤ 18)
    ∧ (0x00040002 : Word32).getLsbD (NoticeBody.storeState true).kind.code = true
    ∧ (0x00040002 : Word32).getLsbD (NoticeBody.deliveryStage (.identified 1 7 0)).kind.code = true
    ∧ (0x00000001 : Word32).getLsbD (0 : Fin 32).val = true
    ∧ (0x00080000 : Word32).getLsbD (19 : Fin 32).val = true := by decide +kernel

theorem witness_AttentionSelectedAndAcknowledged :
    bench.Accepts 3 ∧ (7 : Byte).toNat < 8 ∧ 8 ≤ (8 : Byte).toNat := by decide +kernel

theorem witness_StatusRequestsOnlyAnswer :
    bench.Accepts 3
    ∧ ((starting .epoch).running = true ∧ (starting .epoch).startUp.stage ≠ .configuration
      ∧ (starting .epoch).startUp.stage ≠ .ready ∧ ((starting .epoch).port 3).line = []
      ∧ ((starting .epoch).port 3).inHand = none)
    ∧ (List.range 5).map (fun k => statuses 3 (after (.deviceStatus 3 1 k) (starting .epoch))) =
      List.replicate 5 [.ok]
    ∧ (8 : ChannelId).val = 8 + (0 : TankId).val ∧ (15 : ChannelId).val = 12 + (3 : TankId).val := by decide +kernel

theorem witness_NumbersOutOfRangeAreBadField :
    bench.Accepts 2 ∧ bench.role 2 = .workshop ∧ 9 < 10 ∧ 4 < 5
    ∧ statuses 2 (after (.receiptOpen 2 1 4 100) bench) = [.badField]
    ∧ statuses 2 (after (.receiptOpen 2 1 1 100) bench) = [.ok]
    ∧ (∀ k, k ∈ [0, 5] → statuses 2 (after (.receiptOpen 2 1 k 100) bench) = [.badField]
      ∧ statuses 2 (after (.receiptClose 2 1 k) bench) = [.badField]
      ∧ statuses 2 (after (.stockAdjust 2 1 k 0) bench) = [.badField]) := by decide +kernel

/-- Power good or bad, as the reset paths test it. -/
def powerOf (p : Power) : State := { cached with power := p }

theorem witness_ColdResetClearsEverything :
    let lost := powerOf { powered := true, resetLow := false, checkGood := false, initialiseDue := true }
    lost.Up ∧ lost.power.powered = true ∧ lost.power.checkGood = false ∧ lost.power.initialiseDue = true
    ∧ lost.power.resetLow = false ∧ (lost.power.checkGood && true) = false
    ∧ (cached.power.checkGood && false) = false := by decide +kernel

/-- Line 0 with the content given. -/
def lineOf0 (x : LineContent) : State := stored.modLine 0 fun y => { y with content := x }

theorem witness_WarmResetRetains :
    let due := powerOf { powered := true, resetLow := false, checkGood := true, initialiseDue := true }
    (due.Up ∧ due.power.checkGood = true ∧ due.power.powered = true ∧ due.power.resetLow = false
      ∧ due.power.initialiseDue = true)
    ∧ (stored.power.checkGood = true ∧ ((lineOf0 .empty).line 0).content = .empty
      ∧ ((lineOf0 (.fetching 7 3)).line 0).content = .fetching 7 3
      ∧ ((lineOf0 (.held .clean 3 machine7)).line 0).content = .held .clean 3 machine7
      ∧ ((lineOf0 (.held .dirty 3 machine7)).line 0).content = .held .dirty 3 machine7
      ∧ ((lineOf0 (.held .writing 3 machine7)).line 0).content = .held .writing 3 machine7) := by decide +kernel

theorem witness_StoppedPartStandsStill :
    (∀ k, k ∈ [86398, 86399] →
      let low := powerOf { powered := true, resetLow := true, checkGood := true, initialiseDue := false }
      let s : State := { low with clock := { low.clock with ticks := k } }
      s.running = false ∧ s.power.powered = true ∧ s.power.resetLow = true ∧ s.clock.rolloverDue = false
      ∧ (s.clock.ticks + 1 < s.config.time.shiftLength ↔ k = 86398))
    ∧ (powerOf { powered := false, resetLow := false, checkGood := true, initialiseDue := false }).power.powered = false
    ∧ Instr.clockRead 0 1 ≠ .tick ∧ Instr.clockRead 0 1 ≠ .reset ∧ Instr.clockRead 0 1 ≠ .resetHeldLow
    ∧ Instr.clockRead 0 1 ≠ .powerDown := by decide +kernel

/-- Start-up in a stage, on the cold or the warm path, with an operation in flight. -/
def startingWith (x : Stage) (cold : Bool) (op : StoreOp) (s : State) : State :=
  { inFlight op s with startUp := { s.startUp with stage := x, cold := cold } }

theorem witness_ConfigurationLoaded :
    (∀ cold retry,
      let s := startingWith .configuration cold (.configRead retry) bench
      s.running = true ∧ s.startUp.stage = .configuration ∧ s.table.faulted = false ∧ s.table.queue = []
      ∧ s.table.inFlight = some { op := .configRead retry, data := .nothing, discarded := false }
      ∧ s.startUp.cold = cold ∧ ∀ p, (s.port p).inHand = none)
    ∧ ConfigResult.failed ≠ .badCheck
    ∧ (let s := startingWith .epoch true .configWrite bench
      s.running = true ∧ s.startUp.stage = .epoch ∧ s.table.faulted = false ∧ s.table.queue = []
      ∧ s.table.inFlight = some { op := .configWrite, data := .nothing, discarded := false }
      ∧ (∀ p, (s.port p).inHand = none) ∧ s.table.failures + 1 < 3) := by decide +kernel

theorem witness_HeaderReadBuildsIndex :
    (∀ retry,
      let s := startingWith .index true (.headerRead 510 retry) stored
      s.running = true ∧ s.startUp.stage = .index ∧ s.table.faulted = false ∧ s.table.queue = []
      ∧ s.table.inFlight = some { op := .headerRead 510 retry, data := .nothing, discarded := false }
      ∧ s.slotHolder 510 = none ∧ s.table.failures + 1 < 3)
    ∧ (stored.entry 1 = none ∧ stored.entry 9999 = none ∧ (stored.entry 7).isSome = true)
    ∧ (startingWith .index false (.headerRead 3 false) cached).slotHolder 3 = some 7
    ∧ (let e (f : Nat) : IndexEntry := { fleet := f, slot := 3, damaged := false }
      [e 6, e 8].Pairwise (fun a b => a.fleet < b.fleet) ∧ (∀ x ∈ [e 6, e 8], x.fleet ≠ (e 7).fleet)) := by
  decide +kernel

/-- A slot of the park table in use. -/
def parked : State :=
  bench.setSlot 1 (.holding { delivery := { delivery7 with wait := none }, parkingPort := 0, nozzleLeft := 2,
                              reason := .request, time := 0, timer := 0 })

/-- Start-up on the warm path with open business of every kind: a LOADED and an open context, a slot of each state, a
receipt, and line 0 as given. -/
def openBusiness (st : HeldState) : State :=
  let r : Receipt :=
    { docket := 1000, gaugedAtOpen := 5000, issued := 0, substituted := true, overGauge := false, clamped := false }
  let s := parked.modTank 0 fun k => { k with receipt := some r }
  startingWith .index false (.headerRead 511 true)
    ((((s.setSlot 3 (.reserved 2)).modCtx 1 fun c => { c with state := .loaded, steps := [.hold] }).modCtx 2 fun c =>
      { c with state := .draining, delivery := some delivery7 }).modLine 0 fun x =>
        { x with content := .held st 3 machine7, pinned := true })

theorem witness_StartUpSettlesOpenBusiness :
    (511 : SlotId).val = 511
    ∧ (let s := openBusiness .dirty
      s.slotHolder 511 = none ∧ s.running = true ∧ s.startUp.stage = .index ∧ s.table.faulted = false
      ∧ s.table.queue = [] ∧ s.startUp.cold = false
      ∧ s.table.inFlight = some { op := .headerRead 511 true, data := .nothing, discarded := false }
      ∧ (let t := after (.headerReadComplete .free) s
        t.startUp.stage = .writes ∧ t.startUp.interrupted = 2 ∧ t.journal.entries.length = 2
        ∧ (t.tank 0).receipt = none ∧ t.slot 3 = .empty ∧ (t.ctx 1).state = .free
        ∧ t.table.inFlight.map (fun x => x.op) = some (.write 0 3)))
    ∧ ((startingWith .index true (.headerRead 511 false) bench).startUp.cold = true
      ∧ (after (.headerReadComplete .free) (startingWith .index false (.headerRead 511 false) bench)).startUp.stage
        = .ready)
    ∧ (let s := startingWith .writes false (.write 0 3) (lineOf0 (.held .writing 3 machine7))
      s.running = true ∧ s.startUp.stage = .writes ∧ s.table.faulted = false ∧ s.table.queue = []
      ∧ s.table.lineWait = [] ∧ (s.line 0).content = .held .writing 3 machine7 ∧ (s.line 0).writeQueued = false
      ∧ s.table.inFlight = some { op := .write 0 3, data := .nothing, discarded := false }
      ∧ s.table.failures + 1 < 3) := by decide +kernel

/-- Start-up one failure short of the third, with an operation in flight and line 0 as given. -/
def nearFault (x : Stage) (cold : Bool) (op : StoreOp) (c : LineContent) : State :=
  (startingWith x cold op (lineOf0 c)).modTable fun t => { t with failures := 2 }

theorem witness_FaultedStoreDoesNotHoldStartUp :
    (∀ c, c ∈ [LineContent.empty, .held .dirty 3 machine7] → ∀ retry cold,
      let s := nearFault .index cold (.headerRead 3 retry) c
      s.running = true ∧ s.table.failures = 2 ∧ s.table.faulted = false ∧ s.table.lineWait = []
      ∧ (∀ p, (s.port p).inHand = none) ∧ s.startUp.stage = .index ∧ s.startUp.cold = cold ∧ s.table.queue = []
      ∧ s.table.inFlight = some { op := .headerRead 3 retry, data := .nothing, discarded := false })
    ∧ (nearFault .index false (.headerRead 3 true) .empty).slotHolder 3 = none
    ∧ (nearFault .index false (.headerRead 3 true) (.held .dirty 3 machine7)).slotHolder 3 = some 7
    ∧ (let s := nearFault .epoch true .configWrite .empty
      s.startUp.stage = .epoch ∧ s.table.queue = [] ∧ s.table.failures = 2
      ∧ s.table.inFlight = some { op := .configWrite, data := .nothing, discarded := false })
    ∧ (let s := (nearFault .writes false (.write 0 3) (.held .writing 3 machine7)).modTable fun t =>
        { t with queue := [.write 1 4, .configWrite] }
      s.startUp.stage = .writes ∧ (s.line 0).content = .held .writing 3 machine7
      ∧ s.table.queue = [.write 1 4, .configWrite]
      ∧ s.table.inFlight = some { op := .write 0 3, data := .nothing, discarded := false }) := by decide +kernel

/-- The third failure at the header of slot 3: READY in the same event, slots 3 to 511 USED and counted, the index kept. -/
theorem witness_FaultedStoreDoesNotHoldStartUp_ready :
    let t := after (.headerReadComplete .failed) (nearFault .index false (.headerRead 3 false) (.held .dirty 3 machine7))
    t.startUp.stage = .ready ∧ t.table.faulted = true ∧ t.table.unread = 509 ∧ t.slotState 511 = .used
    ∧ (t.entry 7).isSome = true ∧ t.table.queue = [.write 0 3] ∧ t.table.inFlight = none := by decide +kernel

theorem witness_TickCountsTime :
    parked.running = true ∧ parked.startUp.stage = .ready
    ∧ parked.slot 1 = .holding { delivery := delivery7, parkingPort := 0, nozzleLeft := 2, reason := .request, time := 0,
                                 timer := 0 }
    ∧ (∀ p, parked.slot 0 ≠ .holding p) ∧ (starting .index).running = true
    ∧ (starting .index).startUp.stage ≠ .ready
    ∧ (let s : State := { parked with clock := { parked.clock with ticks := 86400, rolloverDue := true } }
      s.running = true ∧ s.startUp.stage = .ready ∧ s.clock.rolloverDue = true) := by
  refine ⟨by decide +kernel, by decide +kernel, by decide +kernel, fun p => ?_, by decide +kernel, by decide +kernel,
    by decide +kernel⟩
  have : parked.slot 0 = .empty := by decide +kernel
  simp [this]

theorem witness_ShiftRollsOverAndIsSet :
    bench.Accepts 2
    ∧ (let s : State := { bench with clock := { bench.clock with rolloverDue := true } }
      s.Up ∧ s.clock.rolloverDue = true)
    ∧ bench.role 2 = .workshop ∧ 86399 < bench.config.time.shiftLength
    ∧ bench.config.time.shiftLength ≤ 86400 := by decide +kernel

/-- The meter of nozzle 1, and its context, in the states given. -/
def meterIn (m : MeterState) (k : Nat) (x : NozzleState) : State :=
  (atNozzle x).modMeter 0 fun y => { y with state := m, stray := k }

theorem witness_StrayPulsesFaultAtLimit :
    ((meterIn .faulted 0 .held).Up ∧ ((meterIn .faulted 0 .held).meter 0).state = .faulted)
    ∧ (((meterIn .idle 18 .held).meter 0).state = .idle
      ∧ ((meterIn .idle 18 .held).meter 0).stray + 1 < (meterIn .idle 18 .held).config.delivery.strayLimit)
    ∧ (let s := meterIn .idle 19 .fetching
      (s.meter 0).state = .idle ∧ (s.meter 0).stray < 255 ∧ s.config.delivery.strayLimit ≤ (s.meter 0).stray + 1
      ∧ (s.ctx 0).state = .fetching)
    ∧ (let s := meterIn .inUse 19 .held
      (s.meter 0).state = .inUse ∧ s.config.delivery.strayLimit ≤ (s.meter 0).stray + 1
      ∧ (s.ctx 0).state = .held)
    ∧ (let s (y : PumpState) : State := (meterIn .inUse 19 .priming).modTank 0 fun k =>
        { k with pump := { state := y, timer := none } }
      (s .running).Up ∧ ((s .running).meter 0).state = .inUse ∧ ((s .running).meter 0).stray < 255
      ∧ (s .running).config.delivery.strayLimit ≤ ((s .running).meter 0).stray + 1
      ∧ ((s .running).ctx 0).state = .priming ∧ ((s .running).tank 0).pump.state = .running
      ∧ (s .running).demand 0 = [0] ∧ ((s .starting).tank 0).pump.state ≠ .running
      ∧ ((after (.meterPulse 0) (s .running)).ctx 0).state = .held
      ∧ ((after (.meterPulse 0) (s .running)).tank 0).pump.state = .runOn) := by decide +kernel

/-- Nozzle 1 in a state of flow with so many pulses metered, and its limit. -/
def metered (x : NozzleState) (k limit : Nat) : State :=
  warm (((atNozzle x).modMeter 0 fun m => { m with count := k }).modCtx 0 fun c =>
    { c with delivery := some { delivery7 with
      limit := limit, legs := [(Leg.count 100000 k 380 (newLeg 0)).settle ⟨830, 150⟩] } })

/-- Nozzle 1 proving, after so many creep pulses, on the second leg of its delivery, its temperature channel FAILED. -/
def proving (k : Nat) : State :=
  let s := (metered .proving 9 1000).modMeter 0 fun m => { m with window := some 5, creep := k, proven := false }
  { s.modCtx 0 fun c => { c with delivery := c.delivery.map fun d =>
      { d with legs := { newLeg 3 with gross := 100, net := 98, clamped := true } :: d.legs } } with
    scanner := { s.scanner with
      channels := s.scanner.channels.write 0 { state := .failed, value := none, hold := 0, settle := 0 } } }

theorem witness_CountedPulseMetersVolume :
    (∀ x, x ∈ [metered .draining 9 1000, metered .flowSlow 9 1000, metered .flowFull 9 2000] →
      x.Up ∧ (x.meter 0).state = .inUse ∧ (x.meter 0).count < 4294967295 ∧ (x.delivery 0).legs.length = 1
      ∧ x.tempInUse 0 = (380, false))
    ∧ (∀ x, x ∈ [NozzleState.proving, .flowFull, .flowSlow, .draining] →
      (metered x 4294967295 1000).Up ∧ ((metered x 4294967295 1000).meter 0).state = .inUse
      ∧ ((metered x 4294967295 1000).meter 0).count = 4294967295 ∧ ((metered x 4294967295 1000).ctx 0).state = x)
    ∧ (∀ k, k ∈ [254, 255] →
      (proving k).Up ∧ ((proving k).meter 0).state = .inUse ∧ ((proving k).ctx 0).state = .proving
      ∧ ((proving k).meter 0).count < 4294967295 ∧ ((proving k).meter 0).creep = k
      ∧ (proving k).tempInUse 0 = (150, true)
      ∧ ((proving k).delivery 0).legs = [{ newLeg 3 with gross := 100, net := 98, clamped := true }]
        ++ [(Leg.count 100000 9 380 (newLeg 0)).settle ⟨830, 150⟩])
    ∧ (let t := after (.meterPulse 0) (proving 254)
      (t.meter 0).creep = 255 ∧ (t.delivery 0).faults.probeSubstitute = true
      ∧ (t.delivery 0).legs.map (fun l => (l.substituted, l.gross)) = [(false, 100), (true, 10)])
    ∧ ((after (.meterPulse 0) (metered .flowFull 4294967295 1000)).ctx 0).endReason = some .meterFault
    ∧ (metered .flowFull 9 2000).target 0 = 2000 ∧ (metered .flowFull 9 2000).config.delivery.prestop = 1000
    ∧ ((metered .flowFull 9 2000).delivery 0).running = 9
    ∧ (metered .flowFull 9 1005).target 0 - 1000 ≤ ((metered .flowFull 9 1005).delivery 0).running
    ∧ ((metered .flowFull 9 10).delivery 0).running < (metered .flowFull 9 10).target 0
    ∧ ((after (.meterPulse 0) (metered .flowSlow 9 10)).ctx 0).endReason = some .limit := by decide +kernel

/-- R47, R48: halves on both sides of 0, a quotient of 0, and the correction factor at each end of its range and one
tenth of a degree beyond it. -/
theorem witness_CountedPulseMetersVolume_arithmetic :
    (divAway (-10) 4 = -3 ∧ divAway 10 4 = 3 ∧ divAway (-9) 4 = -2 ∧ divAway (-1) 4 = 0 ∧ divAway 0 1 = 0)
    ∧ (1000000 - divAway (2000 * (650 - 150)) 10 = 900000 ∧ ctlOf 2000 650 = 900000 ∧ ctlClamped 2000 650 = false
      ∧ ctlOf 2000 651 = 900000 ∧ ctlClamped 2000 651 = true)
    ∧ (1000000 - divAway (2000 * (-350 - 150)) 10 = 1100000 ∧ ctlClamped 2000 (-350) = false
      ∧ ctlOf 2000 (-351) = 1100000 ∧ ctlClamped 2000 (-351) = true) := by decide +kernel

theorem witness_EndedRunDrains :
    let s := (atNozzle .flowFull).modTank 0 fun x => { x with pump := { state := .running, timer := none } }
    (s.config.nozzles.read 0).tank = 0 ∧ (s.tank 0).pump.state = .running
    ∧ (∀ m, m ≠ 0 → (s.config.nozzles.read m).tank = 0 → (s.ctx m).state.inDemand = false)
    ∧ (let shared := s.modCtx 1 fun c => { c with state := .priming }
      (shared.config.nozzles.read 1).tank = 0 ∧ (shared.ctx 1).state.inDemand = true
      ∧ ((shared.stopFlow 0 .limit).tank 0).pump.state = .running ∧ ((s.stopFlow 0 .limit).tank 0).pump.state = .runOn)
    ∧ (let idle := atNozzle .priming
      (idle.tank 0).pump.state ≠ .running ∧ ((idle.quitPriming 0 .stopped).ctx 0).state = .held) := by decide +kernel

theorem witness_CreepWindowProvesMeter :
    let s (k : Nat) : State := (atNozzle .proving).modMeter 0 fun m => { m with window := some 0, creep := k }
    (s 3).Up ∧ ((s 3).meter 0).window = some 0 ∧ ((s 3).meter 0).creep ≤ (s 3).config.delivery.creepLimit
    ∧ ((s 3).delivery 0).running < (s 3).target 0 - (s 3).config.delivery.prestop
    ∧ (s 4).config.delivery.creepLimit < ((s 4).meter 0).creep := by decide +kernel

/-- The scanner with its timer at 0 and a channel in the state given. -/
def probe (i : ChannelId) (c : Channel) : State :=
  { bench with scanner := { channels := bench.scanner.channels.write i c, timer := 0, position := some i } }

theorem witness_SamplesSettleChannels :
    let c (x : ChannelState) (hold settle : Nat) : Channel :=
      { state := x, value := if x = .failed then none else some 1, hold := hold, settle := settle }
    let settling (k hold : Nat) : Channel := c .unsettled hold k
    ((probe 0 resetChannel).Up ∧ (probe 0 resetChannel).scanner.timer = 0)
    ∧ (∀ i, i ∈ [(7 : ChannelId), 8, 15] → ∀ x, x ∈ [settling 3 0, settling 4 0, settling 4 9, c .good 0 0, c .holding 8 0,
        c .holding 9 0, c .failed 10 0, c .failed 10 1] →
      (probe i x).scanner.position = some i ∧ (probe i x).scanner.channels.read i = x)
    ∧ (bench.config.probes.holdLimit = 10 ∧ 1 < 10 ∧ 8 + 1 < 10 ∧ 10 ≤ 9 + 1)
    ∧ (let once : State := { probe 7 (c .good 0 0) with
        config := { benchConfig with probes := { benchConfig.probes with holdLimit := 1 } } }
      once.Up ∧ once.scanner.position = some 7 ∧ once.config.probes.holdLimit ≤ 1)
    ∧ (9437 ≤ (9437#16).toNat ∧ (9437#16).toNat ≤ 55050)
    ∧ ¬ (9437 ≤ (9436#16).toNat ∧ (9436#16).toNat ≤ 55050)
    ∧ ((benchConfig.tanks.read 0).enabled = true ∧ (benchConfig.tanks.read 3).enabled = false)
    ∧ ((after (.sampleComplete 8 9437) (probe 8 (c .failed 10 1))).tank 0).gauge.net = some 0
    ∧ ((after (.sampleComplete 8 9436) (probe 8 (c .failed 10 0))).tank 0).gauge = invalidGauge
    ∧ (let pts : List StrapPoint := [⟨200, 4100⟩, ⟨1200, 38000⟩, ⟨3000, 92000⟩]
      pts.Pairwise (fun a b => a.level < b.level) ∧ pts = [] ++ ⟨200, 4100⟩ :: ⟨1200, 38000⟩ :: [⟨3000, 92000⟩]
      ∧ pts = [⟨200, 4100⟩, ⟨1200, 38000⟩] ++ [⟨3000, 92000⟩]) := by decide +kernel

/-- Nozzle 1 draining, its settle timer run out, with the reason and move given. -/
def drained (r : RunEnd) (m : PendingMove) : State :=
  (atNozzle .draining).modCtx 0 fun c => { c with stall := some 0, drain := some 0, endReason := some r, move := m }

theorem witness_StallsAndDrainsEnd :
    let kept (r : RunEnd) : State := (drained r .park).setSlot 2 (.reserved 0)
    ((drained .target .none).Up ∧ ((drained .target .none).ctx 0).stall = some 0
      ∧ ((drained .target .none).ctx 0).drain = some 0 ∧ ((drained .target .none).ctx 0).move = .none
      ∧ ((drained .target .none).ctx 0).endReason = some .target
      ∧ ((drained .target .none).ctx 0).steps.drop (((drained .target .none).ctx 0).pointer + 1) = [.hold])
    ∧ ((drained .aborted .abort).ctx 0).move = .abort
    ∧ (∀ r, r ∈ [RunEnd.stopped, .stalled, .tankLow, .meterFault, .target, .limit] →
      ((kept r).ctx 0).move = .park ∧ (kept r).reservedFor 0 = some 2 ∧ ((kept r).ctx 0).endReason = some r)
    ∧ (let t := after (.drainSettleExpiry 0) (kept .stalled)
      (t.ctx 0).state = .free ∧ (match t.slot 2 with
        | .holding x => x.delivery.faults.stall
        | _ => false) = true)
    ∧ (let t := after (.drainSettleExpiry 0) (drained .stalled .none)
      ((drained .stalled .none).ctx 0).endReason = some .stalled ∧ (t.ctx 0).state = .held
      ∧ (t.delivery 0).faults.stall = true)
    ∧ ((drained .tankLow .none).ctx 0).endReason = some .tankLow
    ∧ ((drained .meterFault .none).ctx 0).endReason = some .meterFault := by decide +kernel

theorem witness_HoldsAndParksExpire :
    let due (legs : List Leg) : State := (atNozzle .held).modCtx 0 fun c =>
      { c with hold := some 0, delivery := some { delivery7 with legs := legs } }
    ((due [newLeg 0]).Up ∧ ((due [newLeg 0]).ctx 0).hold = some 0 ∧ ((due [newLeg 0]).delivery 0).legs.length < 4
      ∧ (due [newLeg 0]).freePark = some 0 ∧ ((due [newLeg 0]).setSlot 0 (.reserved 1)).freePark = some 1
      ∧ ((due [newLeg 0]).setSlot 3 (.reserved 1)).reservedFor 1 = some 3)
    ∧ 4 ≤ ((due (List.replicate 4 (newLeg 0))).delivery 0).legs.length
    ∧ parked.slot 1 = .holding { delivery := delivery7, parkingPort := 0, nozzleLeft := 2, reason := .request, time := 0,
                                 timer := 0 } := by decide +kernel

def terms : WaitTerms := { a := 50000, b := 10000, name := .allowance, restricted := false, first := false }

/-- A grant wait whose timer has run out, under a policy. -/
def overdue (x : GrantPolicy) (w : WaitTerms) : State :=
  { (atNozzle .awaitGrant).modCtx 0 (fun c =>
      { c with grant := some 0, delivery := some { delivery7 with wait := some w } }) with
    config := { benchConfig with authorisation := { benchConfig.authorisation with policy := x } } }

theorem witness_GrantTimerEndsWait :
    ((overdue .refuse terms).Up ∧ ((overdue .refuse terms).ctx 0).grant = some 0
      ∧ ((overdue .refuse terms).delivery 0).wait = some terms
      ∧ (overdue .refuse terms).config.authorisation.policy = .refuse)
    ∧ ((overdue .partialIssue { terms with b := 1999 }).config.authorisation.policy = .partialIssue
      ∧ min 1999 ((overdue .partialIssue { terms with b := 1999 }).stockTerm 0) < 2000)
    ∧ ((overdue .partialIssue terms).config.authorisation.minIssue ≤
        min terms.b ((overdue .partialIssue terms).stockTerm 0)
      ∧ terms.a ≠ 0) := by decide +kernel

/-- R119: the 17th ticket drops the oldest; one already on the list moves to its end and drops none. -/
theorem witness_GrantTimerEndsWait_list :
    let late (l : List Nat) : List Nat := (after (.grantTimerExpiry 0) { overdue .refuse terms with expired := l }).expired
    late ((List.range 16).map (· + 2)) = (List.range 15).map (· + 3) ++ [1]
    ∧ late (1 :: (List.range 15).map (· + 2)) = (List.range 15).map (· + 2) ++ [1] ∧ late [] = [1] := by decide +kernel

/-- Tank 1's pump as given, with nozzle 1 in a state. -/
def pumpAt (x : NozzleState) (y : PumpState) : State :=
  ((atNozzle x).modMeter 0 fun m => { m with proven := false }).modTank 0 fun k =>
    { k with pump := { state := y, timer := some 0 } }

theorem witness_RunsBeginAndPumpTimersEnd :
    ((pumpAt .held .starting).Up ∧ ((pumpAt .held .starting).tank 0).pump = { state := .starting, timer := some 0 }
      ∧ (pumpAt .held .starting).demand 0 = [])
    ∧ ((pumpAt .priming .starting).demand 0 = [0] ∧ ((pumpAt .priming .starting).ctx 0).state = .priming
      ∧ ((pumpAt .priming .starting).meter 0).proven = false)
    ∧ ((pumpAt .held .runOn).tank 0).pump = { state := .runOn, timer := some 0 }
    ∧ ((meterIn .faulted 0 .held).meter 0).state = .faulted
    ∧ (∀ x, x ∈ [PumpState.stopped, .starting, .running, .runOn, .heldLow] →
      ((pumpAt .held x).meter 0).state ≠ .faulted ∧ ((pumpAt .held x).meter 0).proven = false
      ∧ ((pumpAt .held x).config.tanks.read 0).enabled = true ∧ ((pumpAt .held x).tank 0).pump.state = x)
    ∧ ((defaultConfiguration.tanks.read 0).enabled = false)
    ∧ ((atNozzle .held).meter 0).proven = true
    ∧ (((metered .held 9 1010).delivery 0).running = 9 ∧ 9 < 1010 - (metered .held 9 1010).config.delivery.prestop
      ∧ 1009 - (metered .held 9 1009).config.delivery.prestop ≤ 9) := by decide +kernel

/-- Nozzles 1 to 5 on tank 1, whose start timer has run out: 1 to 4 wait in PRIMING, the meter of 1 unproven, those of 2 to
4 proven with limits above the prestop, at it, and at the running net; 5 is HELD. -/
def fourPriming : State :=
  let put (n : NozzleId) (x : NozzleState) (ok : Bool) (limit : Nat) (s : State) : State :=
    (s.modCtx n fun _ => { (atNozzle x).ctx 0 with delivery := some { delivery7 with limit := limit } }).modMeter n
      fun m => { m with state := .inUse, bound := true, proven := ok }
  put 4 .held true 5000 (put 3 .priming true 0 (put 2 .priming true 1000 (put 1 .priming true 1001
    (put 0 .priming false 5000 (pumpAt .priming .starting)))))

theorem witness_RunsBeginAndPumpTimersEnd_demand :
    fourPriming.Up ∧ (fourPriming.tank 0).pump = { state := .starting, timer := some 0 }
    ∧ fourPriming.demand 0 = [0, 1, 2, 3] ∧ fourPriming.demand 1 = []
    ∧ (let t := after (.pumpStartTimerExpiry 0) fourPriming
      [(0 : NozzleId), 1, 2, 3, 4].map (fun n => (t.ctx n).state) = [.proving, .flowFull, .flowSlow, .draining, .held]
      ∧ (t.ctx 1).stall = some 90 ∧ (t.meter 0).window = some fourPriming.config.delivery.creepWindow
      ∧ (t.ctx 3).endReason = some .limit ∧ (t.tank 0).pump = { state := .running, timer := none }) := by decide +kernel

theorem witness_FinishingHandsOn :
    blankDelivery.line = none
    ∧ ((atNozzle .held).ctx 0).delivery = some delivery7 ∧ delivery7.line = some 0
    ∧ ((atNozzle .held).line 0).content = .held .clean 3 machine7 := by decide +kernel

/-- The delivery of section 3.3's worked case, two legs of diesel at α 830, expired, its limit 50,000. -/
theorem witness_FinishingHandsOn_entry :
    let leg (n : NozzleId) (gross : Nat) (temp : Int) : Leg := { newLeg n with gross := gross, fwt := gross * temp }
    let d : Delivery := { delivery7 with limit := 50000, legs := [leg 2 42000 403, leg 5 10000 350] }
    let e := ({ bench with clock := { bench.clock with shift := 1, siteTime := 9 } } : State).entryFor d .expired
    (defaultConfiguration.products.read 0).alpha = 830
    ∧ e.legs.map (fun l => (l.gross, l.net, l.avgTemp)) = [(42000, 41118, 403), (10000, 9834, 350)]
    ∧ (e.totalGross, e.totalNet, e.avgTemp, e.overrun) = (52000, 50952, 393, 952)
    ∧ e.crossedShift = true ∧ e.refusal = none ∧ e.finishTime = 9 ∧ e.requested = some .fill := by decide +kernel

def list7 : List RawStep := [.ident 7 0xA1 1, .auth 0, .run 2500000, .hold]

theorem witness_StepsLoadTheirList :
    bench.Accepts 0 ∧ bench.role 0 = .island ∧ (bench.config.nozzles.read 7).owner = 0
    ∧ ((bench.ctx 7).state = .free ∧ (bench.config.nozzles.read 7).enabled = true
      ∧ loadedList true list7 = some [.ident 7 0xA1 true, .auth .fill, .run 2500000, .hold]
      ∧ loadedList true [.hold] = none)
    ∧ ((atNozzle .held).Accepts 0 ∧ ((atNozzle .held).ctx 0).state = .held
      ∧ loadedList false [.finish] = some [.finish] ∧ loadedList false list7 = none)
    ∧ ((State.ctx { bench with config := defaultConfiguration } 0).state = .free
      ∧ (defaultConfiguration.nozzles.read 0).enabled = false)
    ∧ (((atNozzle .loaded).ctx 0).state ≠ .free ∧ ((atNozzle .loaded).ctx 0).state ≠ .held) := by decide +kernel

/-- Nozzle 1 LOADED, its list naming machine 7. -/
def loaded (k : Nat) : State :=
  { stored.modCtx 0 (fun c =>
      { c with state := .loaded, steps := [.ident 7 0xA1 true, .auth .fill, .run 0, .finish] }) with
    journal := { stored.journal with reservations := k } }

/-- The machine table with no line to take. -/
def crowded : State :=
  { stored with table := { stored.table with lines := Tab.all 16 { emptyLine with content := .fetching 8 4 } } }

/-- Machine 7's record as the four tests of an IDENT find it. -/
def tested : List (MachineRecord × Option Reason) :=
  [({ machine7 with openTicket := some 1, stoodDown := true }, some .machineBusy),
   ({ machine7 with stoodDown := true, product := 1 }, some .stoodDown),
   ({ machine7 with product := 1, tag := 0 }, some .productMismatch),
   ({ machine7 with tag := 0xA2 }, some .identMismatch), ({ machine7 with tag := 0 }, some .identMismatch),
   (machine7, none)]

theorem test_identification_order :
    (∀ x, x ∈ tested → identTests 0 0xA1 true x.1 = x.2) ∧ identTests 0 0 false machine7 = none := by decide +kernel

theorem witness_StartOpensDelivery :
    let s := loaded 255
    let damaged := s.modTable fun t => { t with index := [{ fleet := 7, slot := 3, damaged := true }] }
    let faulted := s.modTable fun t => { t with faulted := true }
    let crowd : State := { s with table := crowded.table }
    let fetching := s.modLine 0 fun x => { x with content := .fetching 7 3 }
    let held := s.modLine 0 fun x => { x with content := .held .clean 3 machine7 }
    ((bench.ctx 0).state ≠ .loaded ∧ (loaded 256).Accepts 0 ∧ ((loaded 256).ctx 0).state = .loaded
      ∧ 256 ≤ (loaded 256).journal.entries.length + (loaded 256).journal.reservations)
    ∧ (∀ x, x ∈ [s, damaged, faulted, crowd, fetching, held] →
      x.Accepts 0 ∧ x.role 0 = .island ∧ (x.config.nozzles.read 0).owner = 0 ∧ (x.ctx 0).state = .loaded
      ∧ x.journal.entries.length + x.journal.reservations < 256
      ∧ (x.ctx 0).steps = .ident 7 0xA1 true :: [.auth .fill, .run 0, .finish])
    ∧ (s.enrolled 8 = none ∧ s.enrolled 7 = some { fleet := 7, slot := 3, damaged := false } ∧ s.lineFor 7 = none
      ∧ s.table.faulted = false ∧ s.freeLine = some 0)
    ∧ damaged.enrolled 7 = some { fleet := 7, slot := 3, damaged := true }
    ∧ (faulted.lineFor 7 = none ∧ faulted.table.faulted = true)
    ∧ (crowd.enrolled 7 = s.enrolled 7 ∧ crowd.lineFor 7 = none ∧ crowd.table.faulted = false
      ∧ crowd.freeLine = none)
    ∧ (fetching.enrolled 7 = s.enrolled 7 ∧ fetching.lineFor 7 = some 0
      ∧ (fetching.line 0).content = .fetching 7 3)
    ∧ (held.enrolled 7 = s.enrolled 7 ∧ held.lineFor 7 = some 0
      ∧ (held.line 0).content = .held .clean 3 machine7) := by decide +kernel

theorem witness_StartOpensDelivery_tickets :
    let s : State := { atNozzle .held with ticketCounter := 65535 }
    (1 ≤ bench.ticketCounter ∧ bench.ticketCounter ≤ 65535) ∧ s.ticketCounter ≤ 65535
    ∧ s.ticketOpen 65535 = false ∧ s.ticketOpen 1 = true := by decide +kernel

/-- Nozzle 1 HELD with a list loaded. -/
def heldWith (l : List Step) : State := (atNozzle .held).modCtx 0 fun c => { c with steps := l, pointer := 0 }

theorem witness_StopAbortContinueTakeEffect :
    (∀ x, x ∈ [NozzleState.free, .loaded, .fetching, .awaitGrant, .priming, .proving, .flowFull, .flowSlow, .draining,
        .held] →
      (atNozzle x).Accepts 0 ∧ (atNozzle x).role 0 = .island ∧ ((atNozzle x).config.nozzles.read 0).owner = 0
      ∧ ((atNozzle x).ctx 0).state = x ∧ (atNozzle x).reservedFor 0 = none)
    ∧ ((atNozzle .priming).ctx 0).steps.drop (((atNozzle .priming).ctx 0).pointer + 1) = [.hold]
    ∧ ((atNozzle .draining).setSlot 3 (.reserved 0)).reservedFor 0 = some 3
    ∧ ((heldWith [.finish]).ctx 0).steps = [.finish] ∧ ((heldWith [.hold]).ctx 0).steps = [.hold]
    ∧ ((heldWith [.run 0, .hold]).ctx 0).steps = .run 0 :: [.hold] ∧ ((heldWith []).ctx 0).steps = []
    ∧ ((heldWith [.auth .fill, .hold]).ctx 0).steps = .auth .fill :: [.hold] := by decide +kernel

/-- Nozzle 1 at its first AUTH, with tank 1 in a tier and the settings and class given. -/
def asking (t : Tier) (grants : Bool) (allowance : Nat) (capacity : Nat) : State :=
  let s := atNozzle .fetching
  let r := { machine7 with allowance := allowance, capacity := capacity }
  { ((s.modCtx 0 fun c => { c with delivery := some { delivery7 with limit := 0, factor := none } }).modTank 0 fun k =>
      { k with tier := t }).modLine 0 fun x => { x with content := .held .clean 3 r, pinned := true } with
    config := { benchConfig with
      authorisation := { benchConfig.authorisation with grantsEnabled := grants },
      classes := benchConfig.classes.write 0 { defaultClass with grantEligible := true } } }

/-- Each of the three decisions of an AUTH at the head of the list, under CONTINUE, and what it leaves the context in. -/
theorem witness_StopAbortContinueTakeEffect_auth :
    let held (s : State) : State := s.modCtx 0 fun c =>
      { c with state := .held, hold := some 5, pointer := 0, steps := [.auth .fill, .run 0, .hold] }
    let on (s : State) : State := (((held s).idleAssembler 0).modCtx 0 fun c => { c with hold := none, pointer := 0 }).reply
      0 .continueList 1 .ok .nothing
    let left (s : State) : NozzleState := ((after (.continueList 0 1 1) (held s)).ctx 0).state
    (((on (asking .normal false 300000 400000)).authStep 0 .fill).2 = .authorised
      ∧ left (asking .normal false 300000 400000) = .priming)
    ∧ (((on (asking .normal true 300000 400000)).authStep 0 .fill).2 = .deferred
      ∧ left (asking .normal true 300000 400000) = .awaitGrant)
    ∧ (((on (asking .normal false 2999 400000)).authStep 0 .fill).2 = .refused .belowMinimum true
      ∧ left (asking .normal false 2999 400000) = .free) := by decide +kernel

theorem witness_AuthStepDecides :
    let s := asking .reserve true 300000 400000
    ((s.ctx 0).delivery = some { delivery7 with limit := 0, factor := none } ∧ delivery7.line = some 0
      ∧ s.recordAt 0 = some machine7 ∧ (s.tank 0).tier = .reserve ∧ (s.config.classes.read 0).essential = false)
    ∧ ((asking .normal true 300000 400000).authStep 0 .fill).2 = .deferred
    ∧ ((asking .normal false 300000 400000).authStep 0 .fill).2 = .authorised
    ∧ ((asking .normal true 300000 1).authStep 0 .fill).2 = .authorised
    ∧ ((asking .normal false 2999 400000).authStep 0 .fill).2 = .refused .belowMinimum true
    ∧ ((asking .normal false 1000 400000).authStep 0 .fill).2 = .refused .noAllowance true := by decide +kernel

/-- A context that waits for a grant. -/
def granting : State :=
  (atNozzle .awaitGrant).modCtx 0 fun c =>
    { c with grant := some 40, delivery := some { delivery7 with wait := some terms } }

theorem witness_GrantDecidesItsWait :
    granting.Accepts 1 ∧ granting.role 1 = .fleet ∧ granting.waitingFor 1 = some 0 ∧ granting.waitingFor 2 = none
    ∧ (granting.ctx 0).delivery = some { delivery7 with wait := some terms }
    ∧ granting.config.authorisation.minIssue ≤ min terms.a (min (terms.b + 2500000) (granting.stockTerm 0))
    ∧ (let s := granting.modTank 0 fun k => { k with book := some 1000 }
      min terms.a (min (terms.b + 0) (s.stockTerm 0)) < s.config.authorisation.minIssue
      ∧ min terms.a (min (terms.b + 0) (s.stockTerm 0)) ≠ terms.a) := by decide +kernel

/-- Nozzle 1 in a state with four legs. -/
def fourLegs (x : NozzleState) : State :=
  (atNozzle x).modCtx 0 fun c => { c with delivery := some { delivery7 with legs := List.replicate 4 (newLeg 0) } }

theorem witness_ParkTakesEffect :
    (∀ x, x ∈ [NozzleState.free, .loaded, .fetching, .awaitGrant, .priming, .proving, .flowFull, .flowSlow, .draining,
        .held] →
      (atNozzle x).Accepts 0 ∧ (atNozzle x).role 0 = .island ∧ ((atNozzle x).delivery 0).legs.length < 4
      ∧ (atNozzle x).freePark = some 0 ∧ ((atNozzle x).ctx 0).move = .none)
    ∧ (∀ m, m ∈ [PendingMove.none, .park, .abort] → ((drained .stopped m).Accepts 0 ∧ ((drained .stopped m).ctx 0).move = m
      ∧ ((drained .stopped m).ctx 0).state = .draining ∧ ((drained .stopped m).delivery 0).legs.length < 4))
    ∧ ((drained .stopped .park).setSlot 2 (.reserved 0)).reservedFor 0 = some 2
    ∧ ¬ ((fourLegs .held).delivery 0).legs.length < 4
    ∧ ({ atNozzle .held with park := Tab.all 4 (.reserved 1) } : State).freePark = none := by decide +kernel

/-- Machine 7's delivery parked in slot 2 under ticket 1, with faults and wait terms. -/
def resumable (f : FaultSet) (w : Option WaitTerms) : State :=
  cached.setSlot 1 (.holding { delivery := { delivery7 with faults := f, wait := w }, parkingPort := 0, nozzleLeft := 2,
                               reason := .request, time := 0, timer := 9 })

theorem witness_ResumeTakesUpDelivery :
    let s := resumable FaultSet.none none
    let w := resumable (FaultSet.none.add .grantWait) (some terms)
    let busy := s.modCtx 0 fun c => { c with state := .loaded }
    let off : State := { s with config := { s.config with nozzles := Tab.all 8 (defaultNozzle 0) } }
    let other : State := { s with config := { s.config with
      tanks := s.config.tanks.write 0 { defaultTank with enabled := true, product := 3 } } }
    let broken := s.modMeter 0 fun m => { m with state := .faulted }
    let low := s.modTank 0 fun k => { k with tier := .reserve }
    (s.Accepts 0 ∧ s.role 0 = .island ∧ (s.config.nozzles.read 0).owner = 0
      ∧ s.parkedTicket 1 = some (1, { delivery := delivery7, parkingPort := 0, nozzleLeft := 2, reason := .request,
                                      time := 0, timer := 9 })
      ∧ s.parkedTicket 65535 = none ∧ (s.ctx 0).state = .free ∧ (s.config.nozzles.read 0).enabled = true
      ∧ (s.config.tanks.read 0).product = s.deliveryProduct delivery7 ∧ (s.meter 0).state ≠ .faulted
      ∧ (s.tank 0).tier ≠ .reserve ∧ delivery7.faults = FaultSet.none)
    ∧ (busy.ctx 0).state ≠ .free ∧ (off.config.nozzles.read 0).enabled = false
    ∧ (other.config.tanks.read 0).product ≠ other.deliveryProduct delivery7
    ∧ (broken.meter 0).state = .faulted ∧ ((low.tank 0).tier = .reserve ∧ low.essential delivery7 = false)
    ∧ (w.Accepts 0 ∧ (w.parkedTicket 1).map (fun x => (x.2.delivery.faults.grantWait, x.2.delivery.wait))
      = some (true, some terms)) := by decide +kernel

/-- A resumption with every fault pending: its FAULT_REPLAYs in R98's order, and what is left. -/
theorem witness_ResumeTakesUpDelivery_faults :
    let every : FaultSet := ((((FaultSet.none.add .grantWait).add .stall).add .meterFault).add .tankLow).add
      .probeSubstitute
    let s := resumable every (some terms)
    let t := after (.resume 0 1 1 1) s
    (s.Accepts 0 ∧ (s.parkedTicket 1).map (fun x => (x.2.delivery.faults, x.2.delivery.wait))
      = some (every, some terms))
    ∧ (t.port 0).notices.map (fun n => n.body) =
      [.faultReplay 1 .probeSubstitute 2, .faultReplay 1 .tankLow 2, .faultReplay 1 .meterFault 2,
       .faultReplay 1 .stall 2, .faultReplay 1 .grantWait 2, .deliveryStage (.resumed 1 0 0 100000 2)]
    ∧ (t.ctx 0).state = .awaitGrant ∧ (t.delivery 0).faults = FaultSet.none.add .probeSubstitute := by decide +kernel

theorem witness_MeterClearReturnsMeter :
    bench.Accepts 0 ∧ bench.Accepts 1 ∧ bench.Accepts 2 ∧ bench.role 2 = .workshop ∧ bench.role 1 = .fleet
    ∧ bench.role 0 = .island ∧ (bench.config.nozzles.read 7).owner = 0 ∧ (bench.meter 7).state ≠ .faulted
    ∧ ((meterIn .faulted 9 .held).Accepts 0 ∧ ((meterIn .faulted 9 .held).meter 0).state = .faulted) := by
  decide +kernel

theorem witness_JournalIsCollectedFromItsHead :
    (journalled.Accepts 1 ∧ journalled.role 1 = .fleet ∧ journalled.journal.entries = entry1 1 :: [entry1 2]
      ∧ (entry1 1).seq = 1 ∧ (entry1 1).seq ≠ 2)
    ∧ (bench.Accepts 2 ∧ bench.role 2 = .workshop ∧ bench.journal.entries = []) := by decide +kernel

/-- Every line CLEAN with machine 8's record, used in the order given, the most recent first. -/
def crammed (order : List LineId) : State :=
  { stored with table := { stored.table with
      useOrder := order,
      lines := Tab.all 16 { emptyLine with content := .held .clean 4 { machine7 with fleet := 8 } } } }

/-- Machine 7 at the head of the line wait list, for an IDENT and for port B's request, and machine 9 behind it. -/
def waitsForLine (damaged : Bool) (q : WaitingRequest) : State :=
  (stored.modTable fun t => { t with
    index := [{ fleet := 7, slot := 3, damaged := damaged }],
    lineWait := [(7, [.ident 0, .port 1]), (9, [.port 2])] }).modPort 1 fun x =>
      { x with inHand := some { tag := 1, request := q } }

def fields7 : RebuildFields :=
  { fleet := 7, cls := 0, product := 1, capacity := 400000, tag := 0, allowance := 300000, reading := 999999, used := 0,
    lifetimeFuel := 0, offset := 99000000, lines := [], state := 0 }

/-- Port B's REBUILD of machine 7, its entry DAMAGED, alone on the line wait list. -/
def rebuildWaits : State :=
  (waitsForLine true (.rebuild fields7)).modTable fun t => { t with lineWait := [(7, [.port 1])] }

theorem witness_RecordRequestsWaitForTheirRecord :
    let damaged := stored.modTable fun t => { t with index := [{ fleet := 7, slot := 3, damaged := true }] }
    let faulted := stored.modTable fun t => { t with faulted := true }
    (stored.Accepts 1 ∧ stored.role 1 = .fleet ∧ stored.Accepts 2 ∧ stored.role 2 = .workshop
      ∧ machinePatchOk { cls := none, product := some 4, capacity := none, tag := none, allowance := none } = true
      ∧ (setLineOf { number := 4, basis := 1, interval := 100000000, lastDone := 0, warn := 0, grace := 0,
                     enforcing := 1 }).isSome = true)
    ∧ stored.enrolled 9999 = none ∧ stored.enrolled 7 = some { fleet := 7, slot := 3, damaged := false }
    ∧ damaged.enrolled 7 = some { fleet := 7, slot := 3, damaged := true }
    ∧ ((lineOf0 (.fetching 7 3)).lineFor 7 = some 0 ∧ ((lineOf0 (.fetching 7 3)).line 0).content = .fetching 7 3)
    ∧ (stored.lineFor 7 = none ∧ stored.table.faulted = false ∧ stored.freeLine = some 0 ∧ faulted.table.faulted = true
      ∧ faulted.lineFor 7 = none)
    ∧ (crowded.lineFor 7 = none ∧ crowded.freeLine = none ∧ crowded.enrolled 7 = stored.enrolled 7) := by decide +kernel

theorem witness_RecordRequestsWaitForTheirRecord_lines :
    ((lineOf0 (.fetching 7 3)).freeLine = some 1 ∧ ((lineOf0 (.fetching 7 3)).line 1).content = .empty
      ∧ (crammed [1, 0]).freeLine = some 0 ∧ (∀ j, ((crammed [1, 0]).line j).content ≠ .empty))
    ∧ (let s := waitsForLine false (.machineRead 7)
      s.table.lineWait = (7, [.ident 0, .port 1]) :: [(9, [.port 2])] ∧ 9 ≠ 7 ∧ s.freeLine = some 0
      ∧ s.enrolled 7 = some { fleet := 7, slot := 3, damaged := false } ∧ s.lineFor 7 = none
      ∧ s.table.faulted = false ∧ s.requestInHand 1 = some (.machineRead 7)
      ∧ s.table.lineWait = [(7, [.ident 0, .port 1])] ++ (9, [.port 2]) :: [] ∧ (∀ x ∈ s.table.lineWait, x.1 ≠ 8)
      ∧ (s.waitForLine 9 (.port 0)).table.lineWait = [(7, [.ident 0, .port 1]), (9, [.port 2, .port 0])]
      ∧ (s.waitForLine 8 (.port 0)).table.lineWait = s.table.lineWait ++ [(8, [.port 0])])
    ∧ (let s := rebuildWaits
      s.table.lineWait = (7, [.port 1]) :: [] ∧ s.freeLine = some 0 ∧ s.lineFor 7 = none
      ∧ s.enrolled 7 = some { fleet := 7, slot := 3, damaged := true } ∧ s.table.faulted = false
      ∧ (s.port 1).inHand = some { tag := 1, request := .rebuild fields7 } ∧ fields7.fleet = 7
      ∧ rebuildOk fields7 = true ∧ (s.lineFreed.line 0).content.fleet = some 7
      ∧ statuses 1 s.lineFreed = [.ok]) := by decide +kernel

/-- Machine 7 in the cache with its record changed. -/
def cachedAs (r : MachineRecord) : State := stored.modLine 0 fun x => { x with content := .held .clean 3 r }

theorem witness_CachedMachineRequests :
    let down := { machine7 with stoodDown := true, openTicket := some 1 }
    let q : MachinePatch := { cls := none, product := some 4, capacity := some 2500000, tag := none, allowance := none }
    (cached.Accepts 2 ∧ cached.role 2 = .workshop ∧ cached.Cached 7 0 .clean 3 machine7 ∧ machine7.stoodDown = false
      ∧ machine7.openTicket = none ∧ machinePatchOk q = true ∧ machinePatchOk { q with product := some 5 } = false)
    ∧ ((cachedAs down).Cached 7 0 .clean 3 down ∧ down.stoodDown = true ∧ down.openTicket.isSome = true
      ∧ (q.product.bind (fromOne 4)).getD down.product ≠ down.product)
    ∧ (let line (st : HeldState) (queued : Bool) : State :=
        stored.modLine 0 fun x => { x with content := .held st 3 machine7, writeQueued := queued }
      let queue (st : HeldState) (queued : Bool) : List StoreOp := ((line st queued).putRecord 0 3 down).table.queue
      ((line .clean false).line 0).writeQueued = false ∧ ((line .dirty true).line 0).writeQueued = true
      ∧ ((line .writing false).line 0).content = .held .writing 3 machine7
      ∧ queue .clean false = [.write 0 3] ∧ queue .dirty true = [] ∧ queue .writing false = [.write 0 3]
      ∧ queue .writing true = []) := by decide +kernel

theorem witness_HoursPostsAreChecked :
    let high := { machine7 with offset := 99998500 }
    let bare := { machine7 with stamp := none }
    (cached.Accepts 1 ∧ cached.role 1 = .fleet ∧ cached.Cached 7 0 .clean 3 machine7 ∧ 999 < machine7.reading
      ∧ machine7.reading ≤ 1002 ∧ machine7.stamp = some { epoch := 5, time := 0 } ∧ cached.config.time.epoch = 5
      ∧ cached.config.service.hourTolerance = 2 ∧ 1002 - machine7.reading ≤ 2 ∧ 2 < 1003 - machine7.reading)
    ∧ ((cachedAs high).Cached 7 0 .clean 3 high ∧ 99999999 < 1500 + high.offset
      ∧ ¬ 99999999 < 1499 + high.offset)
    ∧ ((cachedAs bare).Cached 7 0 .clean 3 bare ∧ bare.stamp = none) := by decide +kernel

/-- R138, R140: line 1 of machine 7, due at 1,100 with a warn margin of 50 and a grace of 20, at the edges of its bands. -/
theorem witness_HoursPostsAreChecked_bands :
    let bare := { machine7 with stamp := none }
    let at' (v : Nat) : Option (List LineState × Bool) :=
      ((after (.hours 1 1 7 v) (cachedAs bare)).recordAt 0).map fun r => (r.lines.map fun l => l.state, r.restricted)
    at' 1000 = some ([.current], false) ∧ at' 1049 = some ([.current], false) ∧ at' 1050 = some ([.dueSoon], false)
    ∧ at' 1100 = some ([.due], false) ∧ at' 1119 = some ([.due], false) ∧ at' 1120 = some ([.overdue], true) := by
  decide +kernel

theorem witness_CachedServiceRequests :
    cached.Accepts 2 ∧ cached.role 2 = .workshop ∧ cached.Cached 7 0 .clean 3 machine7
    ∧ meterChanged 999 0 machine7 = .inl .badReading ∧ (meterChanged 1000 999 machine7).isRight = true
    ∧ (serviceDone 1 600 machine7).isRight = true ∧ serviceDone 4 600 machine7 = .inl .badField
    ∧ (waived 1 500 machine7).isRight = true ∧ waived 1 501 machine7 = .inl .badField
    ∧ (lineRemoved 1 machine7).isRight = true ∧ lineRemoved 4 machine7 = .inl .badField
    ∧ (lineSet { serviceLine with number := 4 } machine7).isRight = true
    ∧ lineSet { serviceLine with lastDone := 1001 } machine7 = .inl .badReading := by decide +kernel

/-- R151: figures at the ends of their ranges, and one past each. -/
def line4 : LineFields :=
  { number := 4, basis := 0, interval := 99999, lastDone := 99999999, warn := 99999, grace := 99999, enforcing := 1 }

theorem witness_CachedServiceRequests_figures :
    let bad (c : Instr) : Prop := statuses 2 (after c stored) = [.badField]
    (∃ y, setLineOf line4 = some y)
    ∧ (∃ y, setLineOf { line4 with basis := 1, interval := 100000000, lastDone := 4294967295 } = some y)
    ∧ (∀ x, x ∈ [{ line4 with number := 5 }, { line4 with number := 0 }, { line4 with interval := 100000 },
        { line4 with interval := 0 }, { line4 with lastDone := 100000000 }, { line4 with warn := 100000 },
        { line4 with grace := 100000 }, { line4 with enforcing := 2 }, { line4 with basis := 2 }] →
      setLineOf x = none ∧ bad (.setLine 2 1 7 x))
    ∧ stored.Accepts 2 ∧ bad (.meterChange 2 1 7 1000000 0) ∧ bad (.meterChange 2 1 7 0 1000000)
    ∧ bad (.serviceDone 2 1 7 0 0) ∧ bad (.serviceDone 2 1 7 5 0) ∧ bad (.serviceDone 2 1 7 1 4294967296)
    ∧ bad (.waiver 2 1 7 5 0) ∧ bad (.waiver 2 1 7 1 4294967296) ∧ bad (.setLineRemove 2 1 7 0)
    ∧ bad (.setLineRemove 2 1 7 5) ∧ ¬ bad (.setLineRemove 2 1 7 4) := by
  intro bad
  refine ⟨⟨_, rfl⟩, ⟨_, rfl⟩, ?_⟩
  decide +kernel

theorem witness_ServiceChangesOfALine :
    let waivered := { serviceLine with waiver := some 500 }
    (findLine machine7.lines 1 = some serviceLine ∧ findLine machine7.lines 2 = none
      ∧ (599 < serviceLine.lastDone ∧ serviceLine.lastDone ≤ 600)
      ∧ (serviceLine.interval < 501 ∧ 500 ≤ serviceLine.interval))
    ∧ (999 < machine7.reading ∧ machine7.reading < 1001 ∧ 1001 ≤ machine7.offset + 1001
      ∧ machine7.offset + 1001 ≤ 99999999)
    ∧ (let worn := { machine7 with offset := 99000000 }
      ¬ 99999999 < worn.offset + 999999 ∧ 99999999 < { worn with offset := 99000001 }.offset + 999999)
    ∧ (1000 ≤ machine7.reading + machine7.offset ∧ machine7.reading + machine7.offset < 1001)
    ∧ ((lineSet { serviceLine with interval := 500 } { machine7 with lines := [waivered] }).getRight?.map
        (fun r => r.lines.map fun l => l.waiver) = some [some 500]
      ∧ (lineSet { serviceLine with interval := 499 } { machine7 with lines := [waivered] }).getRight?.map
        (fun r => r.lines.map fun l => l.waiver) = some [none])
    ∧ (lineSet { serviceLine with number := 2 } machine7).getRight?.map (fun r => r.lines.map fun l => l.number)
      = some [1, 2]
    ∧ machine7.lines.Pairwise (fun a b => a.number < b.number) := by decide +kernel

theorem witness_EnrolAddsMachine :
    let f : EnrolFields :=
      { fleet := 9999, cls := 7, product := 4, capacity := 2500000, tag := 0, allowance := some 2500000,
        reading := 999999 }
    let unread := stored.modTable fun t => { t with unread := 1 }
    let full := stored.modTable fun t => { t with slots := Tab.all 512 .used }
    (stored.Accepts 2 ∧ stored.role 2 = .workshop ∧ (∀ x ∈ stored.table.lineWait, x.1 ≠ 9999)
      ∧ (1 ≤ f.fleet ∧ f.fleet ≤ 9999 ∧ f.cls < 8 ∧ 1 ≤ f.product ∧ f.product ≤ 4 ∧ 1 ≤ f.capacity
        ∧ f.capacity ≤ 2500000 ∧ f.reading ≤ 999999)
      ∧ stored.entry 9999 = none ∧ (stored.entry 7).isSome = true ∧ stored.table.faulted = false
      ∧ stored.table.unread = 0 ∧ stored.freeSlot = some 0 ∧ stored.freeLine = some 0)
    ∧ (crowded.freeSlot = some 0 ∧ crowded.freeLine = none ∧ crowded.lineFor 9999 = none ∧ crowded.entry 9999 = none
      ∧ (after (.enrol 2 1 f) crowded).table.lineWait = [(9999, [.port 2])])
    ∧ (unread.entry 9999 = none ∧ 0 < unread.table.unread) ∧ (full.entry 9999 = none ∧ full.freeSlot = none) := by
  decide +kernel

theorem witness_WithdrawAndRebuild :
    let busy := { machine7 with openTicket := some 1 }
    let faulted := stored.modTable fun t => { t with faulted := true }
    (stored.Accepts 2 ∧ stored.role 2 = .workshop ∧ stored.table.lineWait = [] ∧ stored.enrolled 9999 = none
      ∧ stored.enrolled 7 = some { fleet := 7, slot := 3, damaged := false } ∧ stored.lineFor 7 = none
      ∧ stored.table.faulted = false ∧ faulted.table.faulted = true ∧ faulted.lineFor 7 = none)
    ∧ (cached.lineFor 7 = some 0 ∧ (cached.line 0).content = .held .clean 3 machine7 ∧ machine7.openTicket = none
      ∧ (cached.line 0).waiters = [] ∧ ((cachedAs busy).line 0).content = .held .clean 3 busy
      ∧ (cachedAs busy).lineFor 7 = some 0 ∧ busy.openTicket.isSome = true
      ∧ statuses 2 (after (.withdraw 2 1 7) (cached.modTable fun t => { t with faulted := true })) = [.storeFault])
    ∧ (rebuildOk fields7 = true ∧ rebuildOk { fields7 with offset := 99000001 } = false
      ∧ stored.freeLine = some 0)
    ∧ (let fetching := lineOf0 (.fetching 7 3)
      fetching.lineFor 7 = some 0 ∧ (fetching.line 0).content = .fetching 7 3 ∧ crowded.lineFor 7 = none
      ∧ crowded.freeLine = none ∧ ((after (.rebuild 2 1 fields7) fetching).line 0).waiters = [.port 2]
      ∧ (after (.rebuild 2 1 fields7) crowded).table.lineWait = [(7, [.port 2])]) := by decide +kernel

/-- A line of a REBUILD of machine 7, in the figures of `fields7`: by hours 99,999,999 and a fuel of 0. -/
def rebuildLine (number basis lastDone : Nat) : RebuildLine :=
  { number := number, basis := basis, interval := 99999, lastDone := lastDone, warn := 0, grace := 0, enforcing := 1,
    waiver := some 99999 }

theorem witness_WithdrawAndRebuild_record :
    let f := { fields7 with cls := 7, product := 4, state := 1,
                            lines := [rebuildLine 4 1 0, rebuildLine 1 0 99800001, rebuildLine 2 0 99800002] }
    let r := monitored (fun _ => true) (rebuiltRecord 6 f)
    (rebuildOk f = true ∧ f.cls < 8 ∧ f.product - 1 < 4)
    ∧ r.lines.map (fun l => (l.number, l.state)) = [(1, .overdue), (2, .current), (4, .current)]
    ∧ (r.restricted, r.stoodDown, r.usageShift, r.reading, r.offset) = (true, true, 6, 999999, 99000000)
    ∧ (∀ g, g ∈ [{ f with cls := 8 }, { f with product := 0 }, { f with capacity := 2500001 },
        { f with allowance := 2500001 }, { f with used := 4294967296 }, { f with lifetimeFuel := 4294967296 }, { f with state := 2 },
        { f with lines := [rebuildLine 1 0 0, rebuildLine 1 1 0] }, { f with lines := [rebuildLine 5 0 0] },
        { f with lines := [{ rebuildLine 1 0 0 with waiver := some 100000 }] }] → rebuildOk g = false) := by
  decide +kernel

theorem witness_TierAndLowStockFollowUsableStock :
    defaultTank.reserve < defaultTank.tier2 ∧ defaultTank.tier2 < defaultTank.tier1
    ∧ fallingTier defaultTank 99999 = .reserve ∧ fallingTier defaultTank 100000 = .tier2
    ∧ risingTier defaultTank 800000 = .normal
    ∧ (bench.config.tanks.read 1).enabled = false ∧ (bench.config.tanks.read 0).enabled = true
    ∧ (bench.config.tanks.read 0).floor = 0 ∧ bench.startUp.stage = .ready ∧ (starting .index).startUp.stage ≠ .ready
    ∧ (let low (x : NozzleState) (y : PumpState) (b : Int) : State :=
        (pumpAt x y).modTank 0 fun k => { k with book := some b }
      ((low .flowFull .running 0).tank 0).usable = 0 ∧ ((low .flowFull .running 1).tank 0).usable = 1
      ∧ (low .flowFull .running 0).demand 0 = [0] ∧ ((low .held .heldLow 1).tank 0).pump.state = .heldLow
      ∧ (((low .flowFull .running 0).evaluateTank 0).ctx 0).endReason = some .tankLow
      ∧ (((low .priming .starting 0).evaluateTank 0).ctx 0).state = .held
      ∧ (((low .held .heldLow 1).evaluateTank 0).tank 0).pump.state = .stopped) := by decide +kernel

/-- Tank 1 with a receipt, a gauge and a book. -/
def tankAs (r : Option Receipt) (g : Option Nat) (b : Option Int) : State :=
  bench.modTank 0 fun k => { k with receipt := r, gauge := { invalidGauge with net := g }, book := b }

def receipt1 : Receipt :=
  { docket := 1000, gaugedAtOpen := 5000, issued := 0, substituted := false, overGauge := false, clamped := false }

theorem witness_ReceiptsAndStockAreBooked :
    bench.Accepts 2 ∧ bench.role 2 = .workshop ∧ (bench.config.tanks.read 0).enabled = true
    ∧ (bench.config.tanks.read 1).enabled = false ∧ (bench.config.tanks.read 0).capacity = 1000000000
    ∧ ((bench.tank 0).receipt = none ∧ (bench.tank 0).gauge.net = some 5000000
      ∧ 5000000 + 995000000 ≤ (bench.config.tanks.read 0).capacity
      ∧ (bench.config.tanks.read 0).capacity < 5000000 + 995000001)
    ∧ ((tankAs (some receipt1) none none).tank 0).receipt = some receipt1
    ∧ (((tankAs none none none).tank 0).receipt = none ∧ ((tankAs none none none).tank 0).gauge.net = none)
    ∧ (((tankAs none (some 5) none).tank 0).gauge.net = some 5 ∧ ((tankAs none (some 5) none).tank 0).book = none)
    ∧ (((tankAs none (some 50001) (some 0)).tank 0).book = some 0
      ∧ ((bench.config.tanks.read 0).tolerance : Int) < |((50001 : Nat) : Int) - 0|
      ∧ |((50000 : Nat) : Int) - 0| ≤ ((bench.config.tanks.read 0).tolerance : Int)) := by decide +kernel

/-- Each group at the ends of a range of its own: taken at the last figure in it, BAD_FIELD at the first beyond. -/
theorem witness_ConfigurationChangesItsGroup :
    let good (g : ConfigChange) : Bool := (applyChange g defaultConfiguration).isSome
    let nozzles (n : NozzlePatch) : ConfigChange := .nozzles (Tab.all 8 n)
    let nozzle : NozzlePatch := { owner := none, tank := none, channel := none, km := none, enabled := none }
    let delivery : DeliveryPatch :=
      { prestop := none, stall := none, drainSettle := none, hold := none, park := none, strayLimit := none,
        creepWindow := none, creepLimit := none }
    let cls : ClassPatch :=
      { name := none, essential := none, grantEligible := none, ration := none, defaultAllowance := none }
    let auth : AuthPatch :=
      { tier1 := none, tier2 := none, minIssue := none, grantsEnabled := none, grantTimer := none, policy := none }
    let probe (x : SpanPatch) : ConfigChange :=
      .probes { spans := Tab.all 16 x, divisor := none, holdLimit := none }
    [ConfigChange.ports (Tab.all 4 { role := some 3, baud := some 19200 }), .ports (Tab.all 4 { role := some 4, baud := none }),
      .ports (Tab.all 4 { role := none, baud := some 9600 }), nozzles { nozzle with tank := some 4 },
      nozzles { nozzle with tank := some 5 }, .delivery { delivery with hold := some 60 },
      .delivery { delivery with hold := some 59 }, .products (Tab.all 4 { alpha := some 2000, defaultTemp := some (-400) }),
      .products (Tab.all 4 { alpha := none, defaultTemp := some (-401) }),
      .classes (Tab.all 8 { cls with name := some (Tab.all 4 0x7E) }),
      .classes (Tab.all 8 { cls with name := some (Tab.all 4 0x7F) }), .authorisation { auth with policy := some 1 },
      .authorisation { auth with policy := some 2 }, .tanks (Tab.all 4 { emptyTankPatch with tier1 := some 1000000000 }),
      .tanks (Tab.all 4 { emptyTankPatch with tier1 := some 1000000001 }), probe { low := some 0, high := some 0 },
      probe { low := some 1, high := some 0 }, .service { hourTolerance := none, journalThreshold := some 255 },
      .service { hourTolerance := none, journalThreshold := some 0 }, .time { shiftLength := some 14400, epoch := none },
      .time { shiftLength := none, epoch := some 6 }].map good =
    [true, false, false, true, false, true, false, true, false, true, false, true, false, true, false, true, false, true,
      false, true, false] := by decide +kernel

theorem witness_ConfigurationAndStoreRequests :
    let q : ServicePatch := { hourTolerance := some 100, journalThreshold := none }
    let c := { benchConfig with service := { benchConfig.service with hourTolerance := 100 } }
    let enable : Configuration := { benchConfig with tanks := benchConfig.tanks.write 0 defaultTank }
    let flowing := atNozzle .flowFull
    let faulted := bench.modTable fun t => { t with faulted := true }
    (bench.Accepts 2 ∧ bench.role 2 = .workshop ∧ applyChange (.service q) bench.config = some c
      ∧ applyChange (.service { q with hourTolerance := some 101 }) bench.config = none
      ∧ bench.configBusy c = false ∧ bench.configReceipt c = false ∧ bench.table.faulted = false)
    ∧ flowing.configBusy enable = true ∧ (tankAs (some receipt1) none none).configReceipt enable = true
    ∧ (tankAs (some receipt1) none none).configBusy enable = false ∧ faulted.table.faulted = true
    ∧ (∀ g, g ∈ [ConfigChange.ports (Tab.all 4 { role := none, baud := some 115200 }),
          .nozzles (Tab.all 8 { owner := none, tank := none, channel := none, km := some 90000, enabled := none }),
          .tanks (Tab.all 4 { emptyTankPatch with enabled := some 0 }),
          .tanks (Tab.all 4 { emptyTankPatch with tier1 := some 300001 }),
          .probes { spans := Tab.all 16 { low := none, high := some 849 }, divisor := some 3, holdLimit := none },
          .time { shiftLength := some 86399, epoch := none }] →
      ((applyChange g bench.config).map fun x => (bench.configBusy x, bench.configReceipt x)) = some (false, false)
      ∧ statuses 2 (after (.configSet 2 1 g) faulted) = [.storeFault]) := by decide +kernel

/-- A FETCH of machine 7 in flight, awaited by nozzle 1's IDENT, port D's MACHINE_READ and port C's REBUILD, while machine
9 waits for a line. -/
def awaited (retry : Bool) : State :=
  let s := (inFlight (.fetch 0 3 retry) ((loaded 0).modLine 0 fun x =>
    { x with content := .fetching 7 3, waiters := [.ident 0, .port 3, .port 2] })).modCtx 0 fun c =>
      { c with state := .fetching, pointer := 0, delivery := some { blankDelivery with ticket := 1, fleet := 7 } }
  ((s.modTable fun t => { t with lineWait := [(9, [.port 1])] }).modPort 3 fun x =>
    { x with inHand := some { tag := 1, request := .machineRead 7 } }).modPort 2 fun x =>
      { x with inHand := some { tag := 2, request := .rebuild fields7 } }

theorem witness_StoreOperationsEnd :
    let writing := inFlight (.write 0 3) (lineOf0 (.held .writing 3 machine7))
    let erasing := (inFlight (.erase 3 (some 2)) stored).modPort 2 fun x =>
      { x with inHand := some { tag := 1, request := .withdraw 7 } }
    let stale := { machine7 with openTicket := some 1 }
    let alone := (awaited true).modLine 0 fun x => { x with waiters := [.ident 0] }
    (∀ retry, (awaited retry).Up ∧ (awaited retry).table.failures + 1 < 3
      ∧ (awaited retry).table.inFlight = some { op := .fetch 0 3 retry, data := .nothing, discarded := false }
      ∧ ((awaited retry).line 0).content = .fetching 7 3 ∧ machine7.fleet = 7 ∧ { machine7 with fleet := 8 }.fleet ≠ 7
      ∧ machine7.openTicket = none)
    ∧ (stale.openTicket = some 1 ∧ ((awaited true).ctx 0).state = .fetching
      ∧ (∀ n, ((awaited true).ctx n).state ∈ [.free, .loaded, .fetching]) ∧ (∀ k, (awaited true).slot k = .empty)
      ∧ (atNozzle .held).ticketHeld 1 7 = true ∧ ((atNozzle .held).ctx 0).state ∉ [.free, .loaded, .fetching]
      ∧ ((atNozzle .held).delivery 0).ticket = 1 ∧ ((atNozzle .held).delivery 0).fleet = 7)
    ∧ (let t := after (.fetchComplete (.record stale)) (awaited false)
      statuses 3 t = [.ok] ∧ statuses 2 t = [.machineBusy] ∧ (t.ctx 0).state ≠ .fetching)
    ∧ (let t := after (.fetchComplete .failed) (awaited true)
      statuses 3 t = [.storeFault] ∧ statuses 2 t = [.ok] ∧ t.journal.entries.length = 1)
    ∧ (alone.Up ∧ (alone.line 0).waiters = [.ident 0] ∧ alone.lineFor 7 = some 0
      ∧ (alone.enrolled 7).map (fun e => e.damaged) = some false
      ∧ (alone.ctx 0).delivery = some { blankDelivery with ticket := 1, fleet := 7 }
      ∧ (alone.ctx 0).steps[(alone.ctx 0).pointer]? = some (.ident 7 0xA1 true)
      ∧ identTests (alone.config.tanks.read (alone.config.nozzles.read 0).tank).product 0xA1 true machine7 = none
      ∧ identTests 0 0xA1 true { machine7 with stoodDown := true } = some .stoodDown)
    ∧ (writing.Up ∧ (writing.line 0).content = .held .writing 3 machine7)
    ∧ (erasing.Up ∧ (erasing.port 2).inHand = some { tag := 1, request := .withdraw 7 })
    ∧ (inFlight .configWrite bench).table.inFlight
      = some { op := .configWrite, data := .nothing, discarded := false } := by decide +kernel

theorem witness_ThirdFailureFaultsInterface :
    let second (s : State) : State := s.modTable fun t => { t with
      failures := 2, lineWait := [(9, [.port 1])], queue := [.fetch 1 4 false, .configWrite, .erase 5 none, .write 2 6] }
    let writing := inFlight (.write 0 3) (lineOf0 (.held .writing 3 machine7))
    (∀ s, s ∈ [awaited false, awaited true, writing, inFlight (.erase 3 (some 2)) stored,
        inFlight (.erase 3 none) stored, inFlight .configWrite bench] →
      (second s).Up ∧ (second s).table.failures = 2 ∧ (second s).table.inFlight = s.table.inFlight)
    ∧ (∀ retry, (second (awaited retry)).table.inFlight
        = some { op := .fetch 0 3 retry, data := .nothing, discarded := false }
      ∧ ((second (awaited retry)).line 0).content = .fetching 7 3 ∧ { machine7 with fleet := 8 }.fleet ≠ 7)
    ∧ ((second writing).line 0).content = .held .writing 3 machine7
    ∧ (let t := after (.fetchComplete .badCheck) (second (awaited true))
      t.table.faulted = true ∧ t.table.queue = [.configWrite, .write 2 6] ∧ t.table.lineWait = []
      ∧ statuses 3 t = [.storeFault] ∧ statuses 2 t = [.storeFault] ∧ t.slotState 5 = .used
      ∧ (t.entry 7).map (fun e => e.damaged) = some true ∧ t.table.inFlight = none) := by decide +kernel

end Sys2Proof.Tests
end

namespace Sys2Proof.Proofs
open Sys2Proof Sys2Proof.Machine

/-- Settles O5: a step is `exec` of the front command, and `exec_moves` carries the cache's soundness over every command,
given that of the record a FETCH brings. -/
theorem cachedRecordsStaySound : Obligations.CachedRecordsStaySound := by
  intro s t hs hfed hstep
  unfold step at hstep
  cases hq : s.pending with
  | nil =>
    simp only [hq] at hstep
    cases hstep
    exact hs
  | cons c q =>
    simp only [hq] at hstep
    exact (exec_moves (fed := True) hstep fun _ r hc => hfed r q (by rw [hq, hc])).records trivial hs

/-! ### Resets (R184) -/

/-- R184: before start-up has read the configuration, and with an operation in flight, an event's end changes nothing. -/
theorem settle_of_configuration {s : State} {x : InFlight} (hs : s.startUp.stage = .configuration)
    (hx : s.table.inFlight = some x) : s.settle = s := by
  simp [State.settle, State.leaveEpoch, State.leaveWrites, State.startStore, hs, hx]

/-- R184: a reset leaves start-up in its first stage with its CONFIG_READ in flight, where the event ends. -/
theorem settle_startOver (s : State) (c : ResetCause) : (s.startOver c).settle = s.startOver c :=
  settle_of_configuration rfl rfl

theorem startOver_of_bad {s : State} {c : ResetCause} (hp : s.power.powered = true) (hr : s.power.resetLow = false)
    (h : s.power.checkGood = false) :
    s.startOver c = { State.reset with
      pending := s.pending, freeIndex := s.freeIndex, startUp := { State.reset.startUp with cause := c } } := by
  simp [State.startOver, State.reset, h, hp, hr]

theorem startOver_of_good {s : State} {c : ResetCause} (hp : s.power.powered = true) (hr : s.power.resetLow = false)
    (h : s.power.checkGood = true) : s.startOver c = s.warmStart c := by
  simp [State.startOver, State.warmStart, State.reset, h, hp, hr, warmTable, warmTank, coldTable]

theorem exec_reset {s : State} (h : s.power.powered = true) :
    exec .reset s = .next (State.startOver { s with power := { s.power with resetLow := false } } .resetLine) := by
  rw [show exec .reset s = execReset s from rfl, execReset, if_pos h, settle_startOver]

theorem exec_powerUp {s : State} {held : Bool} (h : s.power.resetLow = false) :
    exec (.powerUp held) s = .next (State.startOver
      { s with power := { s.power with powered := true, checkGood := s.power.checkGood && held } } .powerUp) := by
  rw [show exec (.powerUp held) s = execPowerUp held s from rfl, execPowerUp, if_neg (by simp [h]), settle_startOver]

theorem exec_initialiseReset {s : State} (h : s.Up) (hd : s.power.initialiseDue = true) :
    exec .initialiseReset s = .next (s.startOver .initialise) := by
  rw [show exec .initialiseReset s = execInitialiseReset s from rfl, execInitialiseReset, event_of_running h.1, if_pos hd,
    settle_startOver]

theorem running_iff {s : State} : s.running = true ↔ s.power.powered = true ∧ s.power.resetLow = false := by
  simp [State.running]

/-- Settles O20: each of the three resets is `startOver`, which with a bad check word is the cold start. -/
theorem coldResetClearsEverything : Obligations.ColdResetClearsEverything := by
  intro s
  refine ⟨fun hp hc => ?_, fun held hr hc => ?_, fun hu hc hd => ?_⟩
  · exact (exec_reset hp).trans (congrArg Host.Outcome.next (startOver_of_bad hp rfl hc))
  · exact (exec_powerUp hr).trans (congrArg Host.Outcome.next (startOver_of_bad rfl hr hc))
  · obtain ⟨hp, hr⟩ := running_iff.1 hu.1
    rw [exec_initialiseReset hu hd, startOver_of_bad hp hr hc]

theorem line_warmStart (s : State) (c : ResetCause) (l : LineId) : (s.warmStart c).line l = settledLine (s.line l) :=
  read_mapWith ..

/-- Settles O21: each of the three resets is `startOver`, which with a good check word is the warm start; there each line
is settled by its state. -/
theorem warmResetRetains : Obligations.WarmResetRetains := by
  intro s hc
  refine ⟨fun hp => ?_, fun hr => ?_, fun hu hd => ?_, fun cause l k r => ?_⟩
  · exact (exec_reset hp).trans (congrArg Host.Outcome.next (startOver_of_good hp rfl hc))
  · exact (exec_powerUp hr).trans (congrArg Host.Outcome.next (startOver_of_good rfl hr (by simp [hc])))
  · obtain ⟨hp, hr⟩ := running_iff.1 hu.1
    rw [exec_initialiseReset hu hd, startOver_of_good hp hr hc]
  · dsimp only
    rw [line_warmStart, State.recordAt]
    match hx : (s.line l).content with
    | .empty => simp [settledLine, hx, emptyLine, LineContent.record]
    | .fetching _ _ => simp [settledLine, hx, emptyLine, LineContent.record]
    | .held st _ _ => cases st <;> simp [settledLine, hx, LineContent.record]

end Sys2Proof.Proofs

namespace Sys2Proof.Proofs
open Sys2Proof Sys2Proof.Machine

/-! ### A line break in the machine table unit (R25, R177) -/

theorem withdrawRequester_eq (s : State) (who : Requester) :
    s.withdrawRequester who = { s with table := { s.table with
      lines := Tab.mapWith (fun _ x => { x with waiters := x.waiters.filter fun w => !decide (w = who) }) s.table.lines,
      lineWait := (s.table.lineWait.map fun x => (x.1, x.2.filter fun w => !decide (w = who))).filter
        fun x => decide (x.2 ≠ []) } } := by
  have h : (fun x : Nat × List Requester => !x.2.isEmpty) = fun x => decide (x.2 ≠ []) := by
    funext x
    cases x.2 <;> simp
  rw [← h]
  rfl

/-- R25: an operation removed with its port's request changes the slot map alone, at the slot of the port's own ERASE. -/
theorem reclaim_frame (p : Port) (s : State) (op : StoreOp) :
    ∃ v : Tab SlotState 512, State.reclaim p s op = { s with table := { s.table with slots := v } }
      ∧ ∀ k, v.read k = if op = .erase k (some p) then .used else s.table.slots.read k := by
  cases op
  case erase j a =>
    by_cases ha : a = some p
    · refine ⟨s.table.slots.write j .used, by simp [State.reclaim, ha, State.setSlotState, State.modTable], fun k => ?_⟩
      simp [read_write, ha, eq_comm]
    · exact ⟨s.table.slots, by simp [State.reclaim, ha], fun k => by simp [ha]⟩
  all_goals exact ⟨s.table.slots, rfl, fun k => by simp⟩

theorem reclaims_frame (p : Port) (ops : List StoreOp) (s : State) :
    ∃ v : Tab SlotState 512, ops.foldl (State.reclaim p) s = { s with table := { s.table with slots := v } }
      ∧ ∀ k, v.read k = if StoreOp.erase k (some p) ∈ ops then .used else s.table.slots.read k := by
  induction ops generalizing s with
  | nil => exact ⟨s.table.slots, rfl, fun k => by simp⟩
  | cons op ops ih =>
    obtain ⟨v, hv, hread⟩ := reclaim_frame p s op
    obtain ⟨w, hw, hrest⟩ := ih (State.reclaim p s op)
    refine ⟨w, by rw [List.foldl_cons, hw, hv], fun k => ?_⟩
    rw [hrest, hv]
    by_cases hk : StoreOp.erase k (some p) ∈ ops
    · simp [hk]
    · simp [hk, hread, eq_comm]

/-- R25: what a port's request leaves of the machine table unit when it is withdrawn. -/
theorem withdrawPort_frame (s : State) (p : Port) :
    ∃ v : Tab SlotState 512,
      s.withdrawPort p = { s with table := { s.table with
        lines := (s.withdrawRequester (.port p)).table.lines, lineWait := (s.withdrawRequester (.port p)).table.lineWait,
        slots := v, queue := s.table.queue.filter (fun op => !op.askedBy p),
        inFlight := s.table.inFlight.map (orphaned p) } }
      ∧ ∀ k, v.read k = if StoreOp.erase k (some p) ∈ s.table.queue then .used else s.table.slots.read k := by
  have hq : (s.withdrawRequester (.port p)).table.queue = s.table.queue := by rw [withdrawRequester_eq]
  have hs : (s.withdrawRequester (.port p)).table.slots = s.table.slots := by rw [withdrawRequester_eq]
  obtain ⟨v, hv, hread⟩ := reclaims_frame p s.table.queue (s.withdrawRequester (.port p))
  refine ⟨v, ?_, by simpa only [hs] using hread⟩
  simp only [State.withdrawPort, hq, hv]
  simp only [withdrawRequester_eq, State.modTable]

/-- R177: a line break of a port whose line is high. -/
theorem lineBreak_of_high {s : State} {p : Port} (h : (s.port p).receive = .high) :
    s.lineBreak p = (s.withdrawPort p).modPort p
      fun x => { brokenPort x with baud := ((s.withdrawPort p).config.ports.read p).baud } := by
  rw [State.lineBreak, if_pos h, State.takeBaud, State.modPort_modPort]
  rfl

theorem orphaned_of_own {p : Port} {x : InFlight} {k : SlotId} (h : x.op = .erase k (some p)) :
    orphaned p x = { x with op := .erase k none } := by
  simp [orphaned, h]

theorem orphaned_of_other {p : Port} {x : InFlight} (h : x.op.askedBy p = false) : orphaned p x = x := by
  unfold orphaned
  split
  · next k a hop => rw [if_neg]; simpa [hop, StoreOp.askedBy] using h
  all_goals rfl

/-- Settles O13: the withdrawal is read off `withdrawRequester_eq` and, for the port's own ERASE, off
`withdrawPort_frame`. -/
theorem breakWithdrawsItsRequest : Obligations.BreakWithdrawsItsRequest := by
  unfold Obligations.BreakWithdrawsItsRequest
  constructor
  · intro who s
    exact withdrawRequester_eq s who
  · intro p s hu hp
    obtain ⟨v, hv, hread⟩ := withdrawPort_frame s p
    rw [withdrawRequester_eq] at hv
    have hb := lineBreak_of_high hp
    have hexec : exec (.portReset p) s = .next (s.lineBreak p).startStore :=
      event_of_up (k := fun x => x.lineBreak p) hu (by rw [hb, hv]; exact hu.2)
    refine ⟨s.lineBreak p, hexec, ?_⟩
    rw [hb, hv]
    refine ⟨?_, fun l => ?_, ?_, fun x hx => ⟨fun k hk => ?_, fun ha => ?_⟩,
      fun hx => ?_, ?_, fun k hk => ?_, fun k hk => ?_, fun q hq => ?_, ?_, ?_, ?_, ?_, ?_, ?_, ?_⟩
    · simp [brokenPort]
    · simp only [State.line, State.modPort_table, read_mapWith]
    · simp only [State.modPort_table]
    · simp only [State.modPort_table, hx, Option.map_some, orphaned_of_own hk]
    · simp only [State.modPort_table, hx, Option.map_some, orphaned_of_other ha]
    · simp only [State.modPort_table, hx, Option.map_none]
    · simp only [State.modPort_table]
    · simp only [State.slotState, State.modPort_table, hread, if_pos hk]
    · simp only [State.slotState, State.modPort_table, hread, if_neg hk]
    · rw [State.port_modPort, if_neg hq]
      simp only [State.port]
    all_goals simp only [State.modPort]

end Sys2Proof.Proofs

namespace Sys2Proof.Proofs
open Sys2Proof Sys2Proof.Machine

/-! ### Searching lists in ascending order -/

theorem findSome?_eq_some_of_sorted {n : Nat} {β : Type} {xs : List (Fin n)} (hs : xs.Pairwise (· < ·))
    (hall : ∀ i, i ∈ xs) (f : Fin n → Option β) (b : β) :
    xs.findSome? f = some b ↔ ∃ i, f i = some b ∧ ∀ j, j < i → f j = none := by
  rw [List.findSome?_eq_some_iff]
  constructor
  · rintro ⟨pre, i, post, rfl, hi, hpre⟩
    refine ⟨i, hi, fun j hj => ?_⟩
    rcases List.mem_append.1 (hall j) with hm | hm
    · exact hpre j hm
    · rcases List.mem_cons.1 hm with rfl | hm
      · exact absurd hj (lt_irrefl _)
      · exact absurd hj ((List.pairwise_cons.1 (List.pairwise_append.1 hs).2.1).1 j hm).not_gt
  · rintro ⟨i, hi, hmin⟩
    obtain ⟨pre, post, rfl⟩ := List.append_of_mem (hall i)
    exact ⟨pre, i, post, rfl, hi, fun j hj =>
      hmin j ((List.pairwise_append.1 hs).2.2 j hj i List.mem_cons_self)⟩

theorem find?_eq_some_of_sorted {n : Nat} {xs : List (Fin n)} (hs : xs.Pairwise (· < ·)) (hall : ∀ i, i ∈ xs)
    (f : Fin n → Bool) (i : Fin n) : xs.find? f = some i ↔ f i = true ∧ ∀ j, j < i → f j = false := by
  rw [List.find?_eq_some_iff_append]
  constructor
  · rintro ⟨hi, pre, post, rfl, hpre⟩
    refine ⟨hi, fun j hj => ?_⟩
    rcases List.mem_append.1 (hall j) with hm | hm
    · simpa using hpre j hm
    · rcases List.mem_cons.1 hm with rfl | hm
      · exact absurd hj (lt_irrefl _)
      · exact absurd hj ((List.pairwise_cons.1 (List.pairwise_append.1 hs).2.1).1 j hm).not_gt
  · rintro ⟨hi, hmin⟩
    obtain ⟨pre, post, rfl⟩ := List.append_of_mem (hall i)
    exact ⟨hi, pre, post, rfl, fun j hj => by
      simpa using hmin j ((List.pairwise_append.1 hs).2.2 j hj i List.mem_cons_self)⟩

theorem allLines_sorted : allLines.Pairwise (· < ·) := by decide
theorem mem_allLines (l : LineId) : l ∈ allLines := by revert l; decide

theorem allLines_eq : allLines = List.finRange 16 := by decide
theorem allNozzles_eq : allNozzles = List.finRange 8 := by decide
theorem allTanks_eq : allTanks = List.finRange 4 := by decide
theorem allSlots_eq : allSlots = List.finRange 4 := by decide

/-! ### The index (R1) -/

/-- R1: in an index in ascending order a new number is inserted between the lower and the higher ones. -/
theorem insertEntry_eq_of_sorted {e : IndexEntry} {l : List IndexEntry} (hs : l.Pairwise fun a b => a.fleet < b.fleet)
    (hne : ∀ x ∈ l, x.fleet ≠ e.fleet) :
    insertEntry e l = l.filter (fun x => decide (x.fleet < e.fleet)) ++ [e]
      ++ l.filter (fun x => decide (e.fleet < x.fleet)) := by
  induction l with
  | nil => rfl
  | cons y ys ih =>
    obtain ⟨hy, hys⟩ := List.pairwise_cons.1 hs
    have hey : y.fleet ≠ e.fleet := hne y List.mem_cons_self
    unfold insertEntry
    split
    · next hlt =>
      have hhigh : ∀ x ∈ ys, e.fleet < x.fleet := fun x hx => hlt.trans (hy x hx)
      have hlow : ys.filter (fun x => decide (x.fleet < e.fleet)) = [] :=
        List.filter_eq_nil_iff.2 fun x hx => by simpa using (hhigh x hx).le
      have hkeep : ys.filter (fun x => decide (e.fleet < x.fleet)) = ys :=
        List.filter_eq_self.2 fun x hx => by simpa using hhigh x hx
      simp [hlt, hlt.le, hlow, hkeep]
    · next hlt =>
      have hlt' : y.fleet < e.fleet := by omega
      rw [ih hys fun x hx => hne x (List.mem_cons_of_mem _ hx)]
      simp [hlt', hlt]

/-! ### Store completions (R12) -/

section
variable {s : State} {d : StoreData} {b : Bool}

theorem exec_headerReadComplete {k : SlotId} {retry : Bool} (res : HeaderResult) (hr : s.running = true)
    (hx : s.table.inFlight = some { op := .headerRead k retry, data := d, discarded := b }) :
    exec (.headerReadComplete res) s = .next (s.endHeaderRead k retry res).settle := by
  rw [show exec (.headerReadComplete res) s = execHeaderReadComplete res s from rfl, execHeaderReadComplete,
    event_of_running hr]
  simp only [hx]

theorem exec_configReadComplete {retry : Bool} (res : ConfigResult) (hr : s.running = true)
    (hx : s.table.inFlight = some { op := .configRead retry, data := d, discarded := b }) :
    exec (.configReadComplete res) s = .next (s.endConfigRead retry res).settle := by
  rw [show exec (.configReadComplete res) s = execConfigReadComplete res s from rfl, execConfigReadComplete,
    event_of_running hr]
  simp only [hx]

theorem exec_configWriteComplete (ok : Bool) (hr : s.running = true)
    (hx : s.table.inFlight = some { op := .configWrite, data := d, discarded := b }) :
    exec (.configWriteComplete ok) s = .next (s.endConfigWrite ok).settle := by
  rw [show exec (.configWriteComplete ok) s = execConfigWriteComplete ok s from rfl, execConfigWriteComplete,
    event_of_running hr]
  simp only [hx]

theorem exec_writeComplete {l : LineId} {k : SlotId} (ok : Bool) (hr : s.running = true)
    (hx : s.table.inFlight = some { op := .write l k, data := d, discarded := b }) :
    exec (.writeComplete ok) s =
      .next (s.endWrite { op := .write l k, data := d, discarded := b } l k ok).settle := by
  rw [show exec (.writeComplete ok) s = execWriteComplete ok s from rfl, execWriteComplete, event_of_running hr]
  simp only [hx]

theorem exec_fetchComplete {l : LineId} {k : SlotId} {retry : Bool} (res : FetchResult) (hr : s.running = true)
    (hx : s.table.inFlight = some { op := .fetch l k retry, data := d, discarded := b }) :
    exec (.fetchComplete res) s =
      .next (s.endFetch { op := .fetch l k retry, data := d, discarded := b } l k retry res).settle := by
  rw [show exec (.fetchComplete res) s = execFetchComplete res s from rfl, execFetchComplete, event_of_running hr]
  simp only [hx]

theorem exec_eraseComplete {k : SlotId} {asker : Option Port} (ok : Bool) (hr : s.running = true)
    (hx : s.table.inFlight = some { op := .erase k asker, data := d, discarded := b }) :
    exec (.eraseComplete ok) s = .next (s.endErase k asker ok).settle := by
  rw [show exec (.eraseComplete ok) s = execEraseComplete ok s from rfl, execEraseComplete, event_of_running hr]
  simp only [hx]

end

/-! ### The end of an event in start-up (R12, R185) -/

/-- R12: with nothing in flight and the interface not FAULTED the head of the queue starts. -/
theorem startStore_of_cons {s : State} {op : StoreOp} {rest : List StoreOp} (hx : s.table.inFlight = none)
    (hf : s.table.faulted = false) (hq : s.table.queue = op :: rest) : s.startStore = s.launch op rest := by
  simp [State.startStore, hx, hf, hq]

theorem startStore_of_nil {s : State} (hq : s.table.queue = []) : s.startStore = s := by
  unfold State.startStore
  split
  · next h => simp [hq] at h
  all_goals rfl

theorem startStore_of_faulted {s : State} (hf : s.table.faulted = true) : s.startStore = s := by
  unfold State.startStore
  split
  · next h _ => simp [hf] at h
  all_goals rfl

theorem settle_of_index {s : State} (h : s.startUp.stage = .index) : s.settle = s.startStore := by
  simp [State.settle, State.leaveEpoch, State.leaveWrites, h]

theorem settle_of_stage_configuration {s : State} (h : s.startUp.stage = .configuration) : s.settle = s.startStore := by
  simp [State.settle, State.leaveEpoch, State.leaveWrites, h]

/-! ### A header read (R3) -/

/-- R3: the slot's holder is the lowest line that holds a record of the slot. -/
theorem slotHolder_eq_some_iff (s : State) (k : SlotId) (m : Nat) :
    s.slotHolder k = some m ↔ ∃ l : LineId, (∃ st r, (s.line l).content = .held st k r ∧ r.fleet = m)
      ∧ ∀ j : LineId, j < l → ∀ st r, (s.line j).content ≠ .held st k r := by
  rw [State.slotHolder, findSome?_eq_some_of_sorted allLines_sorted mem_allLines]
  refine exists_congr fun l => and_congr ?_ (forall₂_congr fun j _ => ?_)
  · cases (s.line l).content <;> simp [eq_comm]
  · cases (s.line j).content <;> simp [eq_comm]

end Sys2Proof.Proofs

namespace Sys2Proof.Proofs
open Sys2Proof Sys2Proof.Machine

theorem slotHolder_congr {s t : State} (h : t.table.lines = s.table.lines) (k : SlotId) :
    t.slotHolder k = s.slotHolder k := by
  simp only [State.slotHolder, State.line, h]

theorem entry_congr {s t : State} (h : t.table.index = s.table.index) (n : Nat) : t.entry n = s.entry n := by
  simp only [State.entry, h]

theorem fleetOk_of_range {n : Nat} (h1 : 1 ≤ n) (h2 : n ≤ 9999) : fleetOk n = true := by simp [fleetOk, h1, h2]

theorem fleetOk_of_outside {n : Nat} (h : n = 0 ∨ 9999 < n) : fleetOk n = false := by
  simp only [fleetOk, decide_eq_false_iff_not]
  omega

/-- R3: the part once slot `k`'s header is settled: the count of failures, the slot's state, the index and what is added
to the counts of duplicates and of unread slots, with the next header's read in flight. -/
def headerDone (s : State) (k : SlotId) (hk : k.val + 1 < 512) (failures : Nat) (x : SlotState)
    (index : List IndexEntry) (dup unread : Nat) : State :=
  { s with
    startUp := { s.startUp with nextHeader := k.val + 1 },
    table := { s.table with
      failures := failures, slots := s.table.slots.write k x, index := index,
      duplicates := s.table.duplicates + dup, unread := s.table.unread + unread,
      inFlight := some { op := .headerRead ⟨k.val + 1, hk⟩ false, data := .nothing, discarded := false } } }

/-- R3: the part once slot `k` is known to hold the number `n`. -/
def headerNumbered (s : State) (k : SlotId) (hk : k.val + 1 < 512) (failures n : Nat) : State :=
  if (s.entry n).isSome then headerDone s k hk failures .used s.table.index 1 0
  else headerDone s k hk failures .used (insertEntry { fleet := n, slot := k, damaged := false } s.table.index) 0 0

/-- A state whose header read has just ended, with the count of failures it leaves. -/
def headerEnded (s : State) (failures : Nat) : State :=
  { s with table := { s.table with failures := failures, inFlight := none } }

section
variable {s : State} {k : SlotId} (hst : s.startUp.stage = .index) (hf : s.table.faulted = false)
  (hq : s.table.queue = [])
include hst hf hq

/-- R3: a header settled, the next one's read starts. -/
theorem settle_nextHeaderRead (hk : k.val + 1 < 512) {y : State} {failures dup unread : Nat} {x : SlotState}
    {index : List IndexEntry} (hy : y = { s with table := { s.table with
      failures := failures, slots := s.table.slots.write k x, index := index,
      duplicates := s.table.duplicates + dup, unread := s.table.unread + unread, inFlight := none } }) :
    (y.nextHeaderRead k).settle = headerDone s k hk failures x index dup unread := by
  have hn : fromZero 512 (k.val + 1) = some ⟨k.val + 1, hk⟩ := dif_pos hk
  simp only [State.nextHeaderRead, hn, hy]
  rw [settle_of_index, startStore_of_cons (op := .headerRead ⟨k.val + 1, hk⟩ false) (rest := [])]
  · simp only [State.launch, State.enqueue, State.modTable, headerDone, hq]
  · rfl
  · exact hf
  · simp only [State.enqueue, State.modTable, hq, List.nil_append]
  · exact hst

theorem settle_unreadable (hk : k.val + 1 < 512) (failures : Nat) :
    (((headerEnded s failures).countUnread k).nextHeaderRead k).settle =
      headerDone s k hk failures .used s.table.index 0 1 := by
  refine settle_nextHeaderRead hst hf hq hk ?_
  simp only [headerEnded, State.countUnread, State.setSlotState, State.modTable, Nat.add_zero]

theorem settle_free (hk : k.val + 1 < 512) (failures : Nat) :
    (((headerEnded s failures).setSlotState k .free).nextHeaderRead k).settle =
      headerDone s k hk failures .free s.table.index 0 0 := by
  refine settle_nextHeaderRead hst hf hq hk ?_
  simp only [headerEnded, State.setSlotState, State.modTable, Nat.add_zero]

theorem settle_applyFleet (hk : k.val + 1 < 512) (failures n : Nat) :
    (((headerEnded s failures).applyFleet k n).nextHeaderRead k).settle = headerNumbered s k hk failures n := by
  have he : (headerEnded s failures).entry n = s.entry n := entry_congr rfl n
  unfold headerNumbered State.applyFleet
  rw [he]
  split
  · refine settle_nextHeaderRead hst hf hq hk ?_
    simp only [headerEnded, State.setSlotState, State.modTable, Nat.add_zero]
  · refine settle_nextHeaderRead hst hf hq hk ?_
    simp only [headerEnded, State.setSlotState, State.modTable, Nat.add_zero]

/-- R3: a header that is to be read once more. -/
theorem settle_retryHeader (failures : Nat) :
    ((headerEnded s failures).enqueue (.headerRead k true)).settle = { s with table := { s.table with
      failures := failures, inFlight := some { op := .headerRead k true, data := .nothing, discarded := false } } } := by
  rw [settle_of_index, startStore_of_cons (op := .headerRead k true) (rest := [])]
  · simp only [State.launch, State.enqueue, State.modTable, headerEnded, hq]
  · rfl
  · exact hf
  · simp only [State.enqueue, State.modTable, headerEnded, hq, List.nil_append]
  · exact hst

end

/-- R3: the end of a header read, by what the store reports, short of the third failure. -/
theorem endHeaderRead_free (s : State) (k : SlotId) (retry : Bool) :
    s.endHeaderRead k retry .free = ((headerEnded s 0).applyRead k none).nextHeaderRead k := rfl

theorem endHeaderRead_inRange (s : State) (k : SlotId) (retry : Bool) {n : Nat} (h : fleetOk n = true) :
    s.endHeaderRead k retry (.fleet n) = ((headerEnded s 0).applyRead k (some n)).nextHeaderRead k := if_pos h

theorem endHeaderRead_outside (s : State) (k : SlotId) (retry : Bool) {n : Nat} (h : fleetOk n = false) :
    s.endHeaderRead k retry (.fleet n) =
      if retry then ((headerEnded s 0).applyUnread k).nextHeaderRead k
      else (headerEnded s 0).enqueue (.headerRead k true) := if_neg (by simp [h])

theorem endHeaderRead_failed (s : State) (k : SlotId) (retry : Bool) (h : s.table.failures + 1 < 3) :
    s.endHeaderRead k retry .failed =
      if retry then ((headerEnded s (s.table.failures + 1)).applyUnread k).nextHeaderRead k
      else (headerEnded s (s.table.failures + 1)).enqueue (.headerRead k true) := if_neg (Nat.not_le.2 h)

section
variable {s : State} {k : SlotId} (failures : Nat) (r : Option Nat)

theorem slotHolder_headerEnded (j : SlotId) : (headerEnded s failures).slotHolder j = s.slotHolder j :=
  slotHolder_congr rfl j

theorem applyRead_held {m : Nat} (h : s.slotHolder k = some m) :
    (headerEnded s failures).applyRead k r = (headerEnded s failures).applyFleet k m := by
  simp only [State.applyRead, slotHolder_headerEnded, h]

theorem applyUnread_held {m : Nat} (h : s.slotHolder k = some m) :
    (headerEnded s failures).applyUnread k = (headerEnded s failures).applyFleet k m := by
  simp only [State.applyUnread, slotHolder_headerEnded, h]

theorem applyUnread_unheld (h : s.slotHolder k = none) :
    (headerEnded s failures).applyUnread k = (headerEnded s failures).countUnread k := by
  simp only [State.applyUnread, slotHolder_headerEnded, h]

theorem applyRead_unheld_free (h : s.slotHolder k = none) :
    (headerEnded s failures).applyRead k none = (headerEnded s failures).setSlotState k .free := by
  simp only [State.applyRead, slotHolder_headerEnded, h]

theorem applyRead_unheld_fleet (h : s.slotHolder k = none) (n : Nat) :
    (headerEnded s failures).applyRead k (some n) = (headerEnded s failures).applyFleet k n := by
  simp only [State.applyRead, slotHolder_headerEnded, h]

end

/-- Settles O24: the order of the index is `insertEntry_eq_of_sorted`; each report of the store is one of the
`endHeaderRead` laws, then by the slot's holder one of the `settle` laws. -/
theorem headerReadBuildsIndex : Obligations.HeaderReadBuildsIndex := by
  refine ⟨fun e l hs hne => insertEntry_eq_of_sorted hs hne, fun k retry s hr hst hf hq hx hk => ?_⟩
  have ends (res : HeaderResult) {t : State} (h : (s.endHeaderRead k retry res).settle = t) :
      exec (.headerReadComplete res) s = .next t := h ▸ exec_headerReadComplete res hr hx
  refine ⟨slotHolder_eq_some_iff s k, fun hn => ends _ ?_, fun n hn h1 h2 => ends _ ?_,
    fun m hm => ⟨ends _ ?_, fun n h1 h2 => ends _ ?_⟩,
    fun hret => ⟨fun n hn => ends _ ?_, fun h3 => ends _ ?_⟩,
    fun hret => ⟨fun n hn => ⟨fun hh => ends _ ?_, fun m hm => ends _ ?_⟩,
      fun h3 => ⟨fun hh => ends _ ?_, fun m hm => ends _ ?_⟩⟩⟩
  · rw [endHeaderRead_free, applyRead_unheld_free _ hn]
    exact settle_free hst hf hq hk 0
  · rw [endHeaderRead_inRange _ _ _ (fleetOk_of_range h1 h2), applyRead_unheld_fleet _ hn]
    exact settle_applyFleet hst hf hq hk 0 n
  · rw [endHeaderRead_free, applyRead_held _ _ hm]
    exact settle_applyFleet hst hf hq hk 0 m
  · rw [endHeaderRead_inRange _ _ _ (fleetOk_of_range h1 h2), applyRead_held _ _ hm]
    exact settle_applyFleet hst hf hq hk 0 m
  · rw [endHeaderRead_outside _ _ _ (fleetOk_of_outside hn), if_neg (by simp [hret])]
    exact settle_retryHeader hst hf hq 0
  · rw [endHeaderRead_failed _ _ _ h3, if_neg (by simp [hret])]
    exact settle_retryHeader hst hf hq _
  · rw [endHeaderRead_outside _ _ _ (fleetOk_of_outside hn), if_pos hret, applyUnread_unheld _ hh]
    exact settle_unreadable hst hf hq hk 0
  · rw [endHeaderRead_outside _ _ _ (fleetOk_of_outside hn), if_pos hret, applyUnread_held _ hm]
    exact settle_applyFleet hst hf hq hk 0 m
  · rw [endHeaderRead_failed _ _ _ h3, if_pos hret, applyUnread_unheld _ hh]
    exact settle_unreadable hst hf hq hk _
  · rw [endHeaderRead_failed _ _ _ h3, if_pos hret, applyUnread_held _ hm]
    exact settle_applyFleet hst hf hq hk _ m

end Sys2Proof.Proofs

namespace Sys2Proof.Proofs
open Sys2Proof Sys2Proof.Machine

/-! ### Tables changed entry by entry -/

theorem tab_ext {α : Type} {n : Nat} {v w : Tab α n} (h : ∀ i, v.read i = w.read i) : v = w :=
  Vector.ext fun i hi => h ⟨i, hi⟩

/-- Entries rewritten one after the other, each once, read as rewritten. -/
theorem read_foldl_write {α : Type} {n : Nat} (g : Fin n → α → α) {xs : List (Fin n)} (hx : xs.Nodup) (v : Tab α n)
    (j : Fin n) : (xs.foldl (fun w i => w.write i (g i (w.read i))) v).read j =
      if j ∈ xs then g j (v.read j) else v.read j := by
  induction xs generalizing v with
  | nil => simp
  | cons i xs ih =>
    obtain ⟨hi, hxs⟩ := List.nodup_cons.1 hx
    rw [List.foldl_cons, ih hxs, read_write]
    by_cases hj : j = i
    · subst hj
      simp [hi]
    · simp [hj]

/-- All entries rewritten in order. -/
theorem foldl_write_finRange {α : Type} {n : Nat} (g : Fin n → α → α) (v : Tab α n) :
    (List.finRange n).foldl (fun w i => w.write i (g i (w.read i))) v = Tab.mapWith g v :=
  tab_ext fun i => by simp [read_foldl_write g (List.nodup_finRange n), read_mapWith]

/-! ### A configuration loaded (R185 stage 1) -/

theorem allPorts_eq : allPorts = List.finRange 4 := by decide

theorem takeBauds_eq_foldl (xs : List Port) (s : State) : xs.foldl State.takeBaud s = { s with
    ports := xs.foldl (fun w p => w.write p (if (w.read p).line.isEmpty
      then { w.read p with baud := (s.config.ports.read p).baud } else w.read p)) s.ports } := by
  induction xs generalizing s with
  | nil => rfl
  | cons p xs ih => rw [List.foldl_cons, ih]; rfl

/-- R183: every port with nothing on its line takes its configured baud rate. -/
theorem takeBauds_eq (s : State) : allPorts.foldl State.takeBaud s = { s with
    ports := Tab.mapWith (fun p x => if x.line = [] then { x with baud := (s.config.ports.read p).baud } else x)
      s.ports } := by
  have h := foldl_write_finRange
    (fun p (x : PortState) => if x.line = [] then { x with baud := (s.config.ports.read p).baud } else x) s.ports
  simp only [takeBauds_eq_foldl, allPorts_eq, h, List.isEmpty_iff]

theorem inHand_enterNotice (n : Notice) (x : PortState) : (enterNotice n x).inHand = x.inHand := by
  unfold enterNotice
  split
  · rfl
  · split <;> rfl

theorem inHand_postWhere (s : State) (d : Port → Bool) (b : NoticeBody) (q : Port) :
    ((s.postWhere d b).ports.read q).inHand = (s.ports.read q).inHand := by
  have h := State.port_postWhere s d b q
  simp only [State.port] at h
  rw [h]
  split
  · exact inHand_enterNotice ..
  · rfl

/-- R63: the tier's evaluation reaches the tanks and the notice queues alone, whatever the machine table unit holds. -/
theorem evaluateTier_frame (s : State) (t : TankId) (m : MachineTable) :
    State.evaluateTier { s with table := m } t =
      { s with table := m, tanks := (s.evaluateTier t).tanks, ports := (s.evaluateTier t).ports } := by
  by_cases hn : nextTier (s.tankConfig t) (s.tank t).usable (s.tank t).tier = (s.tank t).tier
  · rw [show s.evaluateTier t = s from if_pos hn]
    exact if_pos hn
  · rw [show s.evaluateTier t = (s.modTank t fun x => { x with
      tier := nextTier (s.tankConfig t) (s.tank t).usable (s.tank t).tier }).postAll (.tierChange t (s.tank t).tier
        (nextTier (s.tankConfig t) (s.tank t).usable (s.tank t).tier) (s.tank t).usable) from if_neg hn]
    exact if_neg hn

theorem inHand_evaluateTier (s : State) (t : TankId) (q : Port) :
    ((s.evaluateTier t).ports.read q).inHand = (s.ports.read q).inHand := by
  simp only [State.evaluateTier]
  split
  · rfl
  · exact inHand_postWhere ..

/-- R68: before READY the low-stock rule reaches the pumps alone, whatever the machine table unit holds. -/
theorem evaluateLow_frame (s : State) (t : TankId) (h : s.ready = false) : ∃ tanks : Tab Tank 4,
    ∀ m : MachineTable, State.evaluateLow { s with table := m } t = { s with table := m, tanks := tanks } := by
  have hlow (m : MachineTable) : State.evaluateLow { s with table := m } t =
      if (s.tank t).usable ≤ ((s.tankConfig t).floor : Int) then
        if (s.tank t).pump.state = .heldLow then { s with table := m }
        else { s with table := m, tanks := (s.setPump t .heldLow none).tanks }
      else if (s.tank t).pump.state = .heldLow then { s with table := m, tanks := (s.setPump t .stopped none).tanks }
      else { s with table := m } := by
    have hr : State.ready { s with table := m } = false := h
    simp only [State.evaluateLow, hr]
    rfl
  simp only [hlow]
  split <;> split
  · exact ⟨s.tanks, fun m => rfl⟩
  · exact ⟨_, fun m => rfl⟩
  · exact ⟨_, fun m => rfl⟩
  · exact ⟨s.tanks, fun m => rfl⟩

/-- R62: before READY a tank's evaluation reaches the tanks and the notice queues alone, whatever the machine table unit
holds. -/
theorem evaluateTank_frame (s : State) (t : TankId) (h : s.ready = false) :
    ∃ (tanks : Tab Tank 4) (ports : Tab PortState 4), (∀ q, (ports.read q).inHand = (s.ports.read q).inHand)
      ∧ ∀ m : MachineTable, State.evaluateTank { s with table := m } t =
        { s with table := m, tanks := tanks, ports := ports } := by
  by_cases he : (s.tankConfig t).enabled = true
  · obtain ⟨tanks, hlow⟩ := evaluateLow_frame
      { s with tanks := (s.evaluateTier t).tanks, ports := (s.evaluateTier t).ports } t h
    refine ⟨tanks, (s.evaluateTier t).ports, inHand_evaluateTier s t, fun m => (if_pos he).trans ?_⟩
    rw [evaluateTier_frame]
    exact hlow m
  · exact ⟨s.tanks, s.ports, fun q => rfl, fun m => if_neg he⟩

theorem evaluateTanks_frame (ts : List TankId) (s : State) (h : s.ready = false) :
    ∃ (tanks : Tab Tank 4) (ports : Tab PortState 4), (∀ q, (ports.read q).inHand = (s.ports.read q).inHand)
      ∧ ∀ m : MachineTable, ts.foldl State.evaluateTank { s with table := m } =
        { s with table := m, tanks := tanks, ports := ports } := by
  induction ts generalizing s with
  | nil => exact ⟨s.tanks, s.ports, fun q => rfl, fun m => rfl⟩
  | cons t ts ih =>
    obtain ⟨tanks, ports, hports, heval⟩ := evaluateTank_frame s t h
    obtain ⟨tanks', ports', hports', hrest⟩ := ih { s with tanks := tanks, ports := ports } h
    refine ⟨tanks', ports', fun q => (hports' q).trans (hports q), fun m => ?_⟩
    rw [List.foldl_cons, heval]
    exact hrest m

/-! ### The epoch's write (R181, R185 stage 2) -/

theorem coverRequests_of_none {s : State} (h : ∀ q, (s.ports.read q).inHand = none) : coverRequests s = s := by
  have hports : (coverRequests s).ports = s.ports := tab_ext fun q => by
    simp only [coverRequests, read_mapWith, h, Option.map_none]
    rw [← h q]
  show { s with ports := (coverRequests s).ports } = s
  rw [hports]

section
variable {s : State} (hst : s.startUp.stage = .epoch) (hf : s.table.faulted = false) (hx : s.table.inFlight = none)
include hst hf hx

/-- R185: with no CONFIG_WRITE to wait for, stage 3 begins with the read of slot 0's header. -/
theorem settle_of_epoch_clear (hq : s.table.queue = []) : s.settle = { s with
    startUp := { s.startUp with stage := .index },
    table := { s.table with
      inFlight := some { op := .headerRead 0 false, data := .nothing, discarded := false } } } := by
  have hp : s.configWritePending = false := by simp [State.configWritePending, State.configWriteQueued, hq, hx]
  have hl : s.leaveEpoch = (s.setStage .index).enqueue (.headerRead 0 false) := by
    simp [State.leaveEpoch, hst, hf, hp]
  have hw : ((s.setStage .index).enqueue (.headerRead 0 false)).leaveWrites =
      (s.setStage .index).enqueue (.headerRead 0 false) := if_neg (by simp [State.enqueue, State.setStage])
  rw [State.settle, hl, hw, startStore_of_cons (op := .headerRead 0 false) (rest := [])]
  · simp only [State.launch, State.enqueue, State.setStage, State.modTable, hq]
  · exact hx
  · exact hf
  · simp only [State.enqueue, State.setStage, State.modTable, hq, List.nil_append]

/-- R12, R185: a CONFIG_WRITE that stage 2 waits for starts. -/
theorem settle_of_epoch_write (hq : s.table.queue = [.configWrite]) (hh : ∀ q, (s.ports.read q).inHand = none) :
    s.settle = { s with table := { s.table with
      queue := [], inFlight := some { op := .configWrite, data := .image s.config, discarded := false } } } := by
  have hp : s.configWritePending = true := by simp [State.configWritePending, State.configWriteQueued, hq]
  have hl : s.leaveEpoch = s := by simp [State.leaveEpoch, hst, hf, hp]
  have hw : s.leaveWrites = s := if_neg (by simp [hst])
  rw [State.settle, hl, hw, startStore_of_cons hx hf hq]
  simp only [State.launch, coverRequests_of_none hh, State.modTable]

end

/-- R181: the epoch that follows another passes over 0. -/
theorem nextEpoch_eq (e : Word32) : nextEpoch e = if e = 0xFFFFFFFF then 1 else e + 1 := by
  have h : e + 1 = 0 ↔ e = 0xFFFFFFFF := by
    constructor <;> intro h <;> bv_omega
  simp only [nextEpoch, h]

theorem answerConfigs_of_none (st : Status) (b : Bool) (xs : List Port) {s : State} (h : ∀ q, (s.port q).inHand = none) :
    xs.foldl (State.answerConfig st b) s = s := by
  induction xs with
  | nil => rfl
  | cons p xs ih =>
    have hp : State.answerConfig st b s p = s := by simp [State.answerConfig, State.requestInHand, h]
    rw [List.foldl_cons, hp, ih]

/-! ### The configuration read (R185) -/

/-- R185 stage 1: the configuration in force as loaded, the tanks not yet evaluated. -/
def configTaken (s : State) (c : Configuration) (defaulted : Bool) : State :=
  { s with
    config := c, startUp := { s.startUp with defaulted := defaulted },
    scanner := { s.scanner with timer := c.probes.divisor },
    ports := Tab.mapWith (fun p x => if x.line = [] then { x with baud := (c.ports.read p).baud } else x) s.ports }

/-- R77, R78: the tanks evaluated under the configuration loaded. -/
def configEvaluated (s : State) (c : Configuration) (defaulted : Bool) : State :=
  allTanks.foldl State.evaluateTank (configTaken s c defaulted)

theorem inHand_configTaken (s : State) (c : Configuration) (b : Bool) (q : Port) :
    ((configTaken s c b).ports.read q).inHand = (s.ports.read q).inHand := by
  simp only [configTaken, read_mapWith]
  split <;> rfl

/-- What loading a configuration reaches beside the configuration: the tanks and the ports, nothing in hand there. -/
theorem configEvaluated_frame {s : State} (c : Configuration) (defaulted : Bool) (h : s.ready = false) :
    ∃ (tanks : Tab Tank 4) (ports : Tab PortState 4), (∀ q, (ports.read q).inHand = (s.ports.read q).inHand)
      ∧ ∀ m : MachineTable, configEvaluated { s with table := m } c defaulted =
        { configTaken s c defaulted with table := m, tanks := tanks, ports := ports } := by
  obtain ⟨tanks, ports, hports, heval⟩ := evaluateTanks_frame allTanks (configTaken s c defaulted) h
  exact ⟨tanks, ports, fun q => (hports q).trans (inHand_configTaken s c defaulted q), heval⟩

/-- R185 stages 1 and 2: the load, then on the cold path of a good image the epoch's write. -/
theorem configLoaded_eq (s : State) (c : Configuration) (good : Bool) :
    s.configLoaded c good =
      (if s.startUp.cold && good then (configEvaluated s c (!good)).advanceEpoch.queueConfigWrite
        else configEvaluated s c (!good)).setStage .epoch := by
  simp only [State.configLoaded, takeBauds_eq]
  rfl

end Sys2Proof.Proofs

namespace Sys2Proof.Proofs
open Sys2Proof Sys2Proof.Machine

/-- R185: start-up has gone on to a stage, an operation of it in flight behind a count of failures. -/
def goneOn (s y : State) (stage : Stage) (failures : Nat) (op : StoreOp) (data : StoreData) : State :=
  { y with
    startUp := { y.startUp with stage := stage },
    table := { s.table with
      failures := failures, inFlight := some { op := op, data := data, discarded := false } } }

section
variable {s : State} (hst : s.startUp.stage = .configuration) (hf : s.table.faulted = false) (hq : s.table.queue = [])
include hst hf hq

/-- R185: on the warm path, and with the defaults, the first header's read follows the load. -/
theorem settle_configLoaded {c : Configuration} {good : Bool} {failures : Nat}
    (hcold : (s.startUp.cold && good) = false) :
    ((headerEnded s failures).configLoaded c good).settle =
      goneOn s (configEvaluated s c (!good)) .index failures (.headerRead 0 false) .nothing := by
  obtain ⟨tanks, ports, -, heval⟩ := configEvaluated_frame (s := s) c (!good) (by simp [State.ready, hst])
  have hs : configEvaluated s c (!good) = _ := heval s.table
  have he : configEvaluated (headerEnded s failures) c (!good) = _ := heval (headerEnded s failures).table
  rw [configLoaded_eq, if_neg (by simpa [headerEnded] using hcold), he, hs, settle_of_epoch_clear]
  · simp only [goneOn, configTaken, State.setStage, headerEnded]
  · rfl
  · exact hf
  · rfl
  · exact hq

/-- R181: on the cold path a good image has its epoch advanced, and its write starts. -/
theorem settle_configLoaded_cold {c : Configuration} {failures : Nat} (hcold : s.startUp.cold = true)
    (hh : ∀ q, (s.port q).inHand = none) :
    let new : Configuration := { c with time := { c.time with
      epoch := if c.time.epoch = 0xFFFFFFFF then 1 else c.time.epoch + 1 } }
    ((headerEnded s failures).configLoaded c true).settle =
      { goneOn s (configEvaluated s c false) .epoch failures .configWrite (.image new) with config := new } := by
  intro new
  obtain ⟨tanks, ports, hports, heval⟩ := configEvaluated_frame (s := s) c false (by simp [State.ready, hst])
  have hs : configEvaluated s c false = _ := heval s.table
  have he : configEvaluated (headerEnded s failures) c false = _ := heval (headerEnded s failures).table
  have hnew : ({ c with time := { c.time with epoch := nextEpoch c.time.epoch } } : Configuration) = new := by
    rw [nextEpoch_eq]
  have hqueue : State.configWriteQueued { configTaken s c false with
      config := new, table := (headerEnded s failures).table, tanks := tanks, ports := ports } = false := by
    simp [State.configWriteQueued, headerEnded, hq]
  rw [configLoaded_eq, if_pos (by simpa [headerEnded] using hcold), Bool.not_true, he, hs]
  simp only [State.advanceEpoch]
  rw [show (configTaken s c false).config = c from rfl, hnew]
  rw [State.queueConfigWrite, if_neg (by simpa using hqueue), settle_of_epoch_write]
  · simp only [goneOn, configTaken, State.setStage, headerEnded, State.enqueue, State.modTable, hq]
  · rfl
  · exact hf
  · rfl
  · simp only [State.setStage, State.enqueue, State.modTable, headerEnded, hq, List.nil_append]
  · exact fun q => (hports q).trans (hh q)

/-- R185: a first read that fails is tried once more. -/
theorem settle_configRetry {failures : Nat} :
    ((headerEnded s failures).enqueue (.configRead true)).settle =
      goneOn s s .configuration failures (.configRead true) .nothing := by
  rw [settle_of_stage_configuration, startStore_of_cons (op := .configRead true) (rest := [])]
  · simp only [goneOn, State.launch, State.enqueue, State.modTable, headerEnded, hq, ← hst]
  · rfl
  · exact hf
  · simp only [State.enqueue, State.modTable, headerEnded, hq, List.nil_append]
  · exact hst

end

theorem configEvaluated_eq (s : State) (c : Configuration) (b : Bool) : configEvaluated s c b =
    ((((configTaken s c b).evaluateTank 0).evaluateTank 1).evaluateTank 2).evaluateTank 3 := rfl

theorem endConfigRead_image (s : State) (retry : Bool) (c : Configuration) :
    s.endConfigRead retry (.image c) = (headerEnded s 0).configLoaded c true := rfl

theorem endConfigWrite_true (s : State) :
    s.endConfigWrite true = allPorts.foldl (State.answerConfig .ok true) (headerEnded s 0) := rfl

theorem endConfigRead_bad (s : State) (retry : Bool) {res : ConfigResult} (h : res = .failed ∨ res = .badCheck) :
    s.endConfigRead retry res =
      if retry then (headerEnded s (s.table.failures + 1)).configLoaded defaultConfiguration false
      else (headerEnded s (s.table.failures + 1)).enqueue (.configRead true) := by
  rcases h with rfl | rfl <;> rfl

/-- Settles O23: a read's end is the load or its retry (`endConfigRead_bad`); what the load leaves is in the two laws
`settle_configLoaded` and `settle_configLoaded_cold`, and the epoch's write ends by the laws of stage 2. -/
theorem configurationLoaded : Obligations.ConfigurationLoaded := by
  unfold Obligations.ConfigurationLoaded
  constructor
  · intro retry s hr hst hf hq hx hh loaded goesOn
    have ends (res : ConfigResult) {t : State} (h : (s.endConfigRead retry res).settle = t) :
        exec (.configReadComplete res) s = .next t := h ▸ exec_configReadComplete res hr hx
    refine ⟨fun c => ⟨fun hcold => ?_, fun hcold => ?_⟩, fun res hres => ⟨fun hret => ?_, fun hret => ?_⟩⟩
    · refine ends _ ?_
      rw [endConfigRead_image, settle_configLoaded hst hf hq (by simp [hcold]), configEvaluated_eq]
      rfl
    · intro new
      refine ends _ ?_
      rw [endConfigRead_image, settle_configLoaded_cold hst hf hq hcold hh, configEvaluated_eq]
      rfl
    · refine ends _ ?_
      rw [endConfigRead_bad _ _ hres, if_neg (by simp [hret])]
      exact settle_configRetry hst hf hq
    · refine ends _ ?_
      rw [endConfigRead_bad _ _ hres, if_pos hret]
      rw [settle_configLoaded hst hf hq (by simp), configEvaluated_eq]
      rfl
  · intro data s hr hst hf hq hx hh
    constructor
    · have hend : s.endConfigWrite true = headerEnded s 0 := by
        rw [endConfigWrite_true]
        exact answerConfigs_of_none .ok true allPorts hh
      rw [exec_configWriteComplete true hr hx, hend, settle_of_epoch_clear]
      · simp only [headerEnded]
      · exact hst
      · exact hf
      · rfl
      · exact hq
    · intro h3
      have hqueue : (headerEnded s (s.table.failures + 1)).configWriteQueued = false := by
        simp [State.configWriteQueued, headerEnded, hq]
      have hend : s.endConfigWrite false = (headerEnded s (s.table.failures + 1)).enqueue .configWrite := by
        show (State.queueConfigWrite (headerEnded s (s.table.failures + 1))).checkFailures = _
        rw [State.queueConfigWrite, if_neg (by simp [hqueue])]
        exact if_neg (Nat.not_le.2 h3)
      rw [exec_configWriteComplete false hr hx, hend, settle_of_epoch_write]
      · simp only [headerEnded, State.enqueue, State.modTable, hq]
      · exact hst
      · exact hf
      · rfl
      · simp only [headerEnded, State.enqueue, State.modTable, hq, List.nil_append]
      · exact hh

end Sys2Proof.Proofs

namespace Sys2Proof.Proofs
open Sys2Proof Sys2Proof.Machine

/-! ### What a finishing delivery leaves alone before READY (R103, R106) -/

/-- What the notice of a cancelled receipt shows of the receipt (R72). -/
def receiptFace (r : Receipt) : Nat × GaugeFlags :=
  (r.docket, { substituted := r.substituted, overGauge := r.overGauge, clamped := r.clamped })

/-- Start-up's stage, the operation in flight, the state of the store interface and the face of each open receipt. -/
structure SameBusiness (s t : State) : Prop where
  stage : t.startUp.stage = s.startUp.stage
  inFlight : t.table.inFlight = s.table.inFlight
  faulted : t.table.faulted = s.table.faulted
  receipts : ∀ k, (t.tank k).receipt.map receiptFace = (s.tank k).receipt.map receiptFace

/-- That, and the contexts and park slots: what every hand-on of a finishing delivery leaves alone. -/
structure Undisturbed (s t : State) : Prop extends SameBusiness s t where
  nozzles : t.nozzles = s.nozzles
  park : t.park = s.park

theorem SameBusiness.refl (s : State) : SameBusiness s s := ⟨rfl, rfl, rfl, fun _ => rfl⟩

theorem SameBusiness.trans {s t u : State} (h : SameBusiness s t) (g : SameBusiness t u) : SameBusiness s u :=
  ⟨g.stage.trans h.stage, g.inFlight.trans h.inFlight, g.faulted.trans h.faulted,
   fun k => (g.receipts k).trans (h.receipts k)⟩

theorem Undisturbed.refl (s : State) : Undisturbed s s := ⟨.refl s, rfl, rfl⟩

theorem Undisturbed.trans {s t u : State} (h : Undisturbed s t) (g : Undisturbed t u) : Undisturbed s u :=
  ⟨h.toSameBusiness.trans g.toSameBusiness, g.nozzles.trans h.nozzles, g.park.trans h.park⟩

theorem SameBusiness.of_tanks {s t : State} (h1 : t.startUp.stage = s.startUp.stage)
    (h2 : t.table.inFlight = s.table.inFlight) (h3 : t.table.faulted = s.table.faulted) (h4 : t.tanks = s.tanks) :
    SameBusiness s t := ⟨h1, h2, h3, fun k => by rw [State.tank, h4]; rfl⟩

section
variable {o s : State}

theorem Undisturbed.postWhere (h : Undisturbed o s) (d : Port → Bool) (b : NoticeBody) : Undisturbed o (s.postWhere d b) :=
  h.trans ⟨.of_tanks rfl rfl rfl rfl, rfl, rfl⟩

theorem Undisturbed.postOffices (h : Undisturbed o s) (l : List NoticeBody) : Undisturbed o (s.postOffices l) := by
  induction l generalizing s with
  | nil => exact h
  | cons b l ih => exact ih (s := s.postOffice b) (h.postWhere ..)

theorem Undisturbed.modLine (h : Undisturbed o s) (l : LineId) (f : CacheLine → CacheLine) : Undisturbed o (s.modLine l f) :=
  h.trans ⟨.of_tanks rfl rfl rfl rfl, rfl, rfl⟩

theorem Undisturbed.enqueue (h : Undisturbed o s) (op : StoreOp) : Undisturbed o (s.enqueue op) :=
  h.trans ⟨.of_tanks rfl rfl rfl rfl, rfl, rfl⟩

theorem Undisturbed.touch (h : Undisturbed o s) (l : LineId) : Undisturbed o (s.touch l) :=
  h.trans ⟨.of_tanks rfl rfl rfl rfl, rfl, rfl⟩

theorem Undisturbed.modTank (h : Undisturbed o s) (t : TankId) (f : Tank → Tank)
    (hf : (f (s.tank t)).receipt.map receiptFace = (s.tank t).receipt.map receiptFace) : Undisturbed o (s.modTank t f) := by
  refine h.trans ⟨⟨rfl, rfl, rfl, fun k => ?_⟩, rfl, rfl⟩
  rw [State.tank_modTank]
  split
  · next hk => rw [hf, hk]
  · rfl

theorem Undisturbed.putRecord (h : Undisturbed o s) (l : LineId) (k : SlotId) (r : MachineRecord) :
    Undisturbed o (s.putRecord l k r) := by
  simp only [State.putRecord]
  split
  · exact (h.modLine ..).touch l
  · exact ((h.modLine ..).enqueue _).touch l

theorem Undisturbed.changeRecord (h : Undisturbed o s) (l : LineId) (f : MachineRecord → MachineRecord) :
    Undisturbed o (s.changeRecord l f) := by
  unfold State.changeRecord
  split
  · exact h.putRecord ..
  · exact h
  · exact h

theorem Undisturbed.append (h : Undisturbed o s) (e : JournalEntry) : Undisturbed o (s.append e) := by
  have hj : Undisturbed o { s with journal :=
      { entries := s.journal.entries ++ [e], reservations := s.journal.reservations - 1,
        nextSeq := s.journal.nextSeq + 1 } } := h.trans ⟨.of_tanks rfl rfl rfl rfl, rfl, rfl⟩
  simp only [State.append]
  split
  · exact hj.postWhere ..
  · exact hj

theorem Undisturbed.evaluateTier (h : Undisturbed o s) (t : TankId) : Undisturbed o (s.evaluateTier t) := by
  simp only [State.evaluateTier]
  split
  · exact h
  · exact (h.modTank _ _ (by rfl)).postWhere ..

theorem Undisturbed.setPump (h : Undisturbed o s) (t : TankId) (x : PumpState) (k : Option Nat) :
    Undisturbed o (s.setPump t x k) := h.modTank _ _ rfl

theorem ready_eq_false {s : State} : s.ready = false ↔ s.startUp.stage ≠ .ready := by simp [State.ready]

/-- R106: before READY no RUN is ended by the low-stock rule. -/
theorem Undisturbed.evaluateLow (h : Undisturbed o s) (t : TankId) (hr : s.ready = false) :
    Undisturbed o (s.evaluateLow t) := by
  simp only [State.evaluateLow, hr]
  split
  · split
    · exact h
    · exact h.setPump ..
  · split
    · exact h.setPump ..
    · exact h

theorem Undisturbed.evaluateTank (h : Undisturbed o s) (t : TankId) (hr : s.ready = false) :
    Undisturbed o (s.evaluateTank t) := by
  unfold State.evaluateTank
  split
  · have htier := (Undisturbed.refl s).evaluateTier t
    exact (h.trans htier).evaluateLow t (by rw [ready_eq_false, htier.stage]; exact ready_eq_false.1 hr)
  · exact h

/-- R69: the charge raises an open receipt's issues and shows the same docket and flags. -/
theorem Undisturbed.chargeTank (h : Undisturbed o s) (t : TankId) (k : Nat) (hr : s.ready = false) :
    Undisturbed o (s.chargeTank t k) := by
  unfold State.chargeTank
  refine (h.modTank _ _ ?_).evaluateTank t hr
  cases (s.tank t).receipt <;> rfl

theorem Undisturbed.evaluateFuel (h : Undisturbed o s) (l : LineId) (r : Option MachineRecord) :
    Undisturbed o (s.evaluateFuel l r) := by
  simp only [State.evaluateFuel]
  split
  · exact (h.changeRecord ..).postOffices _
  · exact h.changeRecord ..

/-- R103, R106: what a finishing delivery hands on before READY. -/
theorem Undisturbed.handOn (h : Undisturbed o s) (d : Delivery) (w : DeliveryOutcome) (hr : s.ready = false) :
    Undisturbed o (s.handOn d w) := by
  have happ : Undisturbed s (s.append (s.entryFor d w)) := (Undisturbed.refl s).append _
  simp only [State.handOn]
  split
  · exact h.append _
  · next l _ =>
    have hch := happ.changeRecord l (charged (s.finalNet d))
    refine (((h.trans hch).chargeTank _ _ ?_).evaluateFuel _ _).modLine _ _
    rw [ready_eq_false, hch.stage]
    exact ready_eq_false.1 hr

end

/-! ### Open business, nozzle by nozzle, slot by slot, tank by tank (R185 stage 4) -/

/-- R106: the delivery at a nozzle finishes before READY: the other contexts and the park table are as they were. -/
theorem finishNozzle_frame (s : State) (n : NozzleId) (w : DeliveryOutcome) (hr : s.ready = false) :
    SameBusiness s (s.finishNozzle n w) ∧ (s.finishNozzle n w).park = s.park
      ∧ ∀ m, m ≠ n → (s.finishNozzle n w).ctx m = s.ctx m := by
  let y := (s.modCtx n fun _ => freeContext).releaseMeter n
  have h : Undisturbed y (s.finishNozzle n w) := ((Undisturbed.refl y).handOn (s.delivery n) w hr).postWhere ..
  have hy : SameBusiness s y := .of_tanks rfl rfl rfl rfl
  refine ⟨hy.trans h.toSameBusiness, h.park, fun m hm => ?_⟩
  rw [State.ctx, h.nozzles]
  exact (State.ctx_modCtx s n m fun _ => freeContext).trans (if_neg hm)

/-- R136: a parked delivery finishes INTERRUPTED: its slot is EMPTY, its notice goes to the parking port. -/
theorem finishParked_interrupted (s : State) (k : ParkId) (p : Parked) : s.finishParked k p .interrupted =
    ((s.setSlot k .empty).handOn p.delivery .interrupted).postTo p.parkingPort
      (.deliveryDone p.delivery.ticket s.journal.nextSeq (s.finalNet p.delivery) .interrupted none) := by
  simp only [State.finishParked, State.doneNote, reduceCtorEq, if_false]

theorem finishParked_frame (s : State) (k : ParkId) (p : Parked) (hr : s.ready = false) :
    SameBusiness s (s.finishParked k p .interrupted) ∧ ∀ j, j ≠ k → (s.finishParked k p .interrupted).slot j = s.slot j := by
  have h : Undisturbed (s.setSlot k .empty) (s.finishParked k p .interrupted) := by
    rw [finishParked_interrupted]
    exact ((Undisturbed.refl (s.setSlot k .empty)).handOn _ _ hr).postWhere ..
  have hy : SameBusiness s (s.setSlot k .empty) := .of_tanks rfl rfl rfl rfl
  refine ⟨hy.trans h.toSameBusiness, fun j hj => ?_⟩
  rw [State.slot, h.park]
  exact (State.slot_setSlot s k j .empty).trans (if_neg hj)

theorem isOpen_iff (x : NozzleState) : x.isOpen = true ↔ ¬ (x = .free ∨ x = .loaded) := by cases x <;> decide

/-- R106: of the contexts, those open when open business begins finish INTERRUPTED, in the order of the list. -/
theorem interruptNozzles_eq {open' : NozzleId → Prop} [DecidablePred open'] {ns : List NozzleId} (hn : ns.Nodup)
    {s : State} (hr : s.ready = false) (ho : ∀ n ∈ ns, (s.ctx n).state.isOpen = true ↔ open' n) :
    ns.foldl State.interruptNozzle s =
        ns.foldl (fun y n => if open' n then (y.finishNozzle n .interrupted).countInterrupted else y) s
      ∧ SameBusiness s (ns.foldl State.interruptNozzle s) ∧ (ns.foldl State.interruptNozzle s).park = s.park := by
  induction ns generalizing s with
  | nil => exact ⟨rfl, .refl s, rfl⟩
  | cons n ns ih =>
    obtain ⟨hnot, hns⟩ := List.nodup_cons.1 hn
    obtain ⟨hsame, hpark, hctx⟩ := finishNozzle_frame s n .interrupted hr
    by_cases h : open' n
    · have hstep : s.interruptNozzle n = (s.finishNozzle n .interrupted).countInterrupted :=
        if_pos ((ho n List.mem_cons_self).2 h)
      have hsame' : SameBusiness s (s.finishNozzle n .interrupted).countInterrupted :=
        hsame.trans (.of_tanks rfl rfl rfl rfl)
      obtain ⟨heq, hrest, hp⟩ := ih hns (s := (s.finishNozzle n .interrupted).countInterrupted)
        (by rw [ready_eq_false, hsame'.stage]; exact ready_eq_false.1 hr)
        (fun m hm => by
          rw [← ho m (List.mem_cons_of_mem _ hm)]
          exact iff_of_eq (congrArg (fun c : Context => c.state.isOpen = true) (hctx m fun e => hnot (e ▸ hm))))
      simp only [List.foldl_cons, hstep, if_pos h]
      exact ⟨heq, hsame'.trans hrest, hp.trans hpark⟩
    · have hstep : s.interruptNozzle n = s := if_neg fun hopen => h ((ho n List.mem_cons_self).1 hopen)
      simp only [List.foldl_cons, hstep, if_neg h]
      exact ih hns hr fun m hm => ho m (List.mem_cons_of_mem _ hm)

/-- R136: of the park slots, those holding a delivery when open business begins finish it INTERRUPTED. -/
theorem interruptSlots_eq {held : ParkId → Option Parked} {ks : List ParkId} (hk : ks.Nodup) {s : State}
    (hr : s.ready = false) (hh : ∀ k ∈ ks, ∀ p, s.slot k = .holding p ↔ held k = some p) :
    ks.foldl State.interruptSlot s =
        ks.foldl (fun y k => (held k).elim y fun p => (y.finishParked k p .interrupted).countInterrupted) s
      ∧ SameBusiness s (ks.foldl State.interruptSlot s) := by
  induction ks generalizing s with
  | nil => exact ⟨rfl, .refl s⟩
  | cons k ks ih =>
    obtain ⟨hnot, hks⟩ := List.nodup_cons.1 hk
    cases h : held k with
    | some p =>
      have hslot : s.slot k = .holding p := (hh k List.mem_cons_self p).2 h
      obtain ⟨hsame, hslots⟩ := finishParked_frame s k p hr
      have hstep : s.interruptSlot k = (s.finishParked k p .interrupted).countInterrupted := by
        simp only [State.interruptSlot, hslot]
      have hsame' : SameBusiness s (s.finishParked k p .interrupted).countInterrupted :=
        hsame.trans (.of_tanks rfl rfl rfl rfl)
      obtain ⟨heq, hrest⟩ := ih hks (s := (s.finishParked k p .interrupted).countInterrupted)
        (by rw [ready_eq_false, hsame'.stage]; exact ready_eq_false.1 hr)
        (fun j hj q => by
          rw [← hh j (List.mem_cons_of_mem _ hj) q]
          exact iff_of_eq (congrArg (· = ParkSlot.holding q) (hslots j fun e => hnot (e ▸ hj))))
      simp only [List.foldl_cons, hstep, h, Option.elim_some]
      exact ⟨heq, hsame'.trans hrest⟩
    | none =>
      have hstep : s.interruptSlot k = s := by
        unfold State.interruptSlot
        split
        · next p hp => rw [(hh k List.mem_cons_self p).1 hp] at h; cases h
        · rfl
        · rfl
      simp only [List.foldl_cons, hstep, h, Option.elim_none]
      exact ih hks hr fun j hj => hh j (List.mem_cons_of_mem _ hj)

/-- R72: of the tanks, those with a receipt open when open business begins have it cancelled. -/
theorem cancelReceipts_eq {face : TankId → Option (Nat × GaugeFlags)} {ts : List TankId} (ht : ts.Nodup) {s : State}
    (hf : ∀ t ∈ ts, (s.tank t).receipt.map receiptFace = face t) :
    ts.foldl State.cancelReceipt s = ts.foldl (fun y t => (face t).elim y fun r =>
        (y.modTank t fun x => { x with receipt := none }).postOffice (.receiptResult t .cancelled r.1 0 0 false r.2)) s
      ∧ (ts.foldl State.cancelReceipt s).startUp.stage = s.startUp.stage
      ∧ (ts.foldl State.cancelReceipt s).table = s.table := by
  induction ts generalizing s with
  | nil => exact ⟨rfl, rfl, rfl⟩
  | cons t ts ih =>
    obtain ⟨hnot, hts⟩ := List.nodup_cons.1 ht
    have hface := hf t List.mem_cons_self
    cases hr : (s.tank t).receipt with
    | none =>
      rw [hr] at hface
      have hstep : s.cancelReceipt t = s := by simp only [State.cancelReceipt, hr]
      simp only [List.foldl_cons, hstep, ← hface, Option.map_none, Option.elim_none]
      exact ih hts fun k hk => hf k (List.mem_cons_of_mem _ hk)
    | some r =>
      rw [hr] at hface
      have hstep : s.cancelReceipt t = (s.modTank t fun x => { x with receipt := none }).postOffice
          (.receiptResult t .cancelled (receiptFace r).1 0 0 false (receiptFace r).2) := by
        simp only [State.cancelReceipt, hr, receiptFace]
      obtain ⟨heq, hstage, htable⟩ := ih hts (s := s.cancelReceipt t) fun k hk => by
        rw [← hf k (List.mem_cons_of_mem _ hk), hstep]
        exact congrArg (fun x : Tank => x.receipt.map receiptFace)
          ((State.tank_modTank s t k fun x => { x with receipt := none }).trans (if_neg fun e : k = t => hnot (e ▸ hk)))
      simp only [List.foldl_cons, ← hface, Option.map_some, Option.elim_some, ← hstep]
      refine ⟨heq, hstage.trans ?_, htable.trans ?_⟩ <;> rw [hstep] <;> rfl

end Sys2Proof.Proofs

namespace Sys2Proof.Proofs
open Sys2Proof Sys2Proof.Machine

/-! ### The DIRTY lines' writes (R24, R185 stage 3) -/

/-- The slot of a DIRTY line's record. -/
def dirtySlot (x : LineContent) : Option SlotId :=
  match x with
  | .held .dirty k _ => some k
  | _ => none

/-- A line as `queueDirty` leaves it. -/
def dirtyQueued (x : CacheLine) : CacheLine := if (dirtySlot x.content).isSome then { x with writeQueued := true } else x

theorem dirtySlot_dirtyQueued (x : CacheLine) : dirtySlot (dirtyQueued x).content = dirtySlot x.content := by
  unfold dirtyQueued
  split <;> rfl

/-- R24: one line's WRITE queued when it is DIRTY. -/
theorem queueDirty_eq (s : State) (l : LineId) : s.queueDirty l = { s with table := { s.table with
    lines := s.table.lines.write l (dirtyQueued (s.table.lines.read l)),
    queue := s.table.queue ++ ((dirtySlot (s.line l).content).map (StoreOp.write l)).toList } } := by
  have hkeep (h : dirtyQueued (s.line l) = s.line l) :
      s.table.lines.write l (dirtyQueued (s.table.lines.read l)) = s.table.lines := by
    rw [State.line] at h
    rw [h, write_read]
  unfold State.queueDirty
  split
  case h_1 k r hc =>
    have hd : dirtyQueued (s.table.lines.read l) = { s.table.lines.read l with writeQueued := true } := by
      rw [State.line] at hc
      simp [dirtyQueued, dirtySlot, hc]
    rw [hd, hc]
    rfl
  all_goals
    next hc =>
      rw [hkeep (by simp [dirtyQueued, dirtySlot, hc]), hc]
      simp [dirtySlot]

theorem queueDirties_eq (ls : List LineId) (s : State) : ls.foldl State.queueDirty s = { s with table := { s.table with
    lines := ls.foldl (fun w l => w.write l (dirtyQueued (w.read l))) s.table.lines,
    queue := s.table.queue ++ ls.filterMap fun l => (dirtySlot (s.line l).content).map (StoreOp.write l) } } := by
  induction ls generalizing s with
  | nil => simp
  | cons l ls ih =>
    have hslots (j : LineId) : dirtySlot ((s.queueDirty l).line j).content = dirtySlot (s.line j).content := by
      rw [queueDirty_eq, State.line, read_write]
      split
      · next h => rw [h, dirtySlot_dirtyQueued]; rfl
      · rfl
    rw [List.foldl_cons, ih]
    simp only [hslots]
    rw [queueDirty_eq]
    cases hc : dirtySlot (s.line l).content <;> simp [hc]

theorem freeLoadeds_eq (ns : List NozzleId) (s : State) : ns.foldl State.freeLoaded s = { s with
    nozzles := ns.foldl (fun w n => w.write n (if (w.read n).state = .loaded then freeContext else w.read n)) s.nozzles } := by
  induction ns generalizing s with
  | nil => rfl
  | cons n ns ih =>
    have h : s.freeLoaded n = { s with
        nozzles := s.nozzles.write n (if (s.nozzles.read n).state = .loaded then freeContext else s.nozzles.read n) } := by
      unfold State.freeLoaded State.ctx
      split
      · rfl
      · rw [write_read]
    rw [List.foldl_cons, ih, h]
    rfl

/-- R185 stage 4: a slot as `freeReserved` leaves it. -/
def unreserved (x : ParkSlot) : ParkSlot :=
  match x with
  | .reserved _ => .empty
  | _ => x

theorem freeReserveds_eq (ks : List ParkId) (s : State) : ks.foldl State.freeReserved s = { s with
    park := ks.foldl (fun w k => w.write k (unreserved (w.read k))) s.park } := by
  induction ks generalizing s with
  | nil => rfl
  | cons k ks ih =>
    have h : s.freeReserved k = { s with park := s.park.write k (unreserved (s.park.read k)) } := by
      unfold State.freeReserved State.slot
      cases hk : s.park.read k with
      | reserved n => rfl
      | empty => simp only [unreserved]; rw [← hk, write_read]
      | holding p => simp only [unreserved]; rw [← hk, write_read]
    rw [List.foldl_cons, ih, h]
    rfl

/-- R185 stages 3 and 4: the writes queued, LOADED contexts freed and RESERVED slots emptied. -/
def stateFreed (s : State) : State := { s with
  nozzles := Tab.mapWith (fun _ c => if c.state = .loaded then freeContext else c) s.nozzles,
  park := Tab.mapWith (fun _ x => unreserved x) s.park,
  table := { s.table with
    lines := Tab.mapWith (fun _ x => dirtyQueued x) s.table.lines,
    queue := s.table.queue ++ (List.finRange 16).filterMap fun l =>
      (dirtySlot (s.line l).content).map (StoreOp.write l) } }

theorem freed_eq (s : State) : allSlots.foldl State.freeReserved (allNozzles.foldl State.freeLoaded
    (allLines.foldl State.queueDirty s)) = stateFreed s := by
  simp only [queueDirties_eq, freeLoadeds_eq, freeReserveds_eq, allLines_eq, allNozzles_eq, allSlots_eq,
    foldl_write_finRange (fun _ => dirtyQueued), foldl_write_finRange (fun _ => unreserved),
    foldl_write_finRange (fun _ (c : Context) => if c.state = .loaded then freeContext else c), stateFreed]

/-- The delivery a slot holds. -/
def heldIn (x : ParkSlot) : Option Parked :=
  match x with
  | .holding p => some p
  | _ => none

theorem unreserved_eq_holding {x : ParkSlot} {p : Parked} : unreserved x = .holding p ↔ heldIn x = some p := by
  cases x <;> simp [unreserved, heldIn]

theorem foldl_congr {α β : Type} {f g : β → α → β} {a b : β} {xs : List α} (hf : ∀ y x, f y x = g y x) (h : a = b) :
    xs.foldl f a = xs.foldl g b := by
  rw [h, show f = g from funext fun y => funext (hf y)]

/-- R72, R106, R136: open business settled, as a fold over nozzles, slots and tanks of what each was before it. -/
theorem businessSettled_eq_folds (s : State) : s.businessSettled =
    (List.finRange 4).foldl (fun y t => ((s.tank t).receipt.map receiptFace).elim y fun r =>
        (y.modTank t fun x => { x with receipt := none }).postOffice (.receiptResult t .cancelled r.1 0 0 false r.2))
      ((List.finRange 4).foldl (fun y k => (heldIn (s.slot k)).elim y fun p =>
          (y.finishParked k p .interrupted).countInterrupted)
        ((List.finRange 8).foldl (fun y n => if ¬ ((s.ctx n).state = .free ∨ (s.ctx n).state = .loaded)
          then (y.finishNozzle n .interrupted).countInterrupted else y) (stateFreed s))) := by
  unfold State.businessSettled
  refine foldl_congr (fun y t => ?_) (foldl_congr (fun y k => ?_) (foldl_congr (fun y n => ?_) ?_))
  · cases (s.tank t).receipt <;> rfl
  · cases s.slot k with
    | holding p =>
      simp only [heldIn, Option.elim_some, finishParked_interrupted]
      rfl
    | _ => rfl
  · rw [ite_not]
    rfl
  · simp only [stateFreed, State.mk.injEq, MachineTable.mk.injEq, true_and, and_true]
    refine ⟨⟨?_, ?_⟩, ?_⟩
    · refine tab_ext fun l => ?_
      rw [read_mapWith, read_mapWith]
      unfold dirtyQueued
      refine if_congr ?_ rfl rfl
      rw [List.mem_filter, State.line]
      cases (s.table.lines.read l).content with
      | held st k r => cases st <;> simp [dirtySlot]
      | _ => simp [dirtySlot]
    · rw [List.filterMap_filter]
      congr 2
      funext l
      cases (s.line l).content with
      | held st k r => cases st <;> rfl
      | _ => rfl
    · refine tab_ext fun k => ?_
      rw [read_mapWith, read_mapWith]
      cases s.park.read k <;> rfl

end Sys2Proof.Proofs

namespace Sys2Proof.Proofs
open Sys2Proof Sys2Proof.Machine

theorem sameBusiness_stateFreed (s : State) : SameBusiness s (stateFreed s) := by
  refine .of_tanks ?_ ?_ ?_ ?_ <;> simp only [stateFreed]

theorem ready_of_same {s t : State} (h : SameBusiness s t) (hr : s.ready = false) : t.ready = false := by
  rw [ready_eq_false, h.stage]
  exact ready_eq_false.1 hr

/-- R72, R106, R136: before READY, the writes queued and open business settled are `businessSettled`; start-up's stage, the
operation in flight and the state of the interface stand. -/
theorem openBusiness_eq {s : State} (hr : s.ready = false) :
    (allLines.foldl State.queueDirty s).openBusiness = s.businessSettled
      ∧ s.businessSettled.startUp.stage = s.startUp.stage ∧ s.businessSettled.table.inFlight = s.table.inFlight
      ∧ s.businessSettled.table.faulted = s.table.faulted := by
  have hfreed := ready_of_same (sameBusiness_stateFreed s) hr
  obtain ⟨hnoz, hsame1, hpark⟩ := interruptNozzles_eq
    (open' := fun n => ¬ ((s.ctx n).state = .free ∨ (s.ctx n).state = .loaded)) (List.nodup_finRange 8) hfreed
    fun n _ => by
      have hctx : (stateFreed s).ctx n = if (s.ctx n).state = .loaded then freeContext else s.ctx n := by
        simp only [State.ctx, stateFreed, read_mapWith]
        rfl
      rw [hctx, isOpen_iff]
      split
      · next h => simp [h, freeContext]
      · rfl
  obtain ⟨hslots, hsame2⟩ := interruptSlots_eq (held := fun k => heldIn (s.slot k)) (List.nodup_finRange 4)
    (ready_of_same hsame1 hfreed) fun k _ p => by
      have hslot : (stateFreed s).park.read k = unreserved (s.slot k) := by
        simp only [State.slot, stateFreed, read_mapWith]
      rw [State.slot, hpark, hslot]
      exact unreserved_eq_holding
  have hsame := (sameBusiness_stateFreed s).trans (hsame1.trans hsame2)
  obtain ⟨htanks, hstage, htable⟩ := cancelReceipts_eq (face := fun t => (s.tank t).receipt.map receiptFace)
    (List.nodup_finRange 4) fun t _ => hsame.receipts t
  have hopen : (allLines.foldl State.queueDirty s).openBusiness = (List.finRange 4).foldl State.cancelReceipt
      ((List.finRange 4).foldl State.interruptSlot ((List.finRange 8).foldl State.interruptNozzle (stateFreed s))) := by
    rw [← freed_eq]
    simp only [State.openBusiness, allSlots_eq, allNozzles_eq, allTanks_eq]
  have hsettled : s.businessSettled = (List.finRange 4).foldl State.cancelReceipt
      ((List.finRange 4).foldl State.interruptSlot ((List.finRange 8).foldl State.interruptNozzle (stateFreed s))) := by
    rw [businessSettled_eq_folds, ← hnoz, ← hslots, ← htanks]
  rw [hopen, hsettled]
  exact ⟨rfl, hstage.trans hsame.stage, (congrArg _ htable).trans hsame.inFlight,
    (congrArg _ htable).trans hsame.faulted⟩

end Sys2Proof.Proofs

namespace Sys2Proof.Proofs
open Sys2Proof Sys2Proof.Machine

/-! ### The end of the index (R185 stages 3 to 6) -/

theorem indexDone_cold {s : State} (h : s.startUp.cold = true) : s.indexDone = s.setStage .writes := by
  simp only [State.indexDone, h, if_true]

theorem indexDone_warm {s : State} (h : s.startUp.cold = false) (hr : s.ready = false) :
    s.indexDone = s.businessSettled.setStage .writes := by
  simp only [State.indexDone, h, (openBusiness_eq hr).1]
  rfl

theorem leaveEpoch_of_writes {s : State} (hst : s.startUp.stage = .writes) : s.leaveEpoch = s := if_neg (by simp [hst])

/-- R185 stage 6: with no write to wait for, or the interface FAULTED, the part is READY in the same event. -/
theorem settle_of_writes {s : State} (hst : s.startUp.stage = .writes)
    (h : s.table.faulted = true ∨ (s.table.queue = [] ∧ s.table.inFlight = none)) : s.settle = s.becomesReady := by
  have hw : s.leaveWrites = s.becomesReady := if_pos ⟨hst, h⟩
  rw [State.settle, leaveEpoch_of_writes hst, hw]
  rcases h with hf | ⟨hq, -⟩
  · exact startStore_of_faulted hf
  · exact startStore_of_nil hq

/-- R185 stage 5: with writes to wait for, the first starts. -/
theorem settle_of_writes_pending {s : State} (hst : s.startUp.stage = .writes) (hf : s.table.faulted = false)
    (hq : s.table.queue ≠ []) : s.settle = s.startStore := by
  have hw : s.leaveWrites = s := if_neg (by simp [hf, hq])
  rw [State.settle, leaveEpoch_of_writes hst, hw]

theorem becomesReady_setStage (s : State) (x : Stage) : (s.setStage x).becomesReady = s.becomesReady := rfl

/-- R3: after the last header the index is done. -/
theorem nextHeaderRead_last {k : SlotId} (hk : k.val = 511) (s : State) :
    s.nextHeaderRead k = State.indexDone { s with startUp := { s.startUp with nextHeader := 512 } } := by
  have hn : fromZero 512 (k.val + 1) = none := dif_neg (by omega)
  simp only [State.nextHeaderRead, hn]
  rw [hk]

/-! ### A WRITE that start-up waits for (R14, R185 stage 5) -/

/-- R11: the WRITE of a line that holds its record starts. -/
theorem launch_write {s : State} {l : LineId} {k j : SlotId} {st : HeldState} {r : MachineRecord}
    (h : (s.line l).content = .held st j r) (rest : List StoreOp) : s.launch (.write l k) rest = { s with
      table := { s.table with
        lines := s.table.lines.write l { s.line l with content := .held .writing j r, writeQueued := false },
        queue := rest, inFlight := some { op := .write l k, data := .record r, discarded := false } } } := by
  simp only [State.launch, h, State.modTable, State.modLine]

theorem lineFreed_of_nil {s : State} (h : s.table.lineWait = []) : s.lineFreed = s := by
  simp only [State.lineFreed, h, List.length_nil, serviceLines]

/-- R14: a WRITE that succeeded, with no other queued, leaves its line CLEAN. -/
theorem written_clean {s : State} {l : LineId} {k : SlotId} {st : HeldState} {r : MachineRecord}
    (hc : (s.line l).content = .held st k r) (hw : (s.line l).writeQueued = false) :
    s.written l = s.modLine l fun x => { x with content := .held .clean k r } := by
  simp only [State.written, hc, State.modLine, hw, Bool.false_eq_true, if_false]

/-- R14: a WRITE that failed leaves its line DIRTY with a WRITE queued. -/
theorem writeAgain_held {s : State} {l : LineId} {k j : SlotId} {st : HeldState} {r : MachineRecord}
    (hc : (s.line l).content = .held st j r) : s.writeAgain l k = { s with table := { s.table with
      lines := s.table.lines.write l { s.line l with content := .held .dirty j r, writeQueued := true },
      queue := if (s.line l).writeQueued then s.table.queue else s.table.queue ++ [.write l k] } } := by
  simp only [State.writeAgain, hc, State.modLine]
  split <;> simp only [State.enqueue, State.modTable]

theorem endWrite_true (s : State) (x : InFlight) (l : LineId) (k : SlotId) (hx : x.discarded = false) :
    s.endWrite x l k true = ((headerEnded s 0).written l).lineFreed := by
  simp only [State.endWrite, hx]
  rfl

theorem endWrite_false (s : State) (x : InFlight) (l : LineId) (k : SlotId) (hx : x.discarded = false) :
    s.endWrite x l k false = ((headerEnded s (s.table.failures + 1)).writeAgain l k).checkFailures := by
  simp only [State.endWrite, hx]
  rfl

/-- Settles O25: the last header's end is `indexDone` of the slot read, which `indexDone_cold` and `indexDone_warm` give;
the end of the last WRITE is read off the laws of `written` and `writeAgain`. -/
theorem startUpSettlesOpenBusiness : Obligations.StartUpSettlesOpenBusiness := by
  unfold Obligations.StartUpSettlesOpenBusiness
  constructor
  · intro k retry s hk hr hst hf hq hheld hx read
    have hread : s.endHeaderRead k retry .free = read.indexDone := by
      rw [endHeaderRead_free, applyRead_unheld_free _ hheld, nextHeaderRead_last hk]
      rfl
    have hnot : read.ready = false := by rw [ready_eq_false]; exact hst ▸ Stage.noConfusion
    rw [exec_headerReadComplete .free hr hx, hread]
    refine ⟨fun hcold => ?_, fun hwarm => ?_⟩
    · rw [indexDone_cold (s := read) hcold, settle_of_writes, becomesReady_setStage]
      · rfl
      · exact .inr ⟨hq, rfl⟩
    · obtain ⟨-, -, hflight, hfaulted⟩ := openBusiness_eq hnot
      rw [indexDone_warm (s := read) hwarm hnot]
      refine ⟨fun hnil => ?_, fun hne => ?_⟩
      · rw [settle_of_writes, becomesReady_setStage]
        · rfl
        · exact .inr ⟨hnil, hflight⟩
      · rw [settle_of_writes_pending]
        · rfl
        · rfl
        · exact hfaulted.trans hf
        · exact hne
  · intro l k data r s hr hst hf hq hw hx hc hwq line
    refine ⟨?_, fun h3 => ?_⟩
    · rw [exec_writeComplete true hr hx, endWrite_true _ _ _ _ rfl, written_clean (k := k) (st := .writing) (r := r),
        lineFreed_of_nil, settle_of_writes]
      · rfl
      · exact hst
      · exact .inr ⟨hq, rfl⟩
      · exact hw
      · exact hc
      · exact hwq
    · have hagain : (headerEnded s (s.table.failures + 1)).writeAgain l k = { s with table := { s.table with
          failures := s.table.failures + 1, inFlight := none,
          lines := s.table.lines.write l { s.line l with content := .held .dirty k r, writeQueued := true },
          queue := [.write l k] } } := by
        rw [writeAgain_held (s := headerEnded s _) (j := k) (st := .writing) (r := r) hc]
        simp only [headerEnded, State.line] at hwq ⊢
        simp only [hwq, hq, Bool.false_eq_true, if_false, List.nil_append]
      rw [exec_writeComplete false hr hx, endWrite_false _ _ _ _ rfl, hagain, State.checkFailures, if_neg,
        settle_of_writes_pending, startStore_of_cons (op := .write l k) (rest := []),
        launch_write (j := k) (st := .dirty) (r := r)]
      · simp only [State.line] at hwq
        simp only [line, State.line, read_write, write_write, if_true, hwq, hq]
      · simp only [State.line, read_write, if_true]
      · rfl
      · exact hf
      · rfl
      · exact hst
      · exact hf
      · exact List.cons_ne_nil _ _
      · exact Nat.not_le.2 h3

end Sys2Proof.Proofs

namespace Sys2Proof.Proofs
open Sys2Proof Sys2Proof.Machine

/-! ### Before READY the stage of start-up changes nothing that finishes (R106, R136) -/

/-- A step that does to a part in another stage before READY what it does to the part as it is, and leaves it so. -/
def StageBlind (x : Stage) (g : State → State) : Prop :=
  ∀ s : State, s.ready = false → g (s.setStage x) = (g s).setStage x ∧ (g s).ready = false

section
variable {x : Stage} {g h : State → State}

theorem StageBlind.comp (hh : StageBlind x h) (hg : StageBlind x g) : StageBlind x fun s => h (g s) := fun s hr => by
  obtain ⟨e, hr'⟩ := hg s hr
  obtain ⟨e', hr''⟩ := hh _ hr'
  exact ⟨(congrArg h e).trans e', hr''⟩

theorem StageBlind.foldl {α : Type} {g : State → α → State} (hg : ∀ a, StageBlind x fun s => g s a) (xs : List α) :
    StageBlind x fun s => xs.foldl g s := by
  induction xs with
  | nil => exact fun s hr => ⟨rfl, hr⟩
  | cons a xs ih => exact ih.comp (hg a)

theorem stageBlind_of_same (hs : ∀ s, s.ready = false → SameBusiness s (g s))
    (he : ∀ s, s.ready = false → g (s.setStage x) = (g s).setStage x) : StageBlind x g :=
  fun s hr => ⟨he s hr, by rw [ready_eq_false, (hs s hr).stage]; exact ready_eq_false.1 hr⟩

end

section
variable (x : Stage)

theorem changeRecord_setStage (s : State) (l : LineId) (f : MachineRecord → MachineRecord) :
    (s.setStage x).changeRecord l f = (s.changeRecord l f).setStage x := by
  have hl : (s.setStage x).line l = s.line l := rfl
  have hp (k : SlotId) (r : MachineRecord) : (s.setStage x).putRecord l k r = (s.putRecord l k r).setStage x := by
    simp only [State.putRecord, hl]
    split <;> rfl
  unfold State.changeRecord
  rw [hl]
  split
  · exact hp ..
  · rfl
  · rfl

theorem evaluateTier_setStage (s : State) (t : TankId) :
    (s.setStage x).evaluateTier t = (s.evaluateTier t).setStage x := by
  by_cases hn : nextTier (s.tankConfig t) (s.tank t).usable (s.tank t).tier = (s.tank t).tier
  · rw [show s.evaluateTier t = s from if_pos hn]
    exact if_pos hn
  · rw [show s.evaluateTier t = (s.modTank t fun x => { x with
      tier := nextTier (s.tankConfig t) (s.tank t).usable (s.tank t).tier }).postAll (.tierChange t (s.tank t).tier
        (nextTier (s.tankConfig t) (s.tank t).usable (s.tank t).tier) (s.tank t).usable) from if_neg hn]
    exact if_neg hn

theorem postOffices_setStage (bs : List NoticeBody) (s : State) :
    (s.setStage x).postOffices bs = (s.postOffices bs).setStage x := by
  induction bs generalizing s with
  | nil => rfl
  | cons b bs ih => exact ih (s.postOffice b)

theorem append_setStage (s : State) (e : JournalEntry) : (s.setStage x).append e = (s.append e).setStage x := by
  by_cases ht : (s.journal.entries ++ [e]).length = s.config.service.journalThreshold
  · exact (if_pos ht).trans (congrArg (State.setStage · x) (show s.append e = _ from if_pos ht)).symm
  · exact (if_neg ht).trans (congrArg (State.setStage · x) (show s.append e = _ from if_neg ht)).symm

theorem evaluateFuel_setStage (s : State) (l : LineId) (old : Option MachineRecord) :
    (s.setStage x).evaluateFuel l old = (s.evaluateFuel l old).setStage x := by
  simp only [State.evaluateFuel, changeRecord_setStage]
  have hr : ((s.changeRecord l (monitored (ofBasis .fuel))).setStage x).recordAt l =
    (s.changeRecord l (monitored (ofBasis .fuel))).recordAt l := rfl
  rw [hr]
  split
  · exact postOffices_setStage ..
  · rfl

theorem evaluateTank_setStage (hx : x ≠ .ready) (s : State) (t : TankId) (hr : s.ready = false) :
    (s.setStage x).evaluateTank t = (s.evaluateTank t).setStage x := by
  have hlow (y : State) (hy : y.ready = false) : (y.setStage x).evaluateLow t = (y.evaluateLow t).setStage x := by
    have hy' : (y.setStage x).ready = false := ready_eq_false.2 hx
    have htank : (y.setStage x).tank t = y.tank t := rfl
    have hfloor : (y.setStage x).tankConfig t = y.tankConfig t := rfl
    simp only [State.evaluateLow, hy, hy', htank, hfloor]
    split <;> split <;> rfl
  have he : (s.setStage x).tankConfig t = s.tankConfig t := rfl
  have htier := ((Undisturbed.refl s).evaluateTier t).stage
  unfold State.evaluateTank
  rw [he, evaluateTier_setStage, hlow _ (by rw [ready_eq_false, htier]; exact ready_eq_false.1 hr)]
  split <;> rfl

/-- R103: what a finishing delivery hands on does not depend on the stage before READY. -/
theorem handOn_setStage (hx : x ≠ .ready) (s : State) (d : Delivery) (w : DeliveryOutcome) (hr : s.ready = false) :
    (s.setStage x).handOn d w = (s.handOn d w).setStage x := by
  have happ : Undisturbed s (s.append (s.entryFor d w)) := (Undisturbed.refl s).append _
  have hentry : (s.setStage x).entryFor d w = s.entryFor d w := rfl
  simp only [State.handOn, hentry, append_setStage]
  split
  · rfl
  · next l _ =>
    have hch := happ.changeRecord l (charged (s.finalNet d))
    have hcharge (y : State) (hy : y.ready = false) (k : Nat) :
        (y.setStage x).chargeTank d.tank k = (y.chargeTank d.tank k).setStage x := by
      simp only [State.chargeTank]
      rw [← evaluateTank_setStage x hx]
      · rfl
      · exact hy
    have hnet : (s.setStage x).finalNet d = s.finalNet d := rfl
    rw [changeRecord_setStage, hnet, hcharge _ (by rw [ready_eq_false, hch.stage]; exact ready_eq_false.1 hr)]
    exact congrArg (fun y : State => y.setPin l false) (evaluateFuel_setStage ..)

theorem stageBlind_finishNozzle (hx : x ≠ .ready) (n : NozzleId) (w : DeliveryOutcome) :
    StageBlind x fun s => s.finishNozzle n w :=
  stageBlind_of_same (fun s hr => (finishNozzle_frame s n w hr).1) fun s hr =>
    congrArg (fun y : State => y.postOwner n (s.doneNote (s.delivery n) w))
      (handOn_setStage x hx ((s.modCtx n fun _ => freeContext).releaseMeter n) (s.delivery n) w hr)

theorem stageBlind_finishParked (hx : x ≠ .ready) (k : ParkId) (p : Parked) :
    StageBlind x fun s => s.finishParked k p .interrupted :=
  stageBlind_of_same (fun s hr => (finishParked_frame s k p hr).1) fun s hr => by
    rw [finishParked_interrupted, finishParked_interrupted]
    exact congrArg (fun y : State => y.postTo p.parkingPort _) (handOn_setStage x hx (s.setSlot k .empty) p.delivery _ hr)

/-- R106, R136: open business settled does not depend on the stage before READY. -/
theorem businessSettled_setStage (hx : x ≠ .ready) {s : State} (hr : s.ready = false) :
    (s.setStage x).businessSettled = s.businessSettled.setStage x := by
  have hfreed : (stateFreed s).ready = false := ready_of_same (sameBusiness_stateFreed s) hr
  have hcount : StageBlind x State.countInterrupted := fun y hy => ⟨rfl, hy⟩
  have hid : StageBlind x fun y => y := fun y hy => ⟨rfl, hy⟩
  have hnoz := StageBlind.foldl (g := fun (y : State) n => if ¬ ((s.ctx n).state = .free ∨ (s.ctx n).state = .loaded)
      then (y.finishNozzle n .interrupted).countInterrupted else y) (fun n => by
    by_cases ho : ¬ ((s.ctx n).state = .free ∨ (s.ctx n).state = .loaded)
    · simp only [if_pos ho]
      exact hcount.comp (stageBlind_finishNozzle x hx n .interrupted)
    · simp only [if_neg ho]
      exact hid) (List.finRange 8)
  have hslots := StageBlind.foldl (g := fun (y : State) k => (heldIn (s.slot k)).elim y fun p =>
      (y.finishParked k p .interrupted).countInterrupted) (fun k => by
    cases heldIn (s.slot k) with
    | some p => exact hcount.comp (stageBlind_finishParked x hx k p)
    | none => exact hid) (List.finRange 4)
  have htanks := StageBlind.foldl (x := x) (g := fun (y : State) t => ((s.tank t).receipt.map receiptFace).elim y fun r =>
      (y.modTank t fun x => { x with receipt := none }).postOffice (.receiptResult t .cancelled r.1 0 0 false r.2))
    (fun t => by
      cases (s.tank t).receipt.map receiptFace with
      | some r => exact fun y hy => ⟨rfl, hy⟩
      | none => exact hid) (List.finRange 4)
  rw [businessSettled_eq_folds, businessSettled_eq_folds s]
  exact (htanks.comp (hslots.comp hnoz) (stateFreed s) hfreed).1

end

end Sys2Proof.Proofs

namespace Sys2Proof.Proofs
open Sys2Proof Sys2Proof.Machine

/-! ### The interface FAULTED in start-up (R3, R15) -/

/-- R3: every slot from one on is USED and counted as unread. -/
@[irreducible] def headersUnread (j : Nat) (y : State) : State := { y with table := { y.table with
  slots := Tab.mapWith (fun i x => if j ≤ i.val then .used else x) y.table.slots,
  unread := y.table.unread + (512 - j) } }

@[simp] theorem headersUnread_startUp (j : Nat) (y : State) : (headersUnread j y).startUp = y.startUp := by
  simp only [headersUnread]

@[simp] theorem headersUnread_faulted (j : Nat) (y : State) : (headersUnread j y).table.faulted = y.table.faulted := by
  simp only [headersUnread]

theorem length_filter_finRange (n j : Nat) : ((List.finRange n).filter fun i => decide (j ≤ i.val)).length = n - j := by
  have h : (((List.finRange n).filter fun i => decide (j ≤ i.val)).map Fin.val).length = n - j := by
    rw [← Function.comp_def (fun m => decide (j ≤ m)) Fin.val, ← List.filter_map, List.map_coe_finRange_eq_range,
      ← List.Ico.zero_bot, List.Ico.filter_le, List.Ico.length, Nat.zero_max]
  rwa [List.length_map] at h

theorem countUnreads_eq (ks : List SlotId) (s : State) : ks.foldl State.countUnread s = { s with table := { s.table with
    slots := ks.foldl (fun t k => t.write k .used) s.table.slots, unread := s.table.unread + ks.length } } := by
  induction ks generalizing s with
  | nil => rfl
  | cons k ks ih =>
    rw [List.foldl_cons, ih]
    simp only [State.countUnread, State.setSlotState, State.modTable, List.foldl_cons, List.length_cons]
    rw [Nat.add_assoc, Nat.add_comm 1]

/-- R3: the headers not yet read given up. -/
theorem giveUpHeaders_eq (s : State) (j : Nat) : s.giveUpHeaders j = headersUnread j s := by
  have hslots : ((List.finRange 512).filter fun i => decide (j ≤ i.val)).foldl
      (fun t k => t.write k SlotState.used) s.table.slots =
        Tab.mapWith (fun i x => if j ≤ i.val then .used else x) s.table.slots := tab_ext fun i => by
    rw [read_foldl_write (fun _ _ => SlotState.used) ((List.nodup_finRange 512).filter _), read_mapWith]
    simp
  rw [State.giveUpHeaders, countUnreads_eq, hslots, length_filter_finRange, headersUnread]

/-- R15: with WRITEs and a CONFIG_WRITE alone queued, and no request that waits, entering FAULTED is the notice alone. -/
theorem enterFaulted_of_stays {s : State} (hq : ∀ op ∈ s.table.queue, op = .configWrite ∨ ∃ j i, op = .write j i)
    (hw : s.table.lineWait = []) (hh : ∀ p, (s.port p).inHand = none) :
    s.enterFaulted = ({ s with table := { s.table with faulted := true } } : State).postAll (.storeState true) := by
  have hlines : s.table.queue.filterMap StoreOp.fetchLine = [] := List.filterMap_eq_nil_iff.2 fun op hop => by
    rcases hq op hop with rfl | ⟨j, i, rfl⟩ <;> rfl
  have hstay : s.table.queue.filter (fun op => op.stays) = s.table.queue := List.filter_eq_self.2 fun op hop => by
    rcases hq op hop with rfl | ⟨j, i, rfl⟩ <;> rfl
  have hdrop (ops : List StoreOp) (h : ∀ op ∈ ops, op = .configWrite ∨ ∃ j i, op = .write j i) (y : State) :
      ops.foldl State.dropErase y = y := by
    induction ops with
    | nil => rfl
    | cons op ops ih =>
      have hop : y.dropErase op = y := by rcases h op List.mem_cons_self with rfl | ⟨j, i, rfl⟩ <;> rfl
      rw [List.foldl_cons, hop, ih fun x hx => h x (List.mem_cons_of_mem _ hx)]
  simp only [State.enterFaulted, hlines, hw, List.flatMap_nil, List.append_nil, List.foldl_nil, hdrop _ hq,
    State.modTable, hstay]
  rw [answerConfigs_of_none _ _ _ (by exact hh), ← hw]

/-- R3, R185: start-up goes on without the store. -/
theorem settle_indexDone_faulted {y : State} (hf : y.table.faulted = true) (hr : y.ready = false) :
    y.indexDone.settle = (if y.startUp.cold = true then y else y.businessSettled).becomesReady := by
  have hend (z : State) (h : z.table.faulted = true) : (z.setStage .writes).settle = z.becomesReady := by
    rw [settle_of_writes, becomesReady_setStage]
    · rfl
    · exact .inl h
  by_cases hc : y.startUp.cold = true
  · rw [indexDone_cold hc, if_pos hc, hend y hf]
  · rw [indexDone_warm (by simpa using hc) hr, if_neg hc, hend _ ((openBusiness_eq hr).2.2.2.trans hf)]

/-- R185 stage 2: start-up does not wait for the epoch's write when the interface is FAULTED. -/
theorem settle_of_epoch_faulted {y : State} (hst : y.startUp.stage = .epoch) (hf : y.table.faulted = true) :
    y.settle = (if y.startUp.cold = true then headersUnread 0 y else (headersUnread 0 y).businessSettled).becomesReady := by
  have hl : y.leaveEpoch = ((headersUnread 0 y).setStage .index).indexDone := by
    simp only [State.leaveEpoch, hst, hf, if_true, giveUpHeaders_eq, headersUnread, State.setStage]
  have hw : y.settle = ((headersUnread 0 y).setStage .index).indexDone.settle := by
    rw [State.settle, State.settle, hl, leaveEpoch_of_writes (s := State.indexDone _) rfl]
  have hcold : ((headersUnread 0 y).setStage .index).startUp.cold = y.startUp.cold := by
    simp only [State.setStage, headersUnread_startUp]
  rw [hw, settle_indexDone_faulted _ rfl, hcold, businessSettled_setStage .index (by decide)]
  · by_cases hc : y.startUp.cold = true
    · rw [if_pos hc, if_pos hc]
      rfl
    · rw [if_neg hc, if_neg hc]
      rfl
  · rw [ready_eq_false, headersUnread_startUp, hst]
    decide
  · simpa only [State.setStage, headersUnread_faulted] using hf

/-- R3: a slot counted as unread before those after it. -/
theorem headersUnread_countUnread (k : SlotId) (y : State) :
    headersUnread (k.val + 1) (y.countUnread k) = headersUnread k.val y := by
  have hslots : Tab.mapWith (fun i x => if k.val + 1 ≤ i.val then SlotState.used else x) (y.table.slots.write k .used) =
      Tab.mapWith (fun i x => if k.val ≤ i.val then .used else x) y.table.slots := tab_ext fun i => by
    rw [read_mapWith, read_mapWith, read_write]
    grind
  simp only [headersUnread, State.countUnread, State.setSlotState, State.modTable, hslots]
  rw [show y.table.unread + 1 + (512 - (k.val + 1)) = y.table.unread + (512 - k.val) by omega]

/-- R3: the header of a slot to be tried once more is among those given up. -/
theorem loseHeaders_first (s : State) (k : SlotId) : s.loseHeaders k false = headersUnread k.val s := by
  rw [State.loseHeaders, if_neg Bool.false_ne_true, giveUpHeaders_eq]

theorem loseHeaders_again (s : State) (k : SlotId) :
    s.loseHeaders k true = headersUnread (k.val + 1) (s.applyUnread k) := by
  rw [State.loseHeaders, if_pos rfl, giveUpHeaders_eq]

/-- R3: a slot that holds a fleet number, with an entry for a new number and counted as duplicate for one in the index. -/
theorem applyFleet_eq (s : State) (k : SlotId) (n : Nat) : s.applyFleet k n = { s with table := {
    (if (s.entry n).isSome = true then { s.table with duplicates := s.table.duplicates + 1 }
      else { s.table with index := insertEntry { fleet := n, slot := k, damaged := false } s.table.index }) with
    slots := s.table.slots.write k .used } } := by
  simp only [State.applyFleet]
  split <;> rfl

theorem endHeaderRead_third (s : State) (k : SlotId) (retry : Bool) (h : 3 ≤ s.table.failures + 1) :
    s.endHeaderRead k retry .failed =
      ((headerEnded s (s.table.failures + 1)).loseHeaders k retry).enterFaulted.indexDone := if_pos h

/-- Settles O26: what each third failure leaves is FAULTED by `enterFaulted_of_stays`, and start-up's going on is
`settle_indexDone_faulted`, reached from stage 2 by `settle_of_epoch_faulted`. -/
theorem faultedStoreDoesNotHoldStartUp : Obligations.FaultedStoreDoesNotHoldStartUp := by
  unfold Obligations.FaultedStoreDoesNotHoldStartUp
  intro data s hr h2 hf hw hh faulted unread goesOn
  refine ⟨?_, ?_, ?_⟩
  · intro k retry hst hq hx
    have ends {y : State} {j : Nat}
        (hlose : (headerEnded s (s.table.failures + 1)).loseHeaders k retry = headersUnread j y)
        (hyq : y.table.queue = []) (hyw : y.table.lineWait = []) (hyh : ∀ p, (y.port p).inHand = none)
        (hyst : y.startUp = s.startUp) :
        exec (.headerReadComplete .failed) s = .next (goesOn
          (({ headersUnread j y with table := { (headersUnread j y).table with faulted := true } } : State).postAll
            (.storeState true))) := by
      have hyst' : (headersUnread j y).startUp = s.startUp := by rw [headersUnread_startUp, hyst]
      rw [exec_headerReadComplete .failed hr hx, endHeaderRead_third _ _ _ (by omega), hlose, enterFaulted_of_stays,
        settle_indexDone_faulted]
      · simp only [State.postAll, State.postWhere, hyst', goesOn]
      · rfl
      · rw [ready_eq_false, State.postAll, State.postWhere, hyst', hst]
        decide
      · simp [headersUnread, hyq]
      · simp only [headersUnread, hyw]
      · intro p
        simp only [State.port, headersUnread]
        exact hyh p
    constructor
    · intro hheld
      have hlose : (headerEnded s (s.table.failures + 1)).loseHeaders k retry =
          headersUnread k.val (headerEnded s (s.table.failures + 1)) := by
        cases retry with
        | false => exact loseHeaders_first ..
        | true =>
          have hnone : s.slotHolder k = none := hheld.resolve_left Bool.noConfusion
          rw [loseHeaders_again, applyUnread_unheld _ hnone, headersUnread_countUnread]
      rw [ends hlose hq hw hh rfl]
      simp only [faulted, unread, headersUnread, headerEnded, h2]
    · intro m hretry hheld entered
      have hlose : (headerEnded s (s.table.failures + 1)).loseHeaders k retry =
          headersUnread (k.val + 1) ((headerEnded s (s.table.failures + 1)).applyFleet k m) := by
        rw [hretry, loseHeaders_again, applyUnread_held _ hheld]
      have hfleet : (headerEnded s (s.table.failures + 1)).applyFleet k m = { s with table := { entered with
          slots := s.table.slots.write k .used, inFlight := none, failures := s.table.failures + 1 } } := by
        have hentry : (headerEnded s (s.table.failures + 1)).entry m = s.entry m := entry_congr rfl m
        rw [applyFleet_eq, hentry]
        simp only [entered, headerEnded]
        split <;> rfl
      rw [hfleet] at hlose
      have hyq : entered.queue = [] := by simp only [entered]; split <;> exact hq
      have hyw : entered.lineWait = [] := by simp only [entered]; split <;> exact hw
      rw [ends hlose hyq hyw hh rfl]
      simp only [faulted, unread, headersUnread, h2]
  · intro hst hq hx
    have hqueue : (headerEnded s (s.table.failures + 1)).configWriteQueued = false := by
      simp [State.configWriteQueued, headerEnded, hq]
    have hend : s.endConfigWrite false = faulted { s with table := { s.table with queue := [.configWrite] } } := by
      show (State.queueConfigWrite (headerEnded s (s.table.failures + 1))).checkFailures = _
      rw [State.queueConfigWrite, if_neg (by simp [hqueue]), State.checkFailures, if_pos, enterFaulted_of_stays]
      · simp only [faulted, headerEnded, State.enqueue, State.modTable, hq, h2, List.nil_append]
      · simp [headerEnded, State.enqueue, State.modTable, hq]
      · exact hw
      · exact hh
      · exact Nat.succ_le_succ h2.ge
    rw [exec_configWriteComplete false hr hx, hend, settle_of_epoch_faulted]
    · simp only [goesOn, headersUnread]
      rfl
    · exact hst
    · rfl
  · intro l k st r hst hq hx hc
    rw [exec_writeComplete false hr hx, endWrite_false _ _ _ _ rfl,
      writeAgain_held (s := headerEnded s _) (j := k) (st := st) (r := r) hc, State.checkFailures, if_pos,
      enterFaulted_of_stays, settle_of_writes]
    · simp only [faulted, headerEnded, h2]
      rfl
    · exact hst
    · exact .inl rfl
    · intro op hop
      have hmem : op ∈ s.table.queue ∨ op = .write l k := by
        dsimp only at hop
        split at hop
        · exact .inl hop
        · exact (List.mem_append.1 hop).imp_right List.mem_singleton.1
      exact hmem.elim (hq op) fun h => .inr ⟨l, k, h⟩
    · exact hw
    · exact hh
    · exact Nat.succ_le_succ h2.ge

end Sys2Proof.Proofs

namespace Sys2Proof.Proofs
open Sys2Proof Sys2Proof.Machine

/-! ### What a request's port permits (R170) -/

theorem fromOne_succ {k : Nat} (n : Fin k) : fromOne k (n.val + 1) = some n := by
  rw [fromOne, dif_pos ⟨by omega, by omega⟩]
  rfl

section
variable {s : State} {p : Port}

theorem permits_workshop (hw : s.role p = .workshop) {c : ReqCode} (hc : c.ofWorkshop = true) :
    s.permits p c none = true := by simp only [State.permits, hw, hc, Bool.or_true]

theorem permits_fleet (hf : s.role p = .fleet) {c : ReqCode} (hc : c.ofFleet = true) : s.permits p c none = true := by
  simp only [State.permits, hf, hc, Bool.or_true]

theorem permits_island (hi : s.role p = .island) {n : NozzleId} (ho : (s.config.nozzles.read n).owner = p) {c : ReqCode}
    (hc : c.ofIsland = true) : s.permits p c (some (n.val + 1)) = true := by
  have howns : s.owns p (some (n.val + 1)) = true := by
    simp only [State.owns, Option.bind_some, fromOne_succ, State.owner, State.nozzleConfig, ho, decide_true]
  simp only [State.permits, hi, hc, howns, Bool.and_true, Bool.or_true]

/-! ### The request in hand (R169) -/

theorem takeInHand_idleAssembler (tag : Byte) (q : WaitingRequest) : (s.idleAssembler p).takeInHand p tag q = s.kept p tag q := by
  simp only [State.takeInHand, State.idleAssembler, State.modPort_modPort, State.kept]

theorem inHand_kept (tag : Byte) (q : WaitingRequest) :
    ((s.kept p tag q).port p).inHand = some { tag := tag, request := q } := by
  rw [State.kept, State.port_modPort_self]

/-- R169: a request kept in hand and answered in the same event is as one answered at once. -/
theorem answer_kept (hl : (s.port p).line = []) (hi : (s.port p).inHand = none) (tag : Byte) (q : WaitingRequest)
    (st : Status) (f : Payload) : (s.kept p tag q).answer p st f = s.answered p q.code tag st f := by
  rw [answer_of_inHand (inHand_kept tag q), State.kept, State.modPort_modPort, State.answered]
  refine State.modPort_congr _ _ _ _ ?_
  simp only [hl, List.nil_append]
  rw [← hi]

end

/-! ### Asking for a record (R8, R9) -/

section
variable {s : State} {f : Nat} {e : IndexEntry} (who : Requester)

theorem requestRecord_unenrolled (h : s.enrolled f = none) : s.requestRecord f who = (s, .refused .notEnrolled) := by
  simp only [State.requestRecord, h]

theorem requestRecord_damaged (h : s.enrolled f = some e) (hd : e.damaged = true) :
    s.requestRecord f who = (s, .refused .damaged) := by
  simp only [State.requestRecord, h, hd, if_true]

section
variable (h : s.enrolled f = some e) (hd : e.damaged = false)
include h hd

theorem requestRecord_held {l : LineId} {st : HeldState} {k : SlotId} {r : MachineRecord} (hl : s.lineFor f = some l)
    (hc : (s.line l).content = .held st k r) : s.requestRecord f who = (s.touch l, .given l) := by
  simp only [State.requestRecord, h, hd, hl, hc, Bool.false_eq_true, if_false]

theorem requestRecord_fetching {l : LineId} {g : Nat} {k : SlotId} (hl : s.lineFor f = some l)
    (hc : (s.line l).content = .fetching g k) :
    s.requestRecord f who = (s.modLine l fun x => { x with waiters := x.waiters ++ [who] }, .waits) := by
  simp only [State.requestRecord, h, hd, hl, hc, Bool.false_eq_true, if_false]

theorem requestRecord_faulted (hl : s.lineFor f = none) (hf : s.table.faulted = true) :
    s.requestRecord f who = (s, .refused .storeFault) := by
  simp only [State.requestRecord, h, hd, hl, hf, Bool.false_eq_true, if_false, if_true]

theorem requestRecord_fetch {l : LineId} (hl : s.lineFor f = none) (hf : s.table.faulted = false)
    (hfree : s.freeLine = some l) : s.requestRecord f who = (s.beginFetch l f e.slot [who], .waits) := by
  simp only [State.requestRecord, h, hd, hl, hf, hfree, Bool.false_eq_true, if_false]

theorem requestRecord_wait (hl : s.lineFor f = none) (hf : s.table.faulted = false) (hfree : s.freeLine = none) :
    s.requestRecord f who = (s.waitForLine f who, .waits) := by
  simp only [State.requestRecord, h, hd, hl, hf, hfree, Bool.false_eq_true, if_false]

end

/-! ### What the machine table unit reads -/

variable {t : State} (ht : t.table = s.table)
include ht

theorem enrolled_of_table : t.enrolled f = s.enrolled f := by
  simp only [State.enrolled, State.entry, State.slotState, ht]
  rfl
theorem lineFor_of_table : t.lineFor f = s.lineFor f := by
  simp only [State.lineFor, State.line, ht]
  rfl
theorem freeLine_of_table : t.freeLine = s.freeLine := by
  simp only [State.freeLine, State.line, ht]
  rfl
theorem line_of_table (l : LineId) : t.line l = s.line l := by simp only [State.line, ht]

end

end Sys2Proof.Proofs

namespace Sys2Proof.Proofs
open Sys2Proof Sys2Proof.Machine

/-! ### The ticket that START takes (R86) -/

/-- The ticket of the open delivery at a nozzle or in a park slot, if there is one. -/
def ticketAt (s : State) : NozzleId ⊕ ParkId → Option Nat
  | .inl n => if (s.ctx n).state.isOpen then some (s.delivery n).ticket else none
  | .inr k => (heldIn (s.slot k)).map fun p => p.delivery.ticket

theorem ticketOpen_iff_held (s : State) (t : Nat) : s.ticketOpen t = true ↔
    (∃ n, (s.ctx n).state.isOpen = true ∧ (s.delivery n).ticket = t)
      ∨ ∃ k p, s.slot k = .holding p ∧ p.delivery.ticket = t := by
  simp only [State.ticketOpen, allNozzles_eq, allSlots_eq, Bool.or_eq_true, List.any_eq_true, List.mem_finRange, true_and,
    Bool.and_eq_true, decide_eq_true_eq]
  refine or_congr_right (exists_congr fun k => ?_)
  cases s.slot k <;> simp

theorem ticketOpen_iff (s : State) (t : Nat) : s.ticketOpen t = true ↔ ∃ h, ticketAt s h = some t := by
  have hslot (k : ParkId) : ticketAt s (.inr k) = some t ↔ ∃ p, s.slot k = .holding p ∧ p.delivery.ticket = t := by
    cases h : s.slot k <;> simp [ticketAt, heldIn, h]
  simp only [ticketOpen_iff_held, Sum.exists, hslot]
  simp only [ticketAt, Option.ite_none_right_eq_some, Option.some.injEq]

/-- R86: the tickets the search comes to in 12 steps are distinct. -/
theorem nextTicket_iterate {c : Nat} (h1 : 1 ≤ c) (h2 : c ≤ 65535) (i : Nat) :
    nextTicket^[i] c = (c - 1 + i) % 65535 + 1 := by
  induction i with
  | zero => simp only [Function.iterate_zero, id]; omega
  | succ i ih =>
    rw [Function.iterate_succ_apply', ih, nextTicket]
    split <;> omega

/-- R86: the search stops at the first ticket not open, or at the last it tries. -/
theorem findTicket_spec (s : State) (k t : Nat) : ∃ i ≤ k, s.findTicket k t = nextTicket^[i] t
    ∧ (∀ j < i, s.ticketOpen (nextTicket^[j] t) = true) ∧ (i < k → s.ticketOpen (nextTicket^[i] t) = false) := by
  induction k generalizing t with
  | zero => exact ⟨0, le_rfl, rfl, fun j hj => absurd hj (Nat.not_lt_zero j), fun h => absurd h (Nat.lt_irrefl 0)⟩
  | succ k ih =>
    by_cases ho : s.ticketOpen t = true
    · obtain ⟨i, hi, hfind, hopen, hlast⟩ := ih (nextTicket t)
      refine ⟨i + 1, by omega, ?_, fun j hj => ?_, fun h => hlast (by omega)⟩
      · rw [State.findTicket, if_pos ho, hfind]
        rfl
      · cases j with
        | zero => exact ho
        | succ j => exact hopen j (by omega)
    · refine ⟨0, by omega, ?_, fun j hj => absurd hj (Nat.not_lt_zero j), fun _ => by simpa using ho⟩
      rw [State.findTicket, if_neg ho]
      rfl

/-- R86: eight nozzles and four slots hold at most twelve tickets, so one of thirteen is not open. -/
theorem exists_not_open (s : State) {g : Nat → Nat} (hg : ∀ i j, i < 13 → j < 13 → g i = g j → i = j) :
    ∃ i < 13, s.ticketOpen (g i) = false := by
  by_contra hall
  push Not at hall
  have hholder (i : Fin 13) : ∃ h, ticketAt s h = some (g i) :=
    (ticketOpen_iff s (g i)).1 (by simpa using hall i i.isLt)
  choose holder hholder using hholder
  have hinj : Function.Injective holder := fun i j hij => by
    have h := (hholder i).symm.trans ((congrArg (ticketAt s) hij).trans (hholder j))
    exact Fin.ext (hg i j i.isLt j.isLt (Option.some.inj h))
  exact absurd (Fintype.card_le_of_injective holder hinj) (by simp [NozzleId, ParkId])

/-- R86: the ticket taken is not open; it lies in 1 to 65,535, and is the counter's when that is not open. -/
theorem findTicket_free (s : State) {c : Nat} (h1 : 1 ≤ c) (h2 : c ≤ 65535) :
    s.ticketOpen (s.findTicket 12 c) = false ∧ 1 ≤ s.findTicket 12 c ∧ s.findTicket 12 c ≤ 65535
      ∧ (s.ticketOpen c = false → s.findTicket 12 c = c) := by
  obtain ⟨i, hi, hfind, hopen, hlast⟩ := findTicket_spec s 12 c
  have hfree : s.ticketOpen (nextTicket^[i] c) = false := by
    by_contra ho
    have hall (j : Nat) (hj : j ≤ i) : s.ticketOpen (nextTicket^[j] c) = true := by
      rcases hj.lt_or_eq with h | rfl
      · exact hopen j h
      · simpa using ho
    have hi12 : i = 12 := by
      by_contra h
      exact ho (hlast (by omega))
    obtain ⟨j, hj, hjfree⟩ := exists_not_open s (g := fun j => nextTicket^[j] c) fun a b ha hb hab => by
      simp only [nextTicket_iterate h1 h2] at hab
      omega
    exact absurd (hall j (by omega)) (by simp [hjfree])
  refine ⟨hfind ▸ hfree, ?_, ?_, fun hc => ?_⟩
  · rw [hfind, nextTicket_iterate h1 h2]; omega
  · rw [hfind, nextTicket_iterate h1 h2]; omega
  · cases i with
    | zero => exact hfind
    | succ i => exact absurd (hopen 0 (by omega)) (by simpa using hc)

/-! ### An IDENT step given its record (R88) -/

/-- R6: the lazy shift reset in closed form. -/
theorem lazyReset_eq (shift : Word32) (r : MachineRecord) : lazyReset shift r =
    { r with used := if r.usageShift = shift then r.used else 0, usageShift := shift } := by
  unfold lazyReset
  by_cases h : r.usageShift = shift
  · rw [if_pos h, if_pos h, ← h]
  · rw [if_neg h, if_neg h]

/-- R6, R11: a change to a cached record. -/
theorem changeRecord_held {s : State} {l : LineId} {st : HeldState} {k : SlotId} {r : MachineRecord}
    (h : (s.line l).content = .held st k r) (f : MachineRecord → MachineRecord) :
    s.changeRecord l f = s.putRecord l k (f (lazyReset s.clock.shift r)) := by simp only [State.changeRecord, h]

section
variable {s : State} {n : NozzleId} {l : LineId} {st : HeldState} {k : SlotId} {r : MachineRecord} {d : Delivery}
  {f : Nat} {t : Word32} {v : Bool}

theorem identStep_of_step {c : Context} (h : c.steps[c.pointer]? = some (.ident f t v)) : c.identStep = (t, v) := by
  simp only [Context.identStep, h]

theorem nozzles_putRecord (s : State) (l : LineId) (k : SlotId) (r : MachineRecord) :
    (s.putRecord l k r).nozzles = s.nozzles := by
  simp only [State.putRecord]
  split <;> rfl

theorem config_putRecord (s : State) (l : LineId) (k : SlotId) (r : MachineRecord) :
    (s.putRecord l k r).config = s.config := by
  simp only [State.putRecord]
  split <;> rfl

theorem identified_eq (hd : (s.ctx n).delivery = some d) (hstep : (s.ctx n).identStep.2 = v)
    (hc : (s.line l).content = .held st k r) : s.identified n l = s.afterIdent n d v l k r := by
  have hdel : s.delivery n = d := by rw [State.delivery, hd]; rfl
  have hrec : (s.setPin l true).changeRecord l (fun r => { r with openTicket := some d.ticket }) =
      (s.modLine l fun x => { x with pinned := true }).putRecord l k
        { r with used := if r.usageShift = s.clock.shift then r.used else 0, usageShift := s.clock.shift,
                 openTicket := some d.ticket } := by
    rw [changeRecord_held (st := st) (k := k) (r := r), lazyReset_eq]
    · rfl
    · rw [State.setPin, State.line_modLine_self]
      exact hc
  have hctx (y : State) (hy : y.nozzles = s.nozzles) (g : Delivery → Delivery) : y.modDelivery n g =
      y.modCtx n fun c => { c with delivery := some (g d) } := by
    have hyc : (y.ctx n).delivery = some d := by rw [State.ctx, hy]; exact hd
    simp only [State.modDelivery, State.modCtx, hyc, Option.map_some]
  simp only [State.identified, hdel, hrec, hstep]
  rw [hctx]
  · simp only [State.postOwner, State.owner, State.nozzleConfig, State.bindMeter, State.modMeter_config,
      State.modCtx_config, config_putRecord, State.modLine_config]
    rfl
  · rw [nozzles_putRecord]
    rfl

theorem identReason_eq (hstep : (s.ctx n).identStep = (t, v)) : s.identReason n r =
    identTests (s.config.tanks.read (s.config.nozzles.read n).tank).product t v r := by
  simp only [State.identReason, hstep, identTests, State.tankConfig, State.nozzleConfig]

/-- R88: a test that fails finishes the delivery refused. -/
theorem identTest_refused (hc : (s.line l).content = .held st k r) (hstep : (s.ctx n).identStep = (t, v)) {why : Reason}
    (h : identTests (s.config.tanks.read (s.config.nozzles.read n).tank).product t v r = some why) :
    s.identTest n l = (s.finishRefused n why, false) := by
  have hr : s.recordAt l = some r := by rw [State.recordAt, hc]; rfl
  simp only [State.identTest, hr, identReason_eq hstep, h]

theorem identTest_passed (hc : (s.line l).content = .held st k r) (hstep : (s.ctx n).identStep = (t, v))
    (hd : (s.ctx n).delivery = some d)
    (h : identTests (s.config.tanks.read (s.config.nozzles.read n).tank).product t v r = none) :
    s.identTest n l = (s.afterIdent n d v l k r, true) := by
  have hr : s.recordAt l = some r := by rw [State.recordAt, hc]; rfl
  simp only [State.identTest, hr, identReason_eq hstep, h, identified_eq hd (congrArg Prod.snd hstep) hc]

end

end Sys2Proof.Proofs

namespace Sys2Proof.Proofs
open Sys2Proof Sys2Proof.Machine

/-! ### An IDENT step executed (R84, R87) -/

/-- R84, R87: the context as an IDENT step asks for its record. -/
def identAsked (s : State) (n : NozzleId) (k f : Nat) (v : Bool) : State :=
  (s.modCtx n fun c => { c with pointer := k }).modDelivery n fun d => { d with fleet := f, verifyAsked := v }

section
variable {s z : State} {n : NozzleId} {k f : Nat} {t : Word32} {v : Bool} {rest : List Step}

theorem runFrom_ident_refused {w : RecordRefusal}
    (h : (identAsked s n k f v).requestRecord f (.ident n) = (z, .refused w)) :
    s.runFrom n k (.ident f t v :: rest) = z.finishRefused n w.reason := by
  rw [identAsked] at h
  simp only [State.runFrom, h]

theorem runFrom_ident_waits (h : (identAsked s n k f v).requestRecord f (.ident n) = (z, .waits)) :
    s.runFrom n k (.ident f t v :: rest) = z.modCtx n fun c => { c with state := .fetching } := by
  rw [identAsked] at h
  simp only [State.runFrom, h]

theorem runFrom_ident_failed {l : LineId} {y : State}
    (h : (identAsked s n k f v).requestRecord f (.ident n) = (z, .given l)) (ht : z.identTest n l = (y, false)) :
    s.runFrom n k (.ident f t v :: rest) = y := by
  rw [identAsked] at h
  simp only [State.runFrom, h, ht, Bool.false_eq_true, if_false]

theorem runFrom_ident_passed {l : LineId} {y : State}
    (h : (identAsked s n k f v).requestRecord f (.ident n) = (z, .given l)) (ht : z.identTest n l = (y, true)) :
    s.runFrom n k (.ident f t v :: rest) = y.runFrom n (k + 1) rest := by
  rw [identAsked] at h
  simp only [State.runFrom, h, ht, if_true]

end

/-! ### START (R85) -/

/-- R158, R164: what a reservation reaches. -/
theorem reserve_frame (s : State) : ∃ ports, s.reserve = { s with
    ports := ports, journal := { s.journal with reservations := s.journal.reservations + 1 } } := by
  simp only [State.reserve]
  split
  · exact ⟨_, rfl⟩
  · exact ⟨_, rfl⟩

/-- R85: the delivery opened at a nozzle by a START whose list begins with an IDENT, its context in a state. -/
def startOpened (s : State) (p : Port) (tag : Byte) (n : NozzleId) (d : Delivery) (x : NozzleState) : State :=
  { (s.idleAssembler p).reserve.reply p .start tag .ok (.ticket d.ticket) with
    ticketCounter := nextTicket d.ticket, expired := s.expired.filter (fun x => !decide (x = d.ticket)),
    nozzles := s.nozzles.write n { s.ctx n with state := x, pointer := 0, delivery := some d } }

section
variable {s : State} {p : Port} {tag : Byte} {n : NozzleId} {d : Delivery} {x : NozzleState}

theorem startOpened_table : (startOpened s p tag n d x).table = s.table := by
  obtain ⟨ports, hres⟩ := reserve_frame (s.idleAssembler p)
  rw [startOpened, hres]
  rfl

theorem startOpened_config : (startOpened s p tag n d x).config = s.config := by
  obtain ⟨ports, hres⟩ := reserve_frame (s.idleAssembler p)
  rw [startOpened, hres]
  rfl

theorem ctx_startOpened : (startOpened s p tag n d x).ctx n = { s.ctx n with state := x, pointer := 0, delivery := some d } := by
  rw [startOpened, State.ctx, read_write, if_pos rfl]

/-- R87: an IDENT step whose record must be waited for leaves the context in FETCHING. -/
theorem startOpened_fetching (g : MachineTable → MachineTable) :
    (({ startOpened s p tag n d x with table := g (startOpened s p tag n d x).table } : State).modCtx n fun c =>
        { c with state := .fetching }) =
      { startOpened s p tag n d .fetching with table := g (startOpened s p tag n d .fetching).table } := by
  simp only [State.modCtx, State.ctx, startOpened, read_write, write_write, if_true]

theorem findTicket_of_same {s t : State} (hn : t.nozzles = s.nozzles) (hp : t.park = s.park) (k c : Nat) :
    t.findTicket k c = s.findTicket k c := by
  have hopen (u : Nat) : t.ticketOpen u = s.ticketOpen u := by
    simp only [State.ticketOpen, State.delivery, State.ctx, State.slot, hn, hp]
    rfl
  induction k generalizing c with
  | zero => rfl
  | succ k ih => simp only [State.findTicket, hopen, ih]

/-- R85: the part as a START begins its list. -/
def listStarted (s : State) (p : Port) (tag : Byte) (n : NozzleId) : State :=
  let ticket := s.findTicket 12 s.ticketCounter
  ({ s.reserve with
    ticketCounter := nextTicket ticket, expired := s.reserve.expired.filter (fun x => !decide (x = ticket)) } :
    State).modCtx n (fun c => { c with delivery := some (s.newDelivery p n ticket), pointer := 0 })
      |>.reply p .start tag .ok (.ticket ticket)

theorem openDelivery_eq (s : State) (p : Port) (tag : Byte) (n : NozzleId) :
    s.openDelivery p tag n = (listStarted s p tag n).runAll n := rfl

/-- R85: the list begins in the context as it was loaded. -/
theorem steps_listStarted : ((listStarted (s.idleAssembler p) p tag n).ctx n).steps = (s.ctx n).steps := by
  obtain ⟨ports, hres⟩ := reserve_frame (s.idleAssembler p)
  simp only [listStarted, hres, State.reply, State.respond, State.ctx, State.modPort_nozzles, State.modCtx, read_write, if_true]
  rfl

theorem identAsked_listStarted {f : Nat} {v : Bool} (hst : (s.ctx n).state = .loaded) :
    identAsked (listStarted (s.idleAssembler p) p tag n) n 0 f v = startOpened s p tag n
      { s.newDelivery p n (s.findTicket 12 s.ticketCounter) with fleet := f, verifyAsked := v } .loaded := by
  obtain ⟨ports, hres⟩ := reserve_frame (s.idleAssembler p)
  have hfind : (s.idleAssembler p).findTicket 12 (s.idleAssembler p).ticketCounter = s.findTicket 12 s.ticketCounter :=
    findTicket_of_same rfl rfl 12 _
  have hnew (k : Nat) : (s.idleAssembler p).newDelivery p n k = s.newDelivery p n k := rfl
  have hctx : (s.idleAssembler p).nozzles.read n = s.ctx n := rfl
  simp only [identAsked, listStarted, startOpened, hfind, hnew, hres, State.reply, State.respond, State.modPort, State.modDelivery,
    State.modCtx, State.ctx, State.port, read_write, write_write, if_true, Option.map_some]
  rw [← hst]
  rfl

end

end Sys2Proof.Proofs

namespace Sys2Proof.Proofs
open Sys2Proof Sys2Proof.Machine

/-! ### START as a command (R85) -/

section
variable {s : State} {p : Port} (tag : Byte) {n : NozzleId}

theorem startUp_openDelivery (s : State) (p : Port) (tag : Byte) (n : NozzleId) :
    (s.openDelivery p tag n).startUp = s.startUp := by
  rw [openDelivery_eq, ((Within.refl (fed := True) _).runAll n).startUp]
  obtain ⟨ports, hres⟩ := reserve_frame s
  simp only [listStarted, hres]
  rfl

theorem startUp_startNozzle (s : State) (p : Port) (tag : Byte) (n : NozzleId) :
    (s.startNozzle p tag n).startUp = s.startUp := by
  unfold State.startNozzle
  split
  · split
    · rfl
    · exact startUp_openDelivery ..
  · rfl

theorem exec_start (h : s.Accepts p) (hi : s.role p = .island) (ho : (s.config.nozzles.read n).owner = p) :
    exec (.start p tag (n.val + 1)) s = .next ((s.idleAssembler p).startNozzle p tag n).startStore := by
  have hk (x : State) : x.withNozzle p .start tag (n.val + 1) (x.startNozzle p tag) = x.startNozzle p tag n := by
    simp only [State.withNozzle, fromOne_succ]
  show s.event (State.reqStart p tag (n.val + 1)) = _
  have hreq : State.reqStart p tag (n.val + 1) = fun x => x.admission p .start tag (some (n.val + 1))
      fun y => y.startNozzle p tag n := funext fun x => by simp only [State.reqStart, hk]
  rw [hreq, event_accepts h (permits_island hi ho rfl)]
  rw [startUp_startNozzle]
  exact h.1.2

/-- R85: the delivery that a START opens, its list beginning with an IDENT. -/
def startedDelivery (s : State) (p : Port) (n : NozzleId) (f : Nat) (v : Bool) : Delivery :=
  { s.newDelivery p n (s.findTicket 12 s.ticketCounter) with fleet := f, verifyAsked := v }

section
variable {f : Nat} {t : Word32} {v : Bool} {rest : List Step} (h : s.Accepts p) (hi : s.role p = .island)
  (ho : (s.config.nozzles.read n).owner = p) (hst : (s.ctx n).state = .loaded)
  (hroom : s.journal.entries.length + s.journal.reservations < 256) (hs : (s.ctx n).steps = .ident f t v :: rest)
include h hi ho hst hroom hs

theorem exec_start_runs : exec (.start p tag (n.val + 1)) s =
    .next ((listStarted (s.idleAssembler p) p tag n).runFrom n 0 (.ident f t v :: rest)).startStore := by
  have hn : (s.idleAssembler p).startNozzle p tag n = _ :=
    (if_pos hst).trans (if_neg (mt of_decide_eq_true (Nat.not_le.2 hroom)))
  rw [exec_start tag h hi ho, hn, openDelivery_eq, State.runAll, steps_listStarted, hs]

theorem exec_start_refused {w : RecordRefusal}
    (hr : (startOpened s p tag n (startedDelivery s p n f v) .loaded).requestRecord f (.ident n) =
      (startOpened s p tag n (startedDelivery s p n f v) .loaded, .refused w)) :
    exec (.start p tag (n.val + 1)) s =
      .next ((startOpened s p tag n (startedDelivery s p n f v) .loaded).finishRefused n w.reason).startStore := by
  rw [exec_start_runs tag h hi ho hst hroom hs, runFrom_ident_refused]
  rw [identAsked_listStarted hst]
  exact hr

theorem exec_start_waits (g : MachineTable → MachineTable)
    (hr : (startOpened s p tag n (startedDelivery s p n f v) .loaded).requestRecord f (.ident n) =
      ((startOpened s p tag n (startedDelivery s p n f v) .loaded).modTable g, .waits)) :
    exec (.start p tag (n.val + 1)) s =
      .next ((startOpened s p tag n (startedDelivery s p n f v) .fetching).modTable g).startStore := by
  rw [exec_start_runs tag h hi ho hst hroom hs, runFrom_ident_waits
    (z := (startOpened s p tag n (startedDelivery s p n f v) .loaded).modTable g), State.modTable, startOpened_fetching]
  · rfl
  · rw [identAsked_listStarted hst]
    exact hr

theorem exec_start_held {e : IndexEntry} {l : LineId} {st : HeldState} {k : SlotId} {r : MachineRecord}
    (he : s.enrolled f = some e) (hd : e.damaged = false) (hl : s.lineFor f = some l)
    (hc : (s.line l).content = .held st k r) :
    let y := (startOpened s p tag n (startedDelivery s p n f v) .loaded).touch l
    let tests := identTests (s.config.tanks.read (s.config.nozzles.read n).tank).product t v r
    (∀ why, tests = some why → exec (.start p tag (n.val + 1)) s = .next (y.finishRefused n why).startStore)
    ∧ (tests = none → exec (.start p tag (n.val + 1)) s =
      .next ((y.afterIdent n (startedDelivery s p n f v) v l k r).runFrom n 1 rest).startStore) := by
  have htable : (startOpened s p tag n (startedDelivery s p n f v) .loaded).table = s.table := startOpened_table
  have hgiven : (identAsked (listStarted (s.idleAssembler p) p tag n) n 0 f v).requestRecord f (.ident n) =
      ((startOpened s p tag n (startedDelivery s p n f v) .loaded).touch l, .given l) := by
    rw [identAsked_listStarted hst]
    exact requestRecord_held (st := st) (k := k) (r := r) _ ((enrolled_of_table htable).trans he) hd
      ((lineFor_of_table htable).trans hl) (by rw [line_of_table htable, hc])
  have hctx : ((startOpened s p tag n (startedDelivery s p n f v) .loaded).touch l).ctx n =
      { s.ctx n with state := .loaded, pointer := 0, delivery := some (startedDelivery s p n f v) } :=
    ctx_startOpened (p := p) (tag := tag)
  have hstep : (((startOpened s p tag n (startedDelivery s p n f v) .loaded).touch l).ctx n).identStep = (t, v) := by
    rw [hctx]
    exact identStep_of_step (f := f) (by simp only [hs]; rfl)
  have hline : (((startOpened s p tag n (startedDelivery s p n f v) .loaded).touch l).line l).content =
      .held st k r := (congrArg CacheLine.content (line_of_table htable l)).trans hc
  have hconfig : ((startOpened s p tag n (startedDelivery s p n f v) .loaded).touch l).config = s.config :=
    startOpened_config (p := p) (tag := tag) (n := n) (d := startedDelivery s p n f v) (x := .loaded)
  have hdel : (((startOpened s p tag n (startedDelivery s p n f v) .loaded).touch l).ctx n).delivery =
      some (startedDelivery s p n f v) := by rw [hctx]
  intro y tests
  refine ⟨fun why hwhy => ?_, fun hpass => ?_⟩
  · rw [exec_start_runs tag h hi ho hst hroom hs, runFrom_ident_failed hgiven]
    exact identTest_refused hline hstep (by rw [hconfig]; exact hwhy)
  · rw [exec_start_runs tag h hi ho hst hroom hs, runFrom_ident_passed hgiven]
    exact identTest_passed hline hstep hdel (by rw [hconfig]; exact hpass)

end

end

/-- Settles O40: the search for a ticket by `findTicket_free`; the START itself by what its IDENT step's request for the
record is answered, `exec_start_refused`, `exec_start_waits` and `exec_start_held`. -/
theorem startOpensDelivery : Obligations.StartOpensDelivery := by
  unfold Obligations.StartOpensDelivery
  refine ⟨fun s h1 h2 => ?_, fun p tag n s hacc hrole howner => ?_⟩
  · have hfree (k : Nat) : s.ticketOpen k = false ↔
        (∀ n, (s.ctx n).state ≠ .free → (s.ctx n).state ≠ .loaded → (s.delivery n).ticket ≠ k)
          ∧ ∀ i x, s.slot i = .holding x → x.delivery.ticket ≠ k := by
      rw [← Bool.not_eq_true, ticketOpen_iff_held]
      simp only [isOpen_iff, not_or, not_exists, not_and, and_imp, ne_eq]
    obtain ⟨hopen, hlow, hhigh, hown⟩ := findTicket_free s h1 h2
    exact ⟨(hfree _).1 hopen, hlow, hhigh, fun hc => hown ((hfree _).2 hc)⟩
  · refine ⟨fun hst => ?_, fun hst hfull => ?_, fun f t v rest hst hroom hs => ?_⟩
    · have hn : (s.idleAssembler p).startNozzle p tag n = _ := if_neg hst
      rw [exec_start tag hacc hrole howner, hn, reply_idleAssembler hacc.2.1]
    · have hn : (s.idleAssembler p).startNozzle p tag n = _ := (if_pos hst).trans (if_pos (decide_eq_true hfull))
      rw [exec_start tag hacc hrole howner, hn, reply_idleAssembler hacc.2.1]
    · intro ticket reserved told d opened takes
      have hopened (x : NozzleState) : opened x = startOpened s p tag n (startedDelivery s p n f v) x := rfl
      have htable : (startOpened s p tag n (startedDelivery s p n f v) .loaded).table = s.table := startOpened_table
      have hrefused (w : RecordRefusal) := exec_start_refused tag (w := w) hacc hrole howner hst hroom hs
      have hwaits := exec_start_waits tag hacc hrole howner hst hroom hs
      simp only [takes, hopened]
      refine ⟨fun hnone => ?_, fun e he => ⟨fun hd => ?_, fun hd => ⟨fun hl hf => ?_, fun l hl hf hfree => ?_,
        fun hl hf hfree => ?_, fun l k hl hc => ?_, fun l st k r hl hc => ?_⟩⟩⟩
      · exact hrefused .notEnrolled (requestRecord_unenrolled _ ((enrolled_of_table htable).trans hnone))
      all_goals have he' := (enrolled_of_table (f := f) htable).trans he
      · exact hrefused .damaged (requestRecord_damaged _ he' hd)
      all_goals have hl' := (lineFor_of_table (f := f) htable).trans hl
      · exact hrefused .storeFault (requestRecord_faulted _ he' hd hl' (by rw [htable, hf]))
      · exact hwaits (fun t => { t with
            lines := t.lines.write l { content := .fetching f e.slot, pinned := false, writeQueued := false,
                                       waiters := [.ident n] },
            queue := t.queue ++ [.fetch l e.slot false] })
          (requestRecord_fetch _ he' hd hl' (by rw [htable, hf]) ((freeLine_of_table htable).trans hfree))
      · exact hwaits _ (requestRecord_wait _ he' hd hl' (by rw [htable, hf]) ((freeLine_of_table htable).trans hfree))
      · exact hwaits (fun t => { t with
            lines := t.lines.write l { t.lines.read l with waiters := (t.lines.read l).waiters ++ [.ident n] } })
          (requestRecord_fetching _ he' hd hl' (by rw [line_of_table htable, hc]))
      · exact exec_start_held tag hacc hrole howner hst hroom hs he hd hl hc

end Sys2Proof.Proofs

namespace Sys2Proof.Proofs
open Sys2Proof Sys2Proof.Machine

/-! ### Requests that ask for a machine's record (R8, R169) -/

/-- A request command that is taken at its port and asks for a machine's record. -/
structure Asks (s : State) (p : Port) (tag : Byte) (f : Nat) (c : Instr) (q : WaitingRequest) : Prop where
  permits : s.permits p q.code none = true
  notEnrol : ∀ x, q ≠ .enrol x
  notRebuild : ∀ x, q ≠ .rebuild x
  exec : exec c s = s.event fun x => x.admission p q.code tag none fun y => y.askInHand p tag f q

section
variable (s : State) (p : Port) (tag : Byte) (f : Nat)

theorem asks_machineRead : Asks s p tag f (.machineRead p tag f) (.machineRead f) :=
  ⟨permits_all rfl, fun _ => nofun, fun _ => nofun, rfl⟩

theorem asks_hours (hr : s.role p = .fleet) {x : Nat} (hx : x ≤ 999999) : Asks s p tag f (.hours p tag f x) (.hours f x) := by
  refine ⟨permits_fleet hr rfl, fun _ => nofun, fun _ => nofun, congrArg s.event (funext fun y => ?_)⟩
  simp only [State.reqHours, readingOk, hx, decide_true, if_true, WaitingRequest.code]

section
variable {s p} (hr : s.role p = .workshop)
include hr

theorem asks_machineSet {q : MachinePatch} (hq : machinePatchOk q = true) :
    Asks s p tag f (.machineSet p tag f q) (.machineSet f q) := by
  refine ⟨permits_workshop hr rfl, fun _ => nofun, fun _ => nofun, congrArg s.event (funext fun y => ?_)⟩
  simp only [State.reqMachineSet, hq, if_true, WaitingRequest.code]

theorem asks_standDown : Asks s p tag f (.standDown p tag f) (.standDown f) :=
  ⟨permits_workshop hr rfl, fun _ => nofun, fun _ => nofun, rfl⟩

theorem asks_returnMachine : Asks s p tag f (.returnMachine p tag f) (.returnMachine f) :=
  ⟨permits_workshop hr rfl, fun _ => nofun, fun _ => nofun, rfl⟩

theorem asks_setLine {x : LineFields} (hx : (setLineOf x).isSome = true) :
    Asks s p tag f (.setLine p tag f x) (.setLine f x) := by
  refine ⟨permits_workshop hr rfl, fun _ => nofun, fun _ => nofun, congrArg s.event (funext fun y => ?_)⟩
  simp only [State.reqSetLine, hx, if_true, WaitingRequest.code]

theorem asks_setLineRemove {k : Nat} (hk : 1 ≤ k ∧ k ≤ 4) : Asks s p tag f (.setLineRemove p tag f k) (.setLineRemove f k) := by
  refine ⟨permits_workshop hr rfl, fun _ => nofun, fun _ => nofun, congrArg s.event (funext fun y => ?_)⟩
  simp only [State.reqSetLineRemove, lineNumberOk, hk, and_self, decide_true, if_true, WaitingRequest.code]

theorem asks_serviceDone {k x : Nat} (hk : 1 ≤ k ∧ k ≤ 4) (hx : x ≤ maxWord) :
    Asks s p tag f (.serviceDone p tag f k x) (.serviceDone f k x) := by
  refine ⟨permits_workshop hr rfl, fun _ => nofun, fun _ => nofun, congrArg s.event (funext fun y => ?_)⟩
  simp only [State.reqServiceDone, lineNumberOk, hk, hx, and_self, decide_true, Bool.and_self, if_true, WaitingRequest.code]

theorem asks_waiver {k x : Nat} (hk : 1 ≤ k ∧ k ≤ 4) (hx : x ≤ maxWord) :
    Asks s p tag f (.waiver p tag f k x) (.waiver f k x) := by
  refine ⟨permits_workshop hr rfl, fun _ => nofun, fun _ => nofun, congrArg s.event (funext fun y => ?_)⟩
  simp only [State.reqWaiver, lineNumberOk, hk, hx, and_self, decide_true, Bool.and_self, if_true, WaitingRequest.code]

theorem asks_meterChange {x y : Nat} (hx : x ≤ 999999) (hy : y ≤ 999999) :
    Asks s p tag f (.meterChange p tag f x y) (.meterChange f x y) := by
  refine ⟨permits_workshop hr rfl, fun _ => nofun, fun _ => nofun, congrArg s.event (funext fun z => ?_)⟩
  simp only [State.reqMeterChange, readingOk, hx, hy, decide_true, Bool.and_self, if_true, WaitingRequest.code]

end

end

section
variable {s : State} {p : Port} {tag : Byte} {f : Nat} {c : Instr} {q : WaitingRequest}

theorem Asks.exec_eq (ha : Asks s p tag f c q) (h : s.Accepts p) :
    Machine.exec c s = .next ((s.kept p tag q).askFor p f).startStore := by
  rw [ha.exec, event_accepts h ha.permits]
  · rw [State.askInHand, takeInHand_idleAssembler]
  · rw [State.askInHand, takeInHand_idleAssembler, ((Within.refl (fed := True) _).askFor p f).startUp]
    exact h.1.2

section
variable {x y : State}

theorem askFor_refused {w : RecordRefusal} (h : x.requestRecord f (.port p) = (y, .refused w)) :
    x.askFor p f = y.answer p w.status .nothing := by simp only [State.askFor, h, State.refuse]

theorem askFor_waits (h : x.requestRecord f (.port p) = (y, .waits)) : x.askFor p f = y := by
  simp only [State.askFor, h]

theorem askFor_given {l : LineId} (h : x.requestRecord f (.port p) = (y, .given l)) : x.askFor p f = y.serve p l := by
  simp only [State.askFor, h]

/-- R9: a request that is no ENROL or REBUILD is dealt with as it would be if it came then. -/
theorem dealWith_port {q : WaitingRequest} (hq : x.requestInHand p = some q) (he : ∀ z, q ≠ .enrol z)
    (hr : ∀ z, q ≠ .rebuild z) : x.dealWith f (.port p) = x.askFor p f := by
  simp only [State.dealWith, hq]

theorem dealWith_ident_waits {n : NozzleId} (h : x.requestRecord f (.ident n) = (y, .waits)) :
    x.dealWith f (.ident n) = y := by simp only [State.dealWith, h]

theorem dealWith_rebuild {z : RebuildFields} (hq : x.requestInHand p = some (.rebuild z)) :
    x.dealWith f (.port p) = x.tryRebuild p z := by simp only [State.dealWith, hq]

end

theorem requestInHand_kept : (s.kept p tag q).requestInHand p = some q := by
  simp only [State.requestInHand, inHand_kept]

theorem Asks.dealWith (ha : Asks s p tag f c q) : (s.kept p tag q).dealWith f (.port p) = (s.kept p tag q).askFor p f :=
  dealWith_port requestInHand_kept ha.notEnrol ha.notRebuild

end

end Sys2Proof.Proofs

namespace Sys2Proof.Proofs
open Sys2Proof Sys2Proof.Machine

/-! ### The machine table unit's look-ups (R2, R7, R8, R9) -/

section
variable {s : State}

theorem content_fleet_iff (x : LineContent) (f : Nat) :
    x.fleet = some f ↔ (∃ i, x = .fetching f i) ∨ ∃ st i r, x = .held st i r ∧ r.fleet = f := by
  cases x with
  | empty => simp [LineContent.fleet]
  | fetching g i => simp [LineContent.fleet]
  | held st i r => simp [LineContent.fleet]

/-- R8: the line of a machine is the first that fetches or holds its record. -/
theorem lineFor_eq_some_iff (f : Nat) (l : LineId) : s.lineFor f = some l ↔
    (s.line l).content.fleet = some f ∧ ∀ j, j < l → (s.line j).content.fleet ≠ some f := by
  rw [State.lineFor, find?_eq_some_of_sorted allLines_sorted mem_allLines]
  simp

theorem lineFor_eq_none_iff (f : Nat) : s.lineFor f = none ↔ ∀ j, (s.line j).content.fleet ≠ some f := by
  simp [State.lineFor, List.find?_eq_none, mem_allLines]

theorem enrolled_eq_some_iff (f : Nat) (e : IndexEntry) : s.enrolled f = some e ↔
    s.table.index.find? (fun x => decide (x.fleet = f)) = some e ∧ s.table.slots.read e.slot ≠ .erasing := by
  unfold State.enrolled State.entry State.slotState
  cases s.table.index.find? (fun x => decide (x.fleet = f)) with
  | none => simp
  | some y =>
    simp only [Option.some.injEq]
    split
    · next hy => exact ⟨nofun, fun ⟨h, hn⟩ => absurd (h ▸ hy) hn⟩
    · next hy => exact ⟨fun h => by cases h; exact ⟨rfl, hy⟩, fun ⟨h, _⟩ => congrArg some h⟩

/-- R9: a number not on the line wait list joins it at the end. -/
theorem joinWait_new {f : Nat} (who : Requester) {l : List (Nat × List Requester)} (h : ∀ x ∈ l, x.1 ≠ f) :
    joinWait f who l = l ++ [(f, [who])] := by
  induction l with
  | nil => rfl
  | cons x l ih =>
    rw [joinWait, if_neg (h x List.mem_cons_self), ih fun y hy => h y (List.mem_cons_of_mem _ hy)]
    rfl

/-- R9: a number on the line wait list stands there once, its requesters in order of arrival. -/
theorem joinWait_again {f : Nat} (who : Requester) (ws : List Requester) {before : List (Nat × List Requester)}
    (after : List (Nat × List Requester)) (h : ∀ x ∈ before, x.1 ≠ f) :
    joinWait f who (before ++ (f, ws) :: after) = before ++ (f, ws ++ [who]) :: after := by
  induction before with
  | nil => exact if_pos rfl
  | cons x l ih =>
    rw [List.cons_append, joinWait, if_neg (h x List.mem_cons_self), ih fun y hy => h y (List.mem_cons_of_mem _ hy)]
    rfl

theorem waitForLine_eq {f : Nat} {who : Requester} {l : List (Nat × List Requester)}
    (h : joinWait f who s.table.lineWait = l) :
    s.waitForLine f who = { s with table := { s.table with lineWait := l } } := by
  simp only [State.waitForLine, State.modTable, h]

/-- R9: the line to take. -/
theorem freeLine_eq_some_iff (l : LineId) : s.freeLine = some l ↔
    ((s.line l).content = .empty ∧ ∀ j, j < l → (s.line j).content ≠ .empty)
    ∨ (∀ j, (s.line j).content ≠ .empty)
      ∧ s.table.useOrder.reverse.find? (fun l => (s.line l).replaceable) = some l := by
  unfold State.freeLine
  cases hfind : allLines.find? (fun l => decide ((s.line l).content = .empty)) with
  | some k =>
    have hfirst (j : LineId) : some k = some j ↔ (s.line j).content = .empty ∧ ∀ i, i < j → (s.line i).content ≠ .empty := by
      rw [← hfind, find?_eq_some_of_sorted allLines_sorted mem_allLines]
      simp
    exact (hfirst l).trans ⟨.inl, fun h => h.resolve_right fun ⟨hn, _⟩ => hn k ((hfirst k).1 rfl).1⟩
  | none =>
    have hnone : ∀ j, (s.line j).content ≠ .empty := by
      simpa [List.find?_eq_none, mem_allLines] using hfind
    exact ⟨fun h => .inr ⟨hnone, h⟩, fun h => (h.resolve_left fun ⟨he, _⟩ => hnone l he).2⟩

/-! ### The line wait list (R9) -/

theorem lineFreed_of_no_line (h : s.table.lineWait = [] ∨ s.freeLine = none) : s.lineFreed = s := by
  rcases h with h | h
  · exact lineFreed_of_nil h
  · unfold State.lineFreed
    cases hw : s.table.lineWait with
    | nil => rfl
    | cons x xs => simp only [List.length_cons, serviceLines, hw, h]

/-- R9: the number at the head of the line wait list is served, then the others. -/
theorem lineFreed_of_cons {f : Nat} {ws : List Requester} {rest : List (Nat × List Requester)} {l : LineId} {y : State}
    (hw : s.table.lineWait = (f, ws) :: rest) (hfree : s.freeLine = some l)
    (hy : (s.rebuildFirst ws).foldl (State.dealWith f) (s.popWait f) = y) (hrest : y.table.lineWait = rest) :
    s.lineFreed = y.lineFreed := by
  unfold State.lineFreed
  rw [hw, List.length_cons, serviceLines, hw, hfree, hrest]
  simp only [hy]

/-- R9: the head of the line wait list gone. -/
theorem popWait_head {f : Nat} {ws : List Requester} {rest : List (Nat × List Requester)}
    (hw : s.table.lineWait = (f, ws) :: rest) (hrest : ∀ x ∈ rest, x.1 ≠ f) :
    s.popWait f = { s with table := { s.table with lineWait := rest } } := by
  have hfilter : s.table.lineWait.filter (fun x => !decide (x.1 = f)) = rest := by
    rw [hw, List.filter_cons_of_neg (by simp), List.filter_eq_self.2 fun x hx => by simp [hrest x hx]]
  simp only [State.popWait, State.modTable, hfilter]

/-- R9: with no REBUILD among them requesters keep their order. -/
theorem rebuildFirst_of_none {ws : List Requester} (h : ∀ w ∈ ws, s.isRebuild w = false) : s.rebuildFirst ws = ws := by
  have hfind : ws.find? s.isRebuild = none := List.find?_eq_none.2 fun w hw => by simp [h w hw]
  simp only [State.rebuildFirst, hfind]

theorem rebuildFirst_singleton (w : Requester) : s.rebuildFirst [w] = [w] := by
  unfold State.rebuildFirst
  cases hfind : [w].find? s.isRebuild with
  | none => rfl
  | some v =>
    have hv := List.mem_of_find?_eq_some hfind
    rw [List.mem_singleton.1 hv]
    simp

theorem isRebuild_of_other {p : Port} {q : WaitingRequest} (hq : s.requestInHand p = some q) (h : ∀ x, q ≠ .rebuild x) :
    s.isRebuild (.port p) = false := by
  cases q with
  | rebuild x => exact absurd rfl (h x)
  | _ => simp only [State.isRebuild, hq]

/-- A requester dealt with as one that asks for its machine's record: an IDENT step, or a request other than ENROL and
REBUILD. -/
def AsksOnly (s : State) (who : Requester) : Prop :=
  ∀ p, who = .port p → ∃ q, s.requestInHand p = some q ∧ (∀ x, q ≠ .enrol x) ∧ ∀ x, q ≠ .rebuild x

theorem dealWith_waits {f : Nat} {who : Requester} {y : State} (ha : AsksOnly s who)
    (h : s.requestRecord f who = (y, .waits)) : s.dealWith f who = y := by
  cases who with
  | ident n => exact dealWith_ident_waits h
  | port p =>
    obtain ⟨q, hq, he, hr⟩ := ha p rfl
    rw [dealWith_port hq he hr, askFor_waits h]

theorem AsksOnly.isRebuild {who : Requester} (ha : AsksOnly s who) : s.isRebuild who = false := by
  cases who with
  | ident n => rfl
  | port p =>
    obtain ⟨q, hq, -, hr⟩ := ha p rfl
    exact isRebuild_of_other hq hr

/-- R8, R9: the number at the head of the line wait list has a line that fetches its record. -/
def fetchBegun (s : State) (rest : List (Nat × List Requester)) (l : LineId) (f : Nat) (k : SlotId)
    (ws : List Requester) : State := { s with table := { s.table with
  lineWait := rest, queue := s.table.queue ++ [.fetch l k false],
  lines := s.table.lines.write l { content := .fetching f k, pinned := false, writeQueued := false, waiters := ws } } }

section
variable {f : Nat} {rest : List (Nat × List Requester)} {l : LineId} {e : IndexEntry} (he : s.enrolled f = some e)
  (hd : e.damaged = false) (hl : s.lineFor f = none)
include he hd hl

/-- R8: one more requester behind the fetch. -/
theorem dealWith_fetchBegun {ws : List Requester} {who : Requester} (ha : AsksOnly s who) :
    (fetchBegun s rest l f e.slot ws).dealWith f who = fetchBegun s rest l f e.slot (ws ++ [who]) := by
  have hline : (fetchBegun s rest l f e.slot ws).line l =
      { content := .fetching f e.slot, pinned := false, writeQueued := false, waiters := ws } := by
    simp only [State.line, fetchBegun, read_write, if_true]
  have hother (j : LineId) (hj : j < l) : (fetchBegun s rest l f e.slot ws).line j = s.line j := by
    simp only [State.line, fetchBegun, read_write, hj.ne, if_false]
  have hfor : (fetchBegun s rest l f e.slot ws).lineFor f = some l := by
    rw [lineFor_eq_some_iff, hline]
    refine ⟨rfl, fun j hj => ?_⟩
    rw [hother j hj]
    exact (lineFor_eq_none_iff f).1 hl j
  have hask := requestRecord_fetching (s := fetchBegun s rest l f e.slot ws) (g := f) (k := e.slot) who he hd hfor
    (by rw [hline])
  rw [dealWith_waits (s := fetchBegun s rest l f e.slot ws) ha hask]
  simp only [State.modLine, hline]
  simp only [fetchBegun, write_write]

theorem dealWith_fetchBegun_foldl {ws more : List Requester} (ha : ∀ who ∈ more, AsksOnly s who) :
    more.foldl (State.dealWith f) (fetchBegun s rest l f e.slot ws) = fetchBegun s rest l f e.slot (ws ++ more) := by
  induction more generalizing ws with
  | nil => rw [List.foldl_nil, List.append_nil]
  | cons w more ih =>
    rw [List.foldl_cons, dealWith_fetchBegun he hd hl (ha w List.mem_cons_self),
      ih fun x hx => ha x (List.mem_cons_of_mem _ hx), List.append_assoc, List.singleton_append]

/-- R9: the number at the head takes the line, FETCHING with its requesters in their order. -/
theorem lineFreed_fetch {ws : List Requester} (hw : s.table.lineWait = (f, ws) :: rest) (hrest : ∀ x ∈ rest, x.1 ≠ f)
    (hfree : s.freeLine = some l) (hf : s.table.faulted = false) (hne : ws ≠ []) (ha : ∀ who ∈ ws, AsksOnly s who) :
    s.lineFreed = (fetchBegun s rest l f e.slot ws).lineFreed := by
  refine lineFreed_of_cons hw hfree ?_ rfl
  rw [rebuildFirst_of_none fun w hw => (ha w hw).isRebuild, popWait_head hw hrest]
  cases ws with
  | nil => exact absurd rfl hne
  | cons w ws =>
    have hfirst : State.dealWith f { s with table := { s.table with lineWait := rest } } w =
        fetchBegun s rest l f e.slot [w] := by
      refine dealWith_waits (ha w List.mem_cons_self) ?_
      rw [requestRecord_fetch (s := { s with table := { s.table with lineWait := rest } }) w he hd hl hf hfree]
      rfl
    rw [List.foldl_cons, hfirst, dealWith_fetchBegun_foldl he hd hl fun x hx => ha x (List.mem_cons_of_mem _ hx)]
    rfl

end

/-! ### REBUILD tested (R21) -/

section
variable (p : Port) {x : RebuildFields} {e : IndexEntry}

theorem tryRebuild_unenrolled (h : s.enrolled x.fleet = none) : s.tryRebuild p x = s.answer p .noSuchMachine .nothing := by
  simp only [State.tryRebuild, h]

section
variable (he : s.enrolled x.fleet = some e)
include he

theorem tryRebuild_badField (hx : rebuildOk x = false) : s.tryRebuild p x = s.answer p .badField .nothing := by
  simp only [State.tryRebuild, he, hx, Bool.not_false, if_true]

section
variable (hx : rebuildOk x = true)
include hx

theorem tryRebuild_faulted (hf : s.table.faulted = true) : s.tryRebuild p x = s.answer p .storeFault .nothing := by
  simp only [State.tryRebuild, he, hx, hf, Bool.not_true, Bool.false_eq_true, if_false, if_true]

section
variable (hf : s.table.faulted = false)
include hf

theorem tryRebuild_busy {l : LineId} {st : HeldState} {k : SlotId} {r : MachineRecord} (hl : s.lineFor x.fleet = some l)
    (hc : (s.line l).content = .held st k r) (hr : r.openTicket.isSome = true) :
    s.tryRebuild p x = s.answer p .machineBusy .nothing := by
  simp only [State.tryRebuild, he, hx, hf, hl, hc, hr, Bool.not_true, Bool.false_eq_true, if_false, if_true]

theorem tryRebuild_held {l : LineId} {st : HeldState} {k : SlotId} {r : MachineRecord} (hl : s.lineFor x.fleet = some l)
    (hc : (s.line l).content = .held st k r) (hr : r.openTicket = none) :
    s.tryRebuild p x = s.rebuildInto p l e.slot x (some r) := by
  simp only [State.tryRebuild, he, hx, hf, hl, hc, hr, Bool.not_true, Bool.false_eq_true, if_false, Option.isSome_none]

theorem tryRebuild_fetching {l : LineId} {g : Nat} {k : SlotId} (hl : s.lineFor x.fleet = some l)
    (hc : (s.line l).content = .fetching g k) :
    s.tryRebuild p x = s.modLine l fun y => { y with waiters := y.waiters ++ [.port p] } := by
  simp only [State.tryRebuild, he, hx, hf, hl, hc, Bool.not_true, Bool.false_eq_true, if_false]

theorem tryRebuild_free {l : LineId} (hl : s.lineFor x.fleet = none) (hfree : s.freeLine = some l) :
    s.tryRebuild p x = (s.emptyOut l).rebuildInto p l e.slot x none := by
  simp only [State.tryRebuild, he, hx, hf, hl, hfree, Bool.not_true, Bool.false_eq_true, if_false]

theorem tryRebuild_wait (hl : s.lineFor x.fleet = none) (hfree : s.freeLine = none) :
    s.tryRebuild p x = s.waitForLine x.fleet (.port p) := by
  simp only [State.tryRebuild, he, hx, hf, hl, hfree, Bool.not_true, Bool.false_eq_true, if_false]

end

end

end

end

/-! ### What a record put into its line, and its notices, leave alone -/

theorem putRecord_frame (l : LineId) (k : SlotId) (r : MachineRecord) :
    s.putRecord l k r = { s with table := { s.table with
      lines := (s.putRecord l k r).table.lines, queue := (s.putRecord l k r).table.queue,
      useOrder := (s.putRecord l k r).table.useOrder } } := by
  simp only [State.putRecord]
  split <;> rfl

theorem line_enterNotice (n : Notice) (x : PortState) : (enterNotice n x).line = x.line := by
  unfold enterNotice
  split
  · rfl
  · split <;> rfl

theorem port_postWhere_frame (s : State) (d : Port → Bool) (b : NoticeBody) (q : Port) :
    ((s.postWhere d b).port q).inHand = (s.port q).inHand ∧ ((s.postWhere d b).port q).line = (s.port q).line := by
  rw [State.port_postWhere]
  split
  · exact ⟨inHand_enterNotice .., line_enterNotice ..⟩
  · exact ⟨rfl, rfl⟩

theorem postOffices_frame (bs : List NoticeBody) (s : State) :
    s.postOffices bs = { s with ports := (s.postOffices bs).ports }
      ∧ ∀ q, ((s.postOffices bs).port q).inHand = (s.port q).inHand
        ∧ ((s.postOffices bs).port q).line = (s.port q).line := by
  induction bs generalizing s with
  | nil => exact ⟨rfl, fun q => ⟨rfl, rfl⟩⟩
  | cons b bs ih =>
    obtain ⟨hrest, hports⟩ := ih (s.postOffice b)
    refine ⟨hrest, fun q => ?_⟩
    obtain ⟨hhand, hline⟩ := port_postWhere_frame s (fun q => decide (s.role q = .workshop) || decide (s.role q = .fleet)) b q
    exact ⟨(hports q).1.trans hhand, (hports q).2.trans hline⟩

/-- R9, R21: a REBUILD at the head, waiting alone, takes the line and fills it. -/
theorem lineFreed_rebuild {f : Nat} {p : Port} {tag : Byte} {x : RebuildFields} {rest : List (Nat × List Requester)}
    {l : LineId} {e : IndexEntry} (he : s.enrolled f = some e) (hl : s.lineFor f = none)
    (hw : s.table.lineWait = (f, [.port p]) :: rest) (hrest : ∀ x ∈ rest, x.1 ≠ f) (hfree : s.freeLine = some l)
    (hf : s.table.faulted = false) (hh : (s.port p).inHand = some { tag := tag, request := .rebuild x })
    (hx : x.fleet = f) (hok : rebuildOk x = true) :
    let r := monitored (fun _ => true) (rebuiltRecord s.clock.shift x)
    let good : State := { s with table := { s.table with
      lineWait := rest, index := s.table.index.map fun y => if y.fleet = f then { y with damaged := false } else y } }
    s.lineFreed = ((((good.emptyOut l).putRecord l e.slot r).postOffices (serviceNotes [] false r .rebuild)).modPort p
      fun y => { y with inHand := none, line := y.line ++ [answerTo .rebuild tag .ok .nothing] }).lineFreed := by
  subst hx
  intro r good
  have hpop := popWait_head hw hrest
  have hdeal : State.dealWith x.fleet (s.popWait x.fleet) (.port p) =
      (((good.emptyOut l).putRecord l e.slot r).postOffices (serviceNotes [] false r .rebuild)).answer p .ok .nothing := by
    rw [hpop, dealWith_rebuild (z := x)]
    · exact tryRebuild_free (s := { s with table := { s.table with lineWait := rest } }) p he hok hf hl hfree
    · simp only [State.requestInHand, State.port] at hh ⊢
      rw [hh]
  obtain ⟨hoff, hports⟩ := postOffices_frame (serviceNotes [] false r .rebuild) ((good.emptyOut l).putRecord l e.slot r)
  have hput := putRecord_frame (s := good.emptyOut l) l e.slot r
  have hhand : ((((good.emptyOut l).putRecord l e.slot r).postOffices (serviceNotes [] false r .rebuild)).port p).inHand =
      some { tag := tag, request := .rebuild x } := by
    rw [(hports p).1, hput]
    exact hh
  rw [answer_of_inHand hhand] at hdeal
  refine lineFreed_of_cons hw hfree ?_ ?_
  · rw [rebuildFirst_singleton, List.foldl_cons, hdeal, List.foldl_nil]
    rfl
  · rw [hoff, hput]
    rfl

end

end Sys2Proof.Proofs

namespace Sys2Proof.Proofs
open Sys2Proof Sys2Proof.Machine

/-- R9: a CLEAN line. -/
def cleanLine (x : LineContent) : Bool :=
  match x with
  | .held .clean _ _ => true
  | _ => false

/-- Settles O48: the look-ups by the laws of `lineFor`, `enrolled`, `joinWait` and `freeLine`; each request's command by
`Asks.exec_eq` and what `requestRecord` answers; the line wait list by `lineFreed_fetch` and `lineFreed_rebuild`. -/
theorem recordRequestsWaitForTheirRecord : Obligations.RecordRequestsWaitForTheirRecord := by
  unfold Obligations.RecordRequestsWaitForTheirRecord
  refine ⟨fun f l k e who ws s => ?_, fun p tag f c code q s hacc hreq => ?_, fun s l => ?_,
    fun s h => lineFreed_of_no_line h, fun s f ws rest l e hw hrest hfree he hl hf => ⟨fun hd hne ha => ?_,
      fun p tag x hws hh hx hok => ?_⟩⟩
  · intro holds
    have hholds (j : LineId) : (s.line j).content.fleet = some f ↔ holds j := content_fleet_iff ..
    refine ⟨?_, enrolled_eq_some_iff f e, rfl, fun h => waitForLine_eq (joinWait_new who h), fun before after hw h => ?_⟩
    · simp only [lineFor_eq_some_iff, hholds, ne_eq]
    · exact waitForLine_eq (hw ▸ joinWait_again who ws after h)
  · have hasks : q.code = code ∧ Asks s p tag f c q := by
      rcases hreq with ⟨rfl, rfl, rfl⟩ | ⟨hr, rfl, x, hx, rfl, rfl⟩ | ⟨hr, hreq⟩
      · exact ⟨rfl, asks_machineRead ..⟩
      · exact ⟨rfl, asks_hours s p tag f hr hx⟩
      · rcases hreq with ⟨rfl, x, hx, rfl, rfl⟩ | ⟨rfl, rfl, rfl⟩ | ⟨rfl, rfl, rfl⟩ | ⟨rfl, x, hx, rfl, rfl⟩ |
          ⟨rfl, k, h1, h2, rfl, rfl⟩ | ⟨rfl, k, x, h1, h2, hx, rfl, rfl⟩ | ⟨rfl, k, x, h1, h2, hx, rfl, rfl⟩ |
          ⟨rfl, x, y, hx, hy, rfl, rfl⟩
        · exact ⟨rfl, asks_machineSet tag f hr hx⟩
        · exact ⟨rfl, asks_standDown tag f hr⟩
        · exact ⟨rfl, asks_returnMachine tag f hr⟩
        · exact ⟨rfl, asks_setLine tag f hr hx⟩
        · exact ⟨rfl, asks_setLineRemove tag f hr ⟨h1, h2⟩⟩
        · exact ⟨rfl, asks_serviceDone tag f hr ⟨h1, h2⟩ hx⟩
        · exact ⟨rfl, asks_waiver tag f hr ⟨h1, h2⟩ hx⟩
        · exact ⟨rfl, asks_meterChange tag f hr hx hy⟩
    obtain ⟨rfl, hasks⟩ := hasks
    have hexec := hasks.exec_eq hacc
    have hrefused (w : RecordRefusal) (h : (s.kept p tag q).requestRecord f (.port p) = (s.kept p tag q, .refused w)) :
        exec c s = .next (s.answered p q.code tag w.status .nothing).startStore := by
      rw [hexec, askFor_refused h, answer_kept hacc.2.1 hacc.2.2]
    have hwaits {y : State} (h : (s.kept p tag q).requestRecord f (.port p) = (y, .waits)) :
        exec c s = .next y.startStore := by rw [hexec, askFor_waits h]
    refine ⟨hexec.trans (by rw [hasks.dealWith]),
      fun he => hrefused .notEnrolled (requestRecord_unenrolled (s := s.kept p tag q) _ he), fun e he =>
      ⟨fun hd => hrefused .damaged (requestRecord_damaged (s := s.kept p tag q) _ he hd), fun hd =>
        ⟨fun l k hl hc => ?_, fun hl hf => ?_, fun l hl hf hfree => ?_, fun hl hf hfree => ?_⟩⟩⟩
    · exact hwaits (requestRecord_fetching (s := s.kept p tag q) _ he hd hl hc)
    · exact hrefused .storeFault (requestRecord_faulted (s := s.kept p tag q) _ he hd hl hf)
    · exact hwaits (requestRecord_fetch (s := s.kept p tag q) _ he hd hl hf hfree)
    · exact hwaits (requestRecord_wait (s := s.kept p tag q) _ he hd hl hf hfree)
  · rw [freeLine_eq_some_iff]
    have hclean : (fun l => (s.line l).replaceable) = fun j => !(s.line j).pinned && cleanLine (s.line j).content := by
      funext j
      cases hc : (s.line j).content with
      | held st k r => cases st <;> simp only [CacheLine.replaceable, cleanLine, hc]
      | _ => simp only [CacheLine.replaceable, cleanLine, hc]
    rw [hclean]
    rfl
  · refine (lineFreed_fetch he hd hl hw hrest hfree hf hne fun who hwho p hp => ?_).trans rfl
    exact ha p (hp ▸ hwho)
  · subst hws
    exact lineFreed_rebuild he hl hw hrest hfree hf hh hx hok

end Sys2Proof.Proofs

namespace Sys2Proof.Proofs
open Sys2Proof Sys2Proof.Machine

/-! ### Figures in their ranges -/

theorem isSome_fromOne_iff (k c : Nat) : (fromOne k c).isSome = true ↔ 1 ≤ c ∧ c ≤ k := by
  unfold fromOne
  split
  · exact iff_of_true rfl (by omega)
  · exact iff_of_false (by simp) (by omega)

theorem isSome_inRange_iff (lo hi v : Nat) : (inRange lo hi v).isSome = true ↔ lo ≤ v ∧ v ≤ hi := by
  unfold inRange
  split
  · next h => exact iff_of_true rfl h
  · next h => exact iff_of_false (by simp) h

/-- R19: a figure of a MACHINE_SET is tested when it is present. -/
theorem machinePatchOk_iff (q : MachinePatch) : machinePatchOk q = true ↔
    (∀ x, q.cls = some x → x ≤ 7) ∧ (∀ x, q.product = some x → 1 ≤ x ∧ x ≤ 4)
    ∧ (∀ x, q.capacity = some x → 1 ≤ x ∧ x ≤ 2500000) ∧ ∀ x, q.allowance = some x → x ≤ 2500000 := by
  obtain ⟨cls, product, capacity, tag, allowance⟩ := q
  simp only [machinePatchOk, Bool.and_eq_true, and_assoc]
  refine and_congr ?_ (and_congr ?_ (and_congr ?_ ?_))
  · cases cls <;> simp [Nat.lt_succ_iff]
  · cases product <;> simp [isSome_fromOne_iff]
  · cases capacity <;> simp [isSome_inRange_iff]
  · cases allowance <;> simp

/-! ### A record put into its line (R7, R11) -/

/-- R11: a WRITING line stays WRITING, any other is DIRTY. -/
def stateAfterPut (x : LineContent) : HeldState :=
  match x with
  | .held .writing _ _ => .writing
  | _ => .dirty

/-- R11: what a record put into its line comes to, by whether a WRITE of the line is queued already. -/
theorem putRecord_eq (s : State) (l : LineId) (k : SlotId) (r : MachineRecord) :
    s.putRecord l k r = { s with table := { s.table with
      lines := s.table.lines.write l
        { s.line l with content := .held (stateAfterPut (s.line l).content) k r, writeQueued := true },
      queue := if (s.line l).writeQueued then s.table.queue else s.table.queue ++ [.write l k],
      useOrder := l :: s.table.useOrder.filter (fun x => !decide (x = l)) } } := by
  have hput (st : HeldState) : (State.touch (if (s.line l).writeQueued then
        s.modLine l fun x => { x with content := .held st k r, writeQueued := true }
      else (s.modLine l fun x => { x with content := .held st k r, writeQueued := true }).enqueue (.write l k)) l) =
      { s with table := { s.table with
        lines := s.table.lines.write l { s.line l with content := .held st k r, writeQueued := true },
        queue := if (s.line l).writeQueued then s.table.queue else s.table.queue ++ [.write l k],
        useOrder := l :: s.table.useOrder.filter (fun x => !decide (x = l)) } } := by
    split <;> rfl
  rw [← hput]
  unfold State.putRecord
  cases (s.line l).content with
  | held st k' r' => cases st <;> rfl
  | _ => rfl

/-! ### A request whose record is in the cache (R8, R19, R20, R22) -/

section
variable {s : State} {p : Port} {tag : Byte} {f : Nat} {c : Instr} {q : WaitingRequest} {l : LineId} {st : HeldState}
  {k : SlotId} {r : MachineRecord}

theorem putRecord_kept (x : MachineRecord) :
    (s.kept p tag q).putRecord l k x = (s.putRecord l k x).kept p tag q := by
  rw [putRecord_eq, putRecord_eq]
  rfl

/-- R8: a request for a cached machine is given its record, the line used. -/
theorem Asks.exec_cached (ha : Asks s p tag f c q) (h : s.Accepts p) (hc : s.Cached f l st k r) :
    Machine.exec c s = .next (((s.touch l).kept p tag q).serve p l).startStore := by
  obtain ⟨he, hl, hline⟩ := hc
  obtain ⟨e, he, hd⟩ := Option.map_eq_some_iff.1 he
  have hgiven := requestRecord_held (s := s.kept p tag q) (.port p) he hd hl hline
  rw [ha.exec_eq h, askFor_given hgiven]
  rfl

/-- What is answered to a request whose line has been used, the record changed or not. -/
theorem answer_kept_touch (h : s.Accepts p) (status : Status) (g : Payload) :
    ((s.touch l).kept p tag q).answer p status g = (s.touch l).answered p q.code tag status g :=
  answer_kept (s := s.touch l) h.2.1 h.2.2 tag q status g

theorem port_putRecord (s : State) (l : LineId) (k : SlotId) (x : MachineRecord) : (s.putRecord l k x).ports = s.ports := by
  rw [putRecord_eq]

theorem answer_kept_put (h : s.Accepts p) (x : MachineRecord) (status : Status) (g : Payload) :
    (((s.touch l).putRecord l k x).kept p tag q).answer p status g =
      ((s.touch l).putRecord l k x).answered p q.code tag status g := by
  have hp : ((s.touch l).putRecord l k x).port p = s.port p := congrArg (Tab.read · p) (port_putRecord (s.touch l) l k x)
  exact answer_kept (by rw [hp]; exact h.2.1) (by rw [hp]; exact h.2.2) tag q status g

/-- R20: a machine already as asked is not changed. -/
theorem serveState_same (h : s.Accepts p) {down : Bool} (hd : r.stoodDown = down) :
    ((s.touch l).kept p tag q).serveState p l r down = (s.touch l).answered p q.code tag .ok .nothing :=
  (if_pos hd).trans (answer_kept_touch h ..)

section
variable (hline : ((s.touch l).line l).content = .held st k r)
include hline

theorem changeRecord_kept (g : MachineRecord → MachineRecord) : ((s.touch l).kept p tag q).changeRecord l g =
    ((s.touch l).putRecord l k (g (lazyReset s.clock.shift r))).kept p tag q := by
  rw [changeRecord_held (st := st) (k := k) (r := r), putRecord_kept]
  · rfl
  · exact hline

theorem line_kept_touch : (((s.touch l).kept p tag q).line l).content = .held st k r := hline

theorem serve_machineRead (h : s.Accepts p) : ((s.touch l).kept p tag (.machineRead f)).serve p l =
    (s.touch l).answered p .machineRead tag .ok (.machine k (lazyReset s.clock.shift r)) := by
  rw [State.serve, inHand_kept, line_kept_touch hline]
  exact answer_kept_touch h ..

theorem serve_machineSet_busy (h : s.Accepts p) {x : MachinePatch} (hp : (patchRecord x r).product ≠ r.product)
    (ht : r.openTicket.isSome = true) : ((s.touch l).kept p tag (.machineSet f x)).serve p l =
    (s.touch l).answered p .machineSet tag .machineBusy .nothing := by
  rw [State.serve, inHand_kept, line_kept_touch hline]
  exact (if_pos ⟨hp, ht⟩).trans (answer_kept_touch h ..)

theorem serve_machineSet (h : s.Accepts p) {x : MachinePatch}
    (hp : (patchRecord x r).product = r.product ∨ r.openTicket = none) :
    ((s.touch l).kept p tag (.machineSet f x)).serve p l =
      ((s.touch l).putRecord l k (patchRecord x (lazyReset s.clock.shift r))).answered p .machineSet tag .ok .nothing := by
  have hnot : ¬ ((patchRecord x r).product ≠ r.product ∧ r.openTicket.isSome = true) := fun ⟨hne, ht⟩ =>
    hp.elim hne fun hn => by rw [hn] at ht; cases ht
  rw [State.serve, inHand_kept, line_kept_touch hline]
  refine (if_neg hnot).trans ?_
  rw [changeRecord_kept hline, answer_kept_put h]
  rfl

theorem serveState_changed (h : s.Accepts p) {down : Bool} (hd : r.stoodDown ≠ down) :
    ((s.touch l).kept p tag q).serveState p l r down =
      ((s.touch l).putRecord l k { lazyReset s.clock.shift r with stoodDown := down }).answered p q.code tag .ok .nothing := by
  refine (if_neg hd).trans ?_
  rw [changeRecord_kept hline, answer_kept_put h]

theorem serve_standDown : ((s.touch l).kept p tag (.standDown f)).serve p l =
    ((s.touch l).kept p tag (.standDown f)).serveState p l r true := by
  rw [State.serve, inHand_kept, line_kept_touch hline]

theorem serve_returnMachine : ((s.touch l).kept p tag (.returnMachine f)).serve p l =
    ((s.touch l).kept p tag (.returnMachine f)).serveState p l r false := by
  rw [State.serve, inHand_kept, line_kept_touch hline]

end

end

/-- A request taken by its block and answered at once. -/
theorem exec_replied {s : State} {p : Port} {tag : Byte} {c : Instr} {code : ReqCode} (h : s.Accepts p)
    (hp : s.permits p code none = true) (status : Status) (g : Payload)
    (he : exec c s = s.event fun x => x.admission p code tag none fun y => y.reply p code tag status g) :
    exec c s = .next (s.answered p code tag status g).startStore := by
  rw [he, event_accepts h hp, reply_idleAssembler h.2.1]
  exact h.1.2

/-- Settles O49: the write-back is `putRecord_eq`; each request is given its record by `Asks.exec_cached`, and what it
makes of it is the law of its `serve`. -/
theorem cachedMachineRequests : Obligations.CachedMachineRequests := by
  unfold Obligations.CachedMachineRequests
  refine ⟨fun l k r s => ?_, fun p tag f l st k r s h hc => ?_⟩
  · intro used line behind
    refine ⟨rfl, fun j x hx hq => ?_, fun j x hx hq => ?_, fun j x hx => ?_⟩
    · rw [putRecord_eq, hx, hq]
      rfl
    · rw [putRecord_eq, hx, hq]
      rfl
    · rw [putRecord_eq, hx]
      rfl
  · have hline : ((s.touch l).line l).content = .held st k r := hc.2.2
    intro now
    have hnow : lazyReset s.clock.shift r = now := lazyReset_eq ..
    refine ⟨?_, fun hw => ⟨fun q hq => ⟨fun hp ht => ?_, fun hp => ?_⟩, machinePatchOk_iff, fun q hq => ?_,
      fun hd => ⟨?_, ?_⟩, fun hd => ⟨?_, ?_⟩⟩⟩
    · rw [(asks_machineRead s p tag f).exec_cached h hc, serve_machineRead hline h, hnow]
    · rw [(asks_machineSet tag f hw hq).exec_cached h hc, serve_machineSet_busy hline h hp ht]
    · rw [(asks_machineSet tag f hw hq).exec_cached h hc, serve_machineSet hline h hp, hnow]
      rfl
    · refine exec_replied h (permits_workshop hw rfl) _ _ (congrArg s.event (funext fun y => ?_))
      simp only [State.reqMachineSet, hq, Bool.false_eq_true, if_false]
      rfl
    · rw [(asks_standDown tag f hw).exec_cached h hc, serve_standDown hline, serveState_changed hline h (by simp [hd]), hnow]
      rfl
    · rw [(asks_returnMachine tag f hw).exec_cached h hc, serve_returnMachine hline, serveState_same h hd]
      rfl
    · rw [(asks_returnMachine tag f hw).exec_cached h hc, serve_returnMachine hline, serveState_changed hline h (by simp [hd]),
        hnow]
      rfl
    · rw [(asks_standDown tag f hw).exec_cached h hc, serve_standDown hline, serveState_same h hd]
      rfl

end Sys2Proof.Proofs

namespace Sys2Proof.Proofs
open Sys2Proof Sys2Proof.Machine

/-! ### ENROL (R17) -/

section
variable {s : State} {p : Port} {tag : Byte} {f : EnrolFields}

/-- R9: with no request that waits for the machine's line none is given its record. -/
theorem cameIntoLine_of_absent {n : Nat} (h : ∀ x ∈ s.table.lineWait, x.1 ≠ n) : s.cameIntoLine n = s := by
  have hpop : s.popWait n = s := by
    have hfilter : s.table.lineWait.filter (fun x => !decide (x.1 = n)) = s.table.lineWait :=
      List.filter_eq_self.2 fun x hx => by simp [h x hx]
    simp only [State.popWait, State.modTable, hfilter]
  have hnone : s.table.lineWait.find? (fun x => decide (x.1 = n)) = none :=
    List.find?_eq_none.2 fun x hx => by simpa using h x hx
  simp only [State.cameIntoLine, State.waitersOf, hnone, hpop, List.foldl_nil, ite_self]

theorem cameIntoLine_of_uncached {n : Nat} (h : s.lineFor n = none) : s.cameIntoLine n = s := by
  simp only [State.cameIntoLine, State.cached, h, Option.isSome_none, Bool.false_eq_true, if_false]

theorem enrolOk_iff (f : EnrolFields) : enrolOk f = true ↔
    1 ≤ f.fleet ∧ f.fleet ≤ 9999 ∧ f.cls < 8 ∧ 1 ≤ f.product ∧ f.product ≤ 4 ∧ 1 ≤ f.capacity
      ∧ f.capacity ≤ 2500000 ∧ (∀ a, f.allowance = some a → a ≤ 2500000) ∧ f.reading ≤ 999999 := by
  have hallowance : f.allowance.getD 0 ≤ maxDelivery ↔ ∀ a, f.allowance = some a → a ≤ 2500000 := by
    cases f.allowance <;> simp
  simp only [enrolOk, fleetOk, readingOk, Bool.and_eq_true, decide_eq_true_eq, isSome_fromOne_iff, isSome_inRange_iff,
    hallowance, and_assoc]

theorem freeSlot_eq_some_iff (k : SlotId) : s.freeSlot = some k ↔
    s.table.slots.read k = .free ∧ ∀ j, j < k → s.table.slots.read j ≠ .free := by
  rw [State.freeSlot, find?_eq_some_of_sorted (List.pairwise_lt_finRange 512) List.mem_finRange]
  simp only [decide_eq_true_eq, decide_eq_false_iff_not]
  rfl

/-! What ENROL tests, in that rule's order. -/

theorem tryEnrol_duplicate (he : (s.entry f.fleet).isSome = true) : s.tryEnrol p f = s.answer p .duplicate .nothing := by
  simp only [State.tryEnrol, he, if_true]

section
variable (he : s.entry f.fleet = none)
include he

theorem tryEnrol_storeFault (hf : s.table.faulted = true ∨ 0 < s.table.unread) :
    s.tryEnrol p f = s.answer p .storeFault .nothing := by
  simp only [State.tryEnrol, he, State.incomplete, decide_eq_true_eq, hf, Option.isSome_none, Bool.false_eq_true, if_false,
    if_true]

section
variable (hf : s.table.faulted = false) (hu : s.table.unread = 0)
include hf hu

theorem tryEnrol_tableFull (hk : s.freeSlot = none) : s.tryEnrol p f = s.answer p .tableFull .nothing := by
  simp only [State.tryEnrol, he, State.incomplete, hf, hu, hk, Option.isSome_none, lt_self_iff_false, decide_false, or_self,
    Bool.false_eq_true, if_false]

theorem tryEnrol_waits {k : SlotId} (hk : s.freeSlot = some k) (hl : s.freeLine = none) :
    s.tryEnrol p f = s.waitForLine f.fleet (.port p) := by
  simp only [State.tryEnrol, he, State.incomplete, hf, hu, hk, hl, Option.isSome_none, lt_self_iff_false, decide_false, or_self,
    Bool.false_eq_true, if_false]

theorem tryEnrol_enrols {k : SlotId} {l : LineId} (hk : s.freeSlot = some k) (hl : s.freeLine = some l) :
    s.tryEnrol p f = s.enrolInto p l k f := by
  simp only [State.tryEnrol, he, State.incomplete, hf, hu, hk, hl, Option.isSome_none, lt_self_iff_false, decide_false, or_self,
    Bool.false_eq_true, if_false]

end

end

/-- R17: the part with the new machine's slot taken, its entry inserted, and its record in a line. -/
def enrolledIn (s : State) (k : SlotId) (l : LineId) (f : EnrolFields) : State := { s with table := { s.table with
  slots := s.table.slots.write k .used,
  index := insertEntry { fleet := f.fleet, slot := k, damaged := false } s.table.index,
  lines := s.table.lines.write l
    { content := .held .dirty k (enrolledRecord s f), pinned := false, writeQueued := true, waiters := [] },
  queue := s.table.queue ++ [.write l k],
  useOrder := l :: s.table.useOrder.filter (fun x => !decide (x = l)) } }

theorem enrolInto_eq (s : State) (p : Port) (l : LineId) (k : SlotId) (f : EnrolFields) :
    s.enrolInto p l k f = (enrolledIn s k l f).answer p .ok (.enrolled k) := by
  simp only [State.enrolInto, putRecord_eq, State.emptyOut, State.setSlotState, State.modTable, State.modLine, State.line,
    read_write, write_write, if_true, enrolledIn, emptyLine, stateAfterPut, Bool.false_eq_true, if_false]

end

/-- R17: the record of a new machine. -/
theorem enrolledRecord_eq {s : State} {f : EnrolFields} (hc : f.cls < 8) (hp : f.product - 1 < 4) (h1 : 1 ≤ f.product) :
    enrolledRecord s f =
      { fleet := f.fleet, cls := ⟨f.cls, hc⟩, stoodDown := false, product := ⟨f.product - 1, hp⟩,
        capacity := f.capacity, tag := f.tag,
        allowance := f.allowance.getD (s.config.classes.read ⟨f.cls, hc⟩).defaultAllowance, used := 0,
        usageShift := s.clock.shift, lifetimeFuel := 0, reading := f.reading, offset := 0, stamp := none, lines := [],
        restricted := false, openTicket := none } := by
  have hcls : (fromZero 8 f.cls).getD 0 = ⟨f.cls, hc⟩ := by rw [fromZero, dif_pos hc]; rfl
  have hproduct : (fromOne 4 f.product).getD 0 = ⟨f.product - 1, hp⟩ := by rw [fromOne, dif_pos ⟨h1, hp⟩]; rfl
  simp only [enrolledRecord, hcls, hproduct, State.classConfig]

/-- Settles O53: the command is ENROL tried with the request in hand; each test's law gives what comes of it. -/
theorem enrolAddsMachine : Obligations.EnrolAddsMachine := by
  unfold Obligations.EnrolAddsMachine
  intro p tag f s h hw habsent inRange refused
  have hexec (hin : inRange) : exec (.enrol p tag f) s =
      .next (((s.kept p tag (.enrol f)).tryEnrol p f).cameIntoLine f.fleet).startStore := by
    have hreq : State.reqEnrol p tag f = fun x => x.admission p .enrol tag none fun y =>
        ((y.takeInHand p tag (.enrol f)).tryEnrol p f).cameIntoLine f.fleet := funext fun x => by
      simp only [State.reqEnrol, (enrolOk_iff f).2 hin, if_true]
    show s.event (State.reqEnrol p tag f) = _
    rw [hreq, event_accepts h (permits_workshop hw rfl)]
    · rw [takeInHand_idleAssembler]
    · rw [takeInHand_idleAssembler, (((Within.refl (fed := True) _).tryEnrol p f).cameIntoLine f.fleet).startUp]
      exact h.1.2
  have hanswer (hin : inRange) {y : State} {st : Status} {g : Payload}
      (hy : (s.kept p tag (.enrol f)).tryEnrol p f = y.answered p .enrol tag st g)
      (hwait : ∀ x ∈ y.table.lineWait, x.1 ≠ f.fleet) :
      exec (.enrol p tag f) s = .next (y.answered p .enrol tag st g).startStore := by
    rw [hexec hin, hy, cameIntoLine_of_absent (s := y.answered p .enrol tag st g) hwait]
  have hrefused (hin : inRange) {st : Status}
      (hy : (s.kept p tag (.enrol f)).tryEnrol p f = (s.kept p tag (.enrol f)).answer p st .nothing) : refused st :=
    hanswer hin (hy.trans (answer_kept h.2.1 h.2.2 ..)) habsent
  refine ⟨fun k => freeSlot_eq_some_iff k, fun hin => ?_, fun hin he => ?_, fun hin he hf => ?_,
    fun hin he hf hu hk => ?_, fun k hin he hf hu hk hl hfor => ?_, fun k l hc hp hin he hf hu hk hl => ?_⟩
  · refine exec_replied h (permits_workshop hw rfl) _ _ (congrArg s.event (funext fun y => ?_))
    simp only [State.reqEnrol, mt (enrolOk_iff f).1 hin]
    rfl
  · exact hrefused hin (tryEnrol_duplicate (s := s.kept p tag (.enrol f)) he)
  · exact hrefused hin (tryEnrol_storeFault (s := s.kept p tag (.enrol f)) he hf)
  · exact hrefused hin (tryEnrol_tableFull (s := s.kept p tag (.enrol f)) he hf hu hk)
  · have htry := tryEnrol_waits (s := s.kept p tag (.enrol f)) (p := p) he hf hu hk hl
    rw [hexec hin, htry, cameIntoLine_of_uncached]
    exact hfor
  · intro r
    have htry := tryEnrol_enrols (s := s.kept p tag (.enrol f)) (p := p) he hf hu hk hl
    obtain ⟨-, -, -, hproduct, -⟩ := id hin
    have hr : enrolledRecord s f = r := enrolledRecord_eq hc hp hproduct
    have hkept : enrolledIn (s.kept p tag (.enrol f)) k l f = (enrolledIn s k l f).kept p tag (.enrol f) := rfl
    rw [hanswer hin (y := enrolledIn s k l f) (st := .ok) (g := .enrolled k), enrolledIn, hr]
    · rw [htry, enrolInto_eq, hkept]
      exact answer_kept (s := enrolledIn s k l f) h.2.1 h.2.2 ..
    · exact habsent

end Sys2Proof.Proofs

namespace Sys2Proof.Proofs
open Sys2Proof Sys2Proof.Machine

/-! ### The figures of a REBUILD (R4, R5, R21) -/

theorem basisOf_eq_some_iff (v : Nat) (b : Basis) :
    basisOf v = some b ↔ v ≤ 1 ∧ b = if v = 0 then .hours else .fuel := by
  unfold basisOf
  by_cases h0 : v = 0
  · simp [h0, eq_comm]
  · by_cases h1 : v = 1
    · simp [h1, eq_comm]
    · simp only [h0, h1, if_false, reduceCtorEq, false_iff]
      omega

theorem flagOf_eq_some_iff (v : Nat) (b : Bool) : flagOf v = some b ↔ v ≤ 1 ∧ b = decide (v = 1) := by
  unfold flagOf
  by_cases h0 : v = 0
  · simp [h0, eq_comm]
  · by_cases h1 : v = 1
    · simp [h1, eq_comm]
    · simp only [h0, h1, if_false, reduceCtorEq, false_iff]
      omega

theorem maxInterval_eq (v : Nat) : maxInterval (if v = 0 then .hours else .fuel) = if v = 0 then 99999 else 100000000 := by
  split <;> rfl

theorem maxLifetime_eq (v : Nat) :
    maxLifetime (if v = 0 then .hours else .fuel) = if v = 0 then 99999999 else 4294967295 := by
  split <;> rfl

/-- R5: the figures of a line are each in range exactly when they make one, its state yet to be evaluated. -/
theorem lineOf_eq_some_iff (number basis interval lastDone warn grace enforcing : Nat) (waiver : Option Nat)
    (l : ServiceLine) : lineOf number basis interval lastDone warn grace enforcing waiver = some l ↔
      LineFigures number basis interval lastDone warn grace enforcing waiver l ∧ l.state = .current := by
  have hwaiver : waiver.getD 0 ≤ interval ↔ ∀ x, waiver = some x → x ≤ interval := by cases waiver <;> simp
  by_cases hflags : basis ≤ 1 ∧ enforcing ≤ 1
  · obtain ⟨hbasis, hflag⟩ := hflags
    have hb := (basisOf_eq_some_iff basis _).2 ⟨hbasis, rfl⟩
    have he := (flagOf_eq_some_iff enforcing _).2 ⟨hflag, rfl⟩
    simp only [lineOf, hb, he, maxInterval_eq, maxLifetime_eq, hwaiver, Option.ite_none_right_eq_some, Option.some.injEq]
    constructor
    · rintro ⟨⟨h1, h2, h3, h4, h5, h6, h7, h8⟩, rfl⟩
      exact ⟨⟨h1, h2, hbasis, h3, h4, h5, h6, h7, hflag, h8, rfl, rfl, rfl, rfl, rfl, rfl, rfl, rfl⟩, rfl⟩
    · obtain ⟨n, b, i, ld, wm, gm, en, wv, st⟩ := l
      rintro ⟨⟨h1, h2, -, h3, h4, h5, h6, h7, -, h8, rfl, rfl, rfl, rfl, rfl, rfl, rfl, rfl⟩, rfl⟩
      exact ⟨⟨h1, h2, h3, h4, h5, h6, h7, h8⟩, rfl⟩
  · have hnone : lineOf number basis interval lastDone warn grace enforcing waiver = none := by
      unfold lineOf
      split
      · next b e hb he =>
        exact absurd ⟨((basisOf_eq_some_iff ..).1 hb).1, ((flagOf_eq_some_iff ..).1 he).1⟩ hflags
      · rfl
    rw [hnone]
    refine iff_of_false (by simp) fun ⟨⟨_, _, hbasis, _, _, _, _, _, hflag, _⟩, _⟩ => hflags ⟨hbasis, hflag⟩

/-- R5: the figures of a REBUILD's line. -/
def RebuildFigures (a : RebuildLine) (y : ServiceLine) : Prop :=
  LineFigures a.number a.basis a.interval a.lastDone a.warn a.grace a.enforcing a.waiver y

theorem rebuildLineOf_eq_some_iff (a : RebuildLine) (y : ServiceLine) :
    rebuildLineOf a = some y ↔ RebuildFigures a y ∧ y.state = .current := lineOf_eq_some_iff ..

theorem isSome_rebuildLineOf_iff (a : RebuildLine) : (rebuildLineOf a).isSome = true ↔ ∃ y, RebuildFigures a y := by
  rw [Option.isSome_iff_exists]
  constructor
  · rintro ⟨y, hy⟩
    exact ⟨y, ((rebuildLineOf_eq_some_iff a y).1 hy).1⟩
  · rintro ⟨y, hy⟩
    exact ⟨{ y with state := .current }, (rebuildLineOf_eq_some_iff a _).2 ⟨hy, rfl⟩⟩

theorem number_of_rebuildLineOf {a : RebuildLine} {y : ServiceLine} (h : rebuildLineOf a = some y) : y.number = a.number := by
  obtain ⟨⟨-, -, -, -, -, -, -, -, -, -, hnumber, -⟩, -⟩ := (rebuildLineOf_eq_some_iff a y).1 h
  exact hnumber

theorem mem_placeLine_iff {x y : ServiceLine} {ls : List ServiceLine} (h : ∀ z ∈ ls, z.number ≠ x.number) :
    y ∈ placeLine x ls ↔ y = x ∨ y ∈ ls := by
  induction ls with
  | nil => simp [placeLine]
  | cons z ls ih =>
    have hz := h z List.mem_cons_self
    have hrest := ih fun w hw => h w (List.mem_cons_of_mem _ hw)
    unfold placeLine
    split
    · simp
    · rw [if_neg fun e => hz e.symm, List.mem_cons, hrest, List.mem_cons]
      tauto

/-- R21: a REBUILD's lines are taken when each has its figures in range and no two share a number. -/
theorem rebuildLines_spec (as : List RebuildLine) :
    ((rebuildLines as).isSome = true ↔ (∀ a ∈ as, ∃ y, RebuildFigures a y) ∧ as.Pairwise fun a b => a.number ≠ b.number)
    ∧ ∀ ls, rebuildLines as = some ls → ∀ y, y ∈ ls ↔ ∃ a ∈ as, rebuildLineOf a = some y := by
  induction as with
  | nil =>
    refine ⟨by simp [rebuildLines], fun ls h y => ?_⟩
    cases h
    simp
  | cons a as ih =>
    obtain ⟨hsome, hmem⟩ := ih
    cases hx : rebuildLineOf a with
    | none =>
      have hno : ¬ ∃ y, RebuildFigures a y := by rw [← isSome_rebuildLineOf_iff, hx]; simp
      have hnone : rebuildLines (a :: as) = none := by simp only [rebuildLines, hx]
      rw [hnone]
      exact ⟨iff_of_false (by simp) fun ⟨hall, _⟩ => hno (hall a List.mem_cons_self), fun ls h => nomatch h⟩
    | some x =>
      have hyes : ∃ y, RebuildFigures a y := by rw [← isSome_rebuildLineOf_iff, hx]; rfl
      rw [List.forall_mem_cons, List.pairwise_cons, and_and_and_comm, ← hsome]
      cases hxs : rebuildLines as with
      | none =>
        have hnone : rebuildLines (a :: as) = none := by simp only [rebuildLines, hx, hxs]
        rw [hnone]
        exact ⟨iff_of_false (by simp) fun ⟨_, h⟩ => (nomatch h), fun ls h => nomatch h⟩
      | some xs =>
        have hmem := hmem xs hxs
        obtain ⟨hfigures, -⟩ := hsome.1 (by rw [hxs]; rfl)
        have hapart : (∀ z ∈ xs, z.number ≠ x.number) ↔ ∀ b ∈ as, a.number ≠ b.number := by
          rw [number_of_rebuildLineOf hx]
          constructor
          · intro h b hb
            obtain ⟨y, hy⟩ := Option.isSome_iff_exists.1 ((isSome_rebuildLineOf_iff b).2 (hfigures b hb))
            rw [← number_of_rebuildLineOf hy]
            exact (h y ((hmem y).2 ⟨b, hb, hy⟩)).symm
          · intro h z hz
            obtain ⟨b, hb, hy⟩ := (hmem z).1 hz
            rw [number_of_rebuildLineOf hy]
            exact (h b hb).symm
        have hlines : rebuildLines (a :: as) = if xs.any (fun y => decide (y.number = x.number)) then none
            else some (placeLine x xs) := by simp only [rebuildLines, hx, hxs]
        have hany : xs.any (fun y => decide (y.number = x.number)) = true ↔ ¬ ∀ z ∈ xs, z.number ≠ x.number := by
          simp [List.any_eq_true]
        rw [hlines, ← hapart]
        by_cases h : ∀ z ∈ xs, z.number ≠ x.number
        · rw [if_neg fun e => hany.1 e h]
          refine ⟨iff_of_true rfl ⟨⟨hyes, h⟩, rfl⟩, fun ls hls y => ?_⟩
          cases hls
          simp only [mem_placeLine_iff h, hmem, List.exists_mem_cons_iff, hx, Option.some.injEq, eq_comm]
        · rw [if_pos (hany.2 h)]
          exact ⟨iff_of_false (by simp) fun ⟨⟨_, ha⟩, _⟩ => h ha, fun ls hls => nomatch hls⟩

/-- R21: the tests REBUILD makes of its own fields. -/
theorem rebuildOk_iff (f : RebuildFields) : rebuildOk f = true ↔
    f.cls ≤ 7 ∧ 1 ≤ f.product ∧ f.product ≤ 4 ∧ 1 ≤ f.capacity ∧ f.capacity ≤ 2500000
      ∧ f.allowance ≤ 2500000 ∧ f.reading ≤ 999999 ∧ f.used ≤ 4294967295 ∧ f.lifetimeFuel ≤ 4294967295
      ∧ f.reading + f.offset ≤ 99999999 ∧ f.state ≤ 1 ∧ (∀ a ∈ f.lines, ∃ y, RebuildFigures a y)
      ∧ f.lines.Pairwise fun a b => a.number ≠ b.number := by
  have hstate : (flagOf f.state).isSome = true ↔ f.state ≤ 1 := by
    rw [Option.isSome_iff_exists]
    simp [flagOf_eq_some_iff]
  simp only [rebuildOk, readingOk, Bool.and_eq_true, decide_eq_true_eq, isSome_fromOne_iff, isSome_inRange_iff, hstate,
    (rebuildLines_spec f.lines).1, and_assoc, Nat.lt_succ_iff]

/-- R138: the band of a REBUILD's line. -/
theorem lineBand_rebuilt {f : RebuildFields} {a : RebuildLine} {y : ServiceLine} (h : RebuildFigures a y)
    (shift : Word32) : lineBand (rebuiltRecord shift f) y =
      (let life : Int := (if a.basis = 0 then f.reading + f.offset else f.lifetimeFuel : Nat)
      let due : Int := ((a.lastDone + a.interval + a.waiver.getD 0 : Nat) : Int)
      if life < due - (a.warn : Int) then .current else if life < due then .dueSoon
        else if life < due + (a.grace : Int) then .due else .overdue) := by
  obtain ⟨-, -, -, -, -, -, -, -, -, -, -, hbasis, hinterval, hlast, hwarn, hgrace, -, hwaiver⟩ := h
  have hlife : lifetime (rebuiltRecord shift f) y.basis = if a.basis = 0 then f.reading + f.offset else f.lifetimeFuel := by
    rw [hbasis]
    split <;> rfl
  simp only [lineBand, bandOf, duePoint, hlife, hinterval, hlast, hwarn, hgrace, hwaiver]

/-- R21, R153: the record of a REBUILD. -/
theorem rebuilt_eq {f : RebuildFields} (hok : rebuildOk f = true) (shift : Word32) (hc : f.cls < 8)
    (hp : f.product - 1 < 4) : ∃ lines : List ServiceLine,
      monitored (fun _ => true) (rebuiltRecord shift f) =
        { fleet := f.fleet, cls := ⟨f.cls, hc⟩, stoodDown := decide (f.state = 1), product := ⟨f.product - 1, hp⟩,
          capacity := f.capacity, tag := f.tag, allowance := f.allowance, used := f.used,
          usageShift := shift, lifetimeFuel := f.lifetimeFuel, reading := f.reading, offset := f.offset,
          stamp := none, lines := lines,
          restricted := lines.any (fun y => y.enforcing && decide (y.state = .overdue)), openTicket := none }
      ∧ lines.Pairwise (fun a b => a.number < b.number)
      ∧ ∀ y, y ∈ lines ↔ ∃ a ∈ f.lines, RebuildFigures a y
        ∧ (let life : Int := (if a.basis = 0 then f.reading + f.offset else f.lifetimeFuel : Nat)
          let due : Int := ((a.lastDone + a.interval + a.waiver.getD 0 : Nat) : Int)
          y.state = if life < due - (a.warn : Int) then .current else if life < due then .dueSoon
            else if life < due + (a.grace : Int) then .due else .overdue) := by
  obtain ⟨-, h1, -, -, -, -, -, -, -, -, hstate, hlines⟩ := (rebuildOk_iff f).1 hok
  obtain ⟨ls, hls⟩ := Option.isSome_iff_exists.1 ((rebuildLines_spec f.lines).1.2 hlines)
  have hmem := (rebuildLines_spec f.lines).2 ls hls
  have hcls : (fromZero 8 f.cls).getD 0 = ⟨f.cls, hc⟩ := by rw [fromZero, dif_pos hc]; rfl
  have hproduct : (fromOne 4 f.product).getD 0 = ⟨f.product - 1, hp⟩ := by rw [fromOne, dif_pos ⟨h1, hp⟩]; rfl
  have hflag : (flagOf f.state).getD false = decide (f.state = 1) := by
    rw [(flagOf_eq_some_iff f.state _).2 ⟨hstate, rfl⟩, Option.getD_some]
  have hsound := sound_rebuilt shift f
  refine ⟨(monitored (fun _ => true) (rebuiltRecord shift f)).lines, ?_, hsound.1, fun y => ?_⟩
  · simp only [monitored, rebuiltRecord, hcls, hproduct, hflag]
    rfl
  · have hlines' : (monitored (fun _ => true) (rebuiltRecord shift f)).lines =
        ls.map fun l => { l with state := lineBand (rebuiltRecord shift f) l } := by
      simp only [monitored, if_true]
      simp only [rebuiltRecord, hls, Option.getD_some]
    rw [hlines', List.mem_map]
    constructor
    · rintro ⟨l, hl, rfl⟩
      obtain ⟨a, ha, hal⟩ := (hmem l).1 hl
      obtain ⟨hfigures, -⟩ := (rebuildLineOf_eq_some_iff a l).1 hal
      exact ⟨a, ha, hfigures, lineBand_rebuilt hfigures shift⟩
    · rintro ⟨a, ha, hfigures, hband⟩
      have hsame : lineBand (rebuiltRecord shift f) { y with state := .current } = y.state :=
        (lineBand_rebuilt (a := a) (y := { y with state := .current }) hfigures shift).trans hband.symm
      refine ⟨{ y with state := .current }, (hmem _).2 ⟨a, ha, (rebuildLineOf_eq_some_iff a _).2 ⟨hfigures, rfl⟩⟩, ?_⟩
      rw [hsame]

end Sys2Proof.Proofs

namespace Sys2Proof.Proofs
open Sys2Proof Sys2Proof.Machine

/-! ### A request in hand while its record changes (R169) -/

section
variable {s : State} {p : Port} {tag : Byte} {q : WaitingRequest}

/-- A notice enters a port's queue alike whatever request is in hand there. -/
theorem postWhere_takeInHand (d : Port → Bool) (b : NoticeBody) :
    (s.takeInHand p tag q).postWhere d b = (s.postWhere d b).takeInHand p tag q := by
  have henter (n : Notice) (x : PortState) (h : Option InHand) :
      enterNotice n { x with inHand := h } = { enterNotice n x with inHand := h } := by
    unfold enterNotice
    split
    · rfl
    · split <;> rfl
  have hports : ((s.takeInHand p tag q).postWhere d b).ports = ((s.postWhere d b).takeInHand p tag q).ports :=
    tab_ext fun j => by
      simp only [State.postWhere, State.takeInHand, State.modPort, State.port, read_mapWith, read_write]
      by_cases hj : j = p
      · subst hj
        simp only [if_true]
        split
        · exact henter ..
        · rfl
      · simp only [hj, if_false]
  show { (s.postWhere d b).takeInHand p tag q with ports := ((s.takeInHand p tag q).postWhere d b).ports } = _
  rw [hports]

theorem postOffices_takeInHand (bs : List NoticeBody) (s : State) :
    (s.takeInHand p tag q).postOffices bs = (s.postOffices bs).takeInHand p tag q := by
  induction bs generalizing s with
  | nil => rfl
  | cons b bs ih =>
    have hb : (s.takeInHand p tag q).postOffice b = (s.postOffice b).takeInHand p tag q := postWhere_takeInHand ..
    exact (congrArg (State.postOffices · bs) hb).trans (ih (s.postOffice b))

theorem putRecord_takeInHand (l : LineId) (k : SlotId) (r : MachineRecord) :
    (s.takeInHand p tag q).putRecord l k r = (s.putRecord l k r).takeInHand p tag q := by
  rw [putRecord_eq, putRecord_eq]
  rfl

theorem answer_takeInHand (hi : (s.port p).inHand = none) (st : Status) (g : Payload) :
    (s.takeInHand p tag q).answer p st g = s.reply p q.code tag st g := by
  have hh : ((s.takeInHand p tag q).port p).inHand = some { tag := tag, request := q } := by
    rw [State.takeInHand, State.port_modPort_self]
  rw [answer_of_inHand hh, State.takeInHand, State.modPort_modPort, State.reply, State.respond]
  refine State.modPort_congr _ _ _ _ ?_
  rw [← hi]
  rfl

/-- R21, R153: a REBUILD in hand that fills its line is answered. -/
theorem rebuildInto_takeInHand {f : RebuildFields} (hi : (s.port p).inHand = none) (l : LineId) (k : SlotId)
    (old : Option MachineRecord) : (s.takeInHand p tag (.rebuild f)).rebuildInto p l k f old =
      (((s.markEntry f.fleet false).putRecord l k (monitored (fun _ => true) (rebuiltRecord s.clock.shift f))).postOffices
        (serviceNotes ((old.map fun o => o.lines).getD []) ((old.map fun o => o.restricted).getD false)
          (monitored (fun _ => true) (rebuiltRecord s.clock.shift f)) .rebuild)).reply p .rebuild tag .ok .nothing := by
  have hmark : (s.takeInHand p tag (.rebuild f)).markEntry f.fleet false =
      (s.markEntry f.fleet false).takeInHand p tag (.rebuild f) := rfl
  have hshift : (s.takeInHand p tag (.rebuild f)).clock = s.clock := rfl
  simp only [State.rebuildInto, hmark, hshift, putRecord_takeInHand, postOffices_takeInHand]
  rw [answer_takeInHand]
  · rfl
  · rw [((postOffices_frame _ _).2 p).1, State.port, port_putRecord]
    exact hi

end

/-! ### REBUILD and WITHDRAW as commands (R18, R21) -/

section
variable {s : State} {p : Port} (tag : Byte) (h : s.Accepts p) (hw : s.role p = .workshop)
include h hw

theorem exec_rebuild (f : RebuildFields) : exec (.rebuild p tag f) s =
    .next (((s.kept p tag (.rebuild f)).tryRebuild p f).cameIntoLine f.fleet).startStore := by
  refine (event_accepts h (permits_workshop hw rfl) ?_).trans ?_
  · rw [takeInHand_idleAssembler, (((Within.refl (fed := True) _).tryRebuild p f).cameIntoLine f.fleet).startUp]
    exact h.1.2
  · rw [takeInHand_idleAssembler]

theorem exec_withdraw (f : Nat) : exec (.withdraw p tag f) s =
    .next ((s.kept p tag (.withdraw f)).tryWithdraw p f).startStore := by
  refine (event_accepts h (permits_workshop hw rfl) ?_).trans ?_
  · rw [takeInHand_idleAssembler, ((Within.refl (fed := True) _).tryWithdraw p f).startUp]
    exact h.1.2
  · rw [takeInHand_idleAssembler]

end

/-! ### WITHDRAW tested and carried out (R18) -/

section
variable {s : State} {p : Port} {f : Nat} {e : IndexEntry} {l : LineId} {st : HeldState} {k : SlotId} {r : MachineRecord}

theorem cached_of_none (hl : s.lineFor f = none) : s.cached f = none := by simp only [State.cached, hl]

theorem cached_of_held (hl : s.lineFor f = some l) (hc : (s.line l).content = .held st k r) : s.cached f = some r := by
  simp only [State.cached, hl, State.recordAt, hc, LineContent.record]

theorem bound_of_none (hl : s.lineFor f = none) : (s.cached f).bind (fun r => r.openTicket) = none := by
  rw [cached_of_none hl, Option.bind_none]

theorem bound_of_held (hl : s.lineFor f = some l) (hc : (s.line l).content = .held st k r) (ht : r.openTicket = none) :
    (s.cached f).bind (fun r => r.openTicket) = none := by
  rw [cached_of_held hl hc, Option.bind_some, ht]

theorem cameIntoLine_of_nil (hwait : s.table.lineWait = []) : s.cameIntoLine f = s :=
  cameIntoLine_of_absent (by simp [hwait])

theorem tryWithdraw_unenrolled (he : s.enrolled f = none) : s.tryWithdraw p f = s.answer p .noSuchMachine .nothing := by
  simp only [State.tryWithdraw, he]

section
variable (he : s.enrolled f = some e)
include he

theorem tryWithdraw_busy (hc : s.cached f = some r) (ht : r.openTicket.isSome = true) :
    s.tryWithdraw p f = s.answer p .machineBusy .nothing := by
  simp only [State.tryWithdraw, he, hc, Option.bind_some, ht, if_true]

section
variable (ht : (s.cached f).bind (fun r => r.openTicket) = none)
include ht

theorem tryWithdraw_faulted (hf : s.table.faulted = true) : s.tryWithdraw p f = s.answer p .storeFault .nothing := by
  simp only [State.tryWithdraw, he, ht, hf, Option.isSome_none, Bool.false_eq_true, if_false, if_true]

theorem tryWithdraw_withdraws (hf : s.table.faulted = false) : s.tryWithdraw p f = s.withdraw p f e.slot := by
  simp only [State.tryWithdraw, he, ht, hf, Option.isSome_none, Bool.false_eq_true, if_false]

end

end

section
variable (hwait : s.table.lineWait = [])
include hwait

/-- R18: nothing waits for the line of the machine withdrawn. -/
theorem refuse_waiters_of_nil : (s.waitersOf f).foldl (State.refuse .notEnrolled) (s.popWait f) = s := by
  have hpop : s.popWait f = s := by
    simp only [State.popWait, State.modTable, hwait, List.filter_nil]
    rw [← hwait]
  have hnone : s.waitersOf f = [] := by simp only [State.waitersOf, hwait, List.find?_nil]
  rw [hnone, hpop, List.foldl_nil]

theorem withdraw_uncached (hl : s.lineFor f = none) : s.withdraw p f k = { s with table := { s.table with
    slots := s.table.slots.write k .erasing, queue := s.table.queue ++ [.erase k (some p)] } } := by
  have hfor : (s.setSlotState k .erasing).lineFor f = none := hl
  simp only [State.withdraw, hfor]
  rw [refuse_waiters_of_nil, lineFreed_of_nil]
  · rfl
  · exact hwait
  · exact hwait

theorem withdraw_cached (hl : s.lineFor f = some l) (hwaiters : (s.line l).waiters = []) :
    s.withdraw p f k = { s with table := { s.table with
      slots := s.table.slots.write k .erasing,
      lines := s.table.lines.write l { content := .empty, pinned := false, writeQueued := false, waiters := [] },
      queue := s.table.queue.filter (fun op => !op.serves l) ++ [.erase k (some p)],
      inFlight := s.table.inFlight.map fun x => if x.op.serves l then { x with discarded := true } else x } } := by
  have hfor : (s.setSlotState k .erasing).lineFor f = some l := hl
  have hno : ((s.setSlotState k .erasing).line l).waiters = [] := hwaiters
  simp only [State.withdraw, hfor, State.discardLine, hno, List.foldl_nil]
  rw [refuse_waiters_of_nil, lineFreed_of_nil]
  · rfl
  · exact hwait
  · exact hwait

end

end

section
variable {s : State} {p : Port} {f : RebuildFields}

/-- R21: a REBUILD that fills its line leaves no number waiting for one, when none was. -/
theorem cameIntoLine_rebuildInto (hi : (s.port p).inHand = none) (hwait : s.table.lineWait = []) (tag : Byte) (l : LineId)
    (k : SlotId) (old : Option MachineRecord) :
    ((s.takeInHand p tag (.rebuild f)).rebuildInto p l k f old).cameIntoLine f.fleet =
      (((s.markEntry f.fleet false).putRecord l k (monitored (fun _ => true) (rebuiltRecord s.clock.shift f))).postOffices
        (serviceNotes ((old.map fun o => o.lines).getD []) ((old.map fun o => o.restricted).getD false)
          (monitored (fun _ => true) (rebuiltRecord s.clock.shift f)) .rebuild)).reply p .rebuild tag .ok .nothing := by
  rw [rebuildInto_takeInHand hi, cameIntoLine_of_nil]
  rw [State.reply, State.respond, State.modPort, (postOffices_frame _ _).1, putRecord_frame]
  exact hwait

end

/-- Settles O54: each command is its block tried with the request in hand; what the tests and the record of a REBUILD come
to are the laws of `tryWithdraw`, `tryRebuild` and `rebuildOk`. -/
theorem withdrawAndRebuild : Obligations.WithdrawAndRebuild := by
  unfold Obligations.WithdrawAndRebuild
  intro p tag s h hw hwait
  refine ⟨fun f => ?_, fun f => ?_, fun f => ?_⟩
  · have hanswer {st : Status} (hy : (s.kept p tag (.withdraw f)).tryWithdraw p f =
        (s.kept p tag (.withdraw f)).answer p st .nothing) :
        exec (.withdraw p tag f) s = .next (s.answered p .withdraw tag st .nothing).startStore := by
      rw [exec_withdraw tag h hw, hy, answer_kept h.2.1 h.2.2]
      rfl
    refine ⟨fun he => hanswer (tryWithdraw_unenrolled (s := s.kept p tag (.withdraw f)) he), fun e he =>
      ⟨fun l st k r hl hc ht => ?_, fun hl hf => ?_, fun l st k r hl hc ht hf => ?_, fun hl hf => ?_,
        fun l st k r hl hc ht hwaiters hf => ?_⟩⟩
    · exact hanswer (tryWithdraw_busy (s := s.kept p tag (.withdraw f)) he (cached_of_held hl hc) ht)
    · exact hanswer (tryWithdraw_faulted (s := s.kept p tag (.withdraw f)) he (bound_of_none hl) hf)
    · exact hanswer (tryWithdraw_faulted (s := s.kept p tag (.withdraw f)) he (bound_of_held hl hc ht) hf)
    · rw [exec_withdraw tag h hw, tryWithdraw_withdraws (s := s.kept p tag (.withdraw f)) he (bound_of_none hl) hf,
        withdraw_uncached (s := s.kept p tag (.withdraw f)) hwait hl]
      rfl
    · rw [exec_withdraw tag h hw, tryWithdraw_withdraws (s := s.kept p tag (.withdraw f)) he (bound_of_held hl hc ht) hf,
        withdraw_cached (s := s.kept p tag (.withdraw f)) hwait hl hwaiters]
      rfl
  · intro figures
    exact ⟨rebuildOk_iff f, fun hc hp hok => rebuilt_eq hok s.clock.shift hc hp⟩
  · intro r good
    have hanswer {st : Status} (hy : (s.kept p tag (.rebuild f)).tryRebuild p f =
        (s.kept p tag (.rebuild f)).answer p st .nothing) :
        exec (.rebuild p tag f) s = .next (s.answered p .rebuild tag st .nothing).startStore := by
      rw [exec_rebuild tag h hw, hy, answer_kept h.2.1 h.2.2,
        cameIntoLine_of_nil (s := s.answered p _ tag st .nothing) hwait]
      rfl
    have hidle : ((s.idleAssembler p).port p).inHand = none := by
      rw [State.idleAssembler, State.port_modPort_self]
      exact h.2.2
    refine ⟨fun he => hanswer (tryRebuild_unenrolled (s := s.kept p tag (.rebuild f)) p he), fun e he =>
      ⟨fun hx => hanswer (tryRebuild_badField (s := s.kept p tag (.rebuild f)) p he hx), fun hx hf =>
        hanswer (tryRebuild_faulted (s := s.kept p tag (.rebuild f)) p he hx hf), fun l st k old hx hf hl hc =>
        ⟨fun ht => hanswer (tryRebuild_busy (s := s.kept p tag (.rebuild f)) p he hx hf hl hc ht), fun ht => ?_⟩,
        fun l hx hf hl hfree => ?_, fun l k hx hf hl hc => ?_, fun hx hf hl hfree => ?_⟩⟩
    · rw [exec_rebuild tag h hw, tryRebuild_held (s := s.kept p tag (.rebuild f)) p he hx hf hl hc ht,
        ← takeInHand_idleAssembler, cameIntoLine_rebuildInto (s := s.idleAssembler p) hidle hwait]
      rfl
    · rw [exec_rebuild tag h hw, tryRebuild_free (s := s.kept p tag (.rebuild f)) p he hx hf hl hfree,
        ← takeInHand_idleAssembler]
      have hempty : ((s.idleAssembler p).takeInHand p tag (.rebuild f)).emptyOut l =
          ((s.idleAssembler p).emptyOut l).takeInHand p tag (.rebuild f) := rfl
      rw [hempty, cameIntoLine_rebuildInto (s := (s.idleAssembler p).emptyOut l) hidle hwait]
      rfl
    · rw [exec_rebuild tag h hw, tryRebuild_fetching (s := s.kept p tag (.rebuild f)) p he hx hf hl hc, cameIntoLine_of_nil]
      exact hwait
    · rw [exec_rebuild tag h hw, tryRebuild_wait (s := s.kept p tag (.rebuild f)) p he hx hf hl hfree,
        cameIntoLine_of_uncached]
      exact hl

end Sys2Proof.Proofs

namespace Sys2Proof.Proofs
open Sys2Proof Sys2Proof.Machine

/-! ### A line judged by a reading (R138, R140) -/

/-- R138: a line in the band that a reading of its basis falls in. -/
def judged (l : ServiceLine) (v : Int) : ServiceLine := { l with state := bandOf v (duePoint l) l.warn l.grace }

section
variable {r : MachineRecord} {num x : Nat} {l : ServiceLine}

/-- R139, R140: what an evaluation makes of a record. -/
theorem monitored_eq (pick : ServiceLine → Bool) (r : MachineRecord) : monitored pick r =
    { r with lines := r.lines.map fun y => if pick y then judged y (lifetime r y.basis) else y,
             restricted := restricts (r.lines.map fun y => if pick y then judged y (lifetime r y.basis) else y) } := rfl

theorem monitored_withLines (pick : ServiceLine → Bool) (ls : List ServiceLine) (r : MachineRecord) :
    monitored pick { r with lines := ls } =
      { r with lines := ls.map fun y => if pick y then judged y (lifetime r y.basis) else y,
               restricted := restricts (ls.map fun y => if pick y then judged y (lifetime r y.basis) else y) } := rfl

/-- R149, R150: the line of a number changed and then evaluated, the others kept. -/
theorem monitored_edited (edit : ServiceLine → ServiceLine) (hnumber : ∀ y, (edit y).number = y.number)
    (hbasis : ∀ y, (edit y).basis = y.basis) (n : Nat) (r : MachineRecord) :
    monitored (ofNumber n) { r with lines := r.lines.map fun y => if ofNumber n y then edit y else y } =
      { r with lines := r.lines.map fun y => if y.number = n then judged (edit y) (lifetime r y.basis) else y,
               restricted := restricts (r.lines.map fun y =>
                 if y.number = n then judged (edit y) (lifetime r y.basis) else y) } := by
  have hlines : (r.lines.map fun y => if ofNumber n y then edit y else y).map (fun y =>
      if ofNumber n y then judged y (lifetime r y.basis) else y) =
      r.lines.map fun y => if y.number = n then judged (edit y) (lifetime r y.basis) else y := by
    rw [List.map_map]
    refine List.map_congr_left fun y _ => ?_
    by_cases hy : y.number = n
    · simp [ofNumber, hy, hnumber, hbasis]
    · simp [ofNumber, hy]
  rw [monitored_withLines, hlines]

/-! ### The changes of chapter 8 to a record (R148 to R152) -/

theorem lines_unnamed (h : findLine r.lines num = none) :
    serviceDone num x r = .inl .badField ∧ waived num x r = .inl .badField ∧ lineRemoved num r = .inl .badField := by
  simp only [serviceDone, waived, lineRemoved, h, and_self]

section
variable (h : findLine r.lines num = some l)
include h

theorem serviceDone_refused (hx : x < l.lastDone ∨ lifetime r l.basis < x) : serviceDone num x r = .inl .badReading := by
  simp only [serviceDone, h, if_neg (show ¬(l.lastDone ≤ x ∧ x ≤ lifetime r l.basis) by omega)]

theorem waived_refused (hx : l.interval < x) : waived num x r = .inl .badField := by
  simp only [waived, h, if_neg (show ¬x ≤ l.interval by omega)]

theorem serviceDone_taken (hlow : l.lastDone ≤ x) (hhigh : x ≤ lifetime r l.basis) : serviceDone num x r = .inr
    { r with lines := r.lines.map fun y =>
               if y.number = num then judged { y with lastDone := x, waiver := none } (lifetime r y.basis) else y,
             restricted := restricts (r.lines.map fun y =>
               if y.number = num then judged { y with lastDone := x, waiver := none } (lifetime r y.basis) else y) } := by
  simp only [serviceDone, h, if_pos (And.intro hlow hhigh)]
  rw [monitored_edited (fun y => { y with lastDone := x, waiver := none }) (fun _ => rfl) fun _ => rfl]

theorem waived_taken (hx : x ≤ l.interval) : waived num x r = .inr
    { r with lines := r.lines.map fun y => if y.number = num then
               judged { y with waiver := if x = 0 then none else some x } (lifetime r y.basis) else y,
             restricted := restricts (r.lines.map fun y => if y.number = num then
               judged { y with waiver := if x = 0 then none else some x } (lifetime r y.basis) else y) } := by
  simp only [waived, h, if_pos hx]
  rw [monitored_edited (fun y => { y with waiver := if x = 0 then none else some x }) (fun _ => rfl) fun _ => rfl]

theorem lineRemoved_taken : lineRemoved num r = .inr
    { r with lines := r.lines.filter fun y => !decide (y.number = num),
             restricted := restricts (r.lines.filter fun y => !decide (y.number = num)) } := by
  simp only [lineRemoved, h]
  rfl

end

theorem meterChanged_refused {old : Nat} (h : old < r.reading ∨ r.offset + old < x ∨ 99999999 < r.offset + old) :
    meterChanged old x r = .inl .badReading := by
  simp only [meterChanged, if_pos h]

/-- R148: a meter changed at a final above the reading has its hour lines evaluated at the lifetime then reached. -/
theorem meterChanged_moved {old : Nat} (hold : r.reading < old) (hx : x ≤ r.offset + old) (hmax : r.offset + old ≤ 99999999) :
    meterChanged old x r = .inr { r with
      reading := x, offset := r.offset + old - x, stamp := none,
      lines := r.lines.map fun y => if y.basis = .hours then judged y ((r.offset + old : Nat) : Int) else y,
      restricted := restricts
        (r.lines.map fun y => if y.basis = .hours then judged y ((r.offset + old : Nat) : Int) else y) } := by
  have hsum : x + (r.offset + old - x) = r.offset + old := by omega
  have hpick (y : ServiceLine) :
      (if ofBasis .hours y then judged y
          (lifetime { r with reading := x, offset := r.offset + old - x, stamp := none } y.basis) else y) =
        if y.basis = .hours then judged y ((r.offset + old : Nat) : Int) else y := by
    by_cases hy : y.basis = .hours
    · simp only [ofBasis, hy, decide_true, if_true, lifetime, hsum]
    · simp [ofBasis, hy]
  simp only [meterChanged, if_neg (show ¬(old < r.reading ∨ r.offset + old < x ∨ 99999999 < r.offset + old) by omega),
    if_neg (show ¬old = r.reading by omega), monitored_eq, hpick]

theorem meterChanged_same (hx : x ≤ r.offset + r.reading) (hmax : r.offset + r.reading ≤ 99999999) :
    meterChanged r.reading x r = .inr { r with reading := x, offset := r.offset + r.reading - x, stamp := none } := by
  simp only [meterChanged, if_neg
    (show ¬(r.reading < r.reading ∨ r.offset + r.reading < x ∨ 99999999 < r.offset + r.reading) by omega), if_true]

end

/-! ### The notices of an event (R139, R140) -/

section
variable {old : List ServiceLine} {r : MachineRecord} {cause : ServiceCause}

/-- The state that a list of lines gives a number, none when no line has it. -/
def stateIn (ls : List ServiceLine) (k : Nat) : Option LineState := (findLine ls k).map fun y => y.state

/-- R139: the SERVICE_STATE that tells of the line a number has, or else had. -/
def TellsOf (old : List ServiceLine) (r : MachineRecord) (cause : ServiceCause) (k : Nat) (note : NoticeBody) : Prop :=
  ∃ y, (findLine r.lines k).or (findLine old k) = some y
    ∧ note = .serviceState r.fleet k y.basis (stateIn old k) (stateIn r.lines k) (lifetime r y.basis) (duePoint y) cause

theorem stateNote_unchanged {k : Nat} (h : stateIn old k = stateIn r.lines k) : stateNote old r cause k = [] := by
  simp only [stateIn] at h
  unfold stateNote
  split <;> simp_all

theorem stateNote_changed {k : Nat} (h : stateIn old k ≠ stateIn r.lines k) :
    ∃ note, stateNote old r cause k = [note] ∧ TellsOf old r cause k note := by
  simp only [stateIn] at h
  unfold stateNote TellsOf
  split <;> simp_all [stateIn]

/-- R139: the notices of a list of numbers are one for each number whose state changed, in the list's order. -/
theorem stateNotes_tell (ks : List Nat) :
    List.Forall₂ (TellsOf old r cause) (ks.filter fun k => decide (stateIn old k ≠ stateIn r.lines k))
      (ks.flatMap (stateNote old r cause)) := by
  induction ks with
  | nil => exact .nil
  | cons k ks ih =>
    by_cases hk : stateIn old k = stateIn r.lines k
    · simpa [hk, stateNote_unchanged hk] using ih
    · obtain ⟨note, hnote, htells⟩ := stateNote_changed (cause := cause) hk
      simpa [hk, hnote] using And.intro htells ih

end

/-! ### SET_LINE (R151) -/

section
variable {x : ServiceLine}

theorem findLine_map {f : ServiceLine → ServiceLine} (hf : ∀ y, (f y).number = y.number) (ls : List ServiceLine) (k : Nat) :
    findLine (ls.map f) k = (findLine ls k).map f := by
  simp only [findLine, List.find?_map, Function.comp_def, hf]

theorem findLine_cons (y : ServiceLine) (ys : List ServiceLine) (k : Nat) :
    findLine (y :: ys) k = if y.number = k then some y else findLine ys k := by
  by_cases hy : y.number = k
  · simp [findLine, hy]
  · simp [findLine, hy]

theorem findLine_placeLine_self (ls : List ServiceLine) : findLine (placeLine x ls) x.number = some x := by
  induction ls with
  | nil => rw [placeLine, findLine_cons, if_pos rfl]
  | cons y ys ih =>
    unfold placeLine
    split
    · rw [findLine_cons, if_pos rfl]
    · split
      · rw [findLine_cons, if_pos rfl]
      · next hne => rw [findLine_cons, if_neg (Ne.symm hne), ih]

theorem findLine_placeLine_other {k : Nat} (hk : k ≠ x.number) (ls : List ServiceLine) :
    findLine (placeLine x ls) k = findLine ls k := by
  induction ls with
  | nil => rw [placeLine, findLine_cons, if_neg (Ne.symm hk)]
  | cons y ys ih =>
    unfold placeLine
    split
    · rw [findLine_cons, if_neg (Ne.symm hk)]
    · split
      · next heq => rw [findLine_cons, if_neg (Ne.symm hk), findLine_cons, if_neg (heq ▸ Ne.symm hk)]
      · rw [findLine_cons, findLine_cons, ih]

/-- R5: where a line goes among lines in number order. -/
theorem placeLine_sorted {ls : List ServiceLine} (h : ls.Pairwise fun a b => a.number < b.number) :
    placeLine x ls = ls.filter (fun y => decide (y.number < x.number)) ++ [x]
      ++ ls.filter (fun y => decide (x.number < y.number)) := by
  induction ls with
  | nil => rfl
  | cons y ys ih =>
    obtain ⟨hy, hys⟩ := List.pairwise_cons.1 h
    have habove (hxy : x.number ≤ y.number) : ys.filter (fun z => decide (z.number < x.number)) = []
        ∧ ys.filter (fun z => decide (x.number < z.number)) = ys :=
      ⟨List.filter_eq_nil_iff.2 fun z hz => by have := hy z hz; simp; omega,
        List.filter_eq_self.2 fun z hz => by have := hy z hz; simp; omega⟩
    unfold placeLine
    split
    · next hlt =>
      obtain ⟨hbelow, hkept⟩ := habove (by omega)
      simp [hbelow, hkept, hlt, show ¬y.number < x.number by omega]
    · split
      · next heq =>
        obtain ⟨hbelow, hkept⟩ := habove (by omega)
        rw [List.filter_cons_of_neg (by simp [heq]), List.filter_cons_of_neg (by simp [heq]), hbelow, hkept]
        rfl
      · simp [ih hys, show y.number < x.number by omega, show ¬x.number < y.number by omega]

end

section
variable {r : MachineRecord} {l : ServiceLine}

theorem lineSet_refused (h : lifetime r l.basis < l.lastDone) : lineSet l r = .inl .badReading := by
  simp only [lineSet, if_pos h]

/-- R151: what SET_LINE makes of the list: the line in its place and evaluated, every other line kept. -/
theorem lineSet_taken (h : l.lastDone ≤ lifetime r l.basis) {new : ServiceLine}
    (hnew : new = judged { l with waiver := keptWaiver (findLine r.lines l.number) l } (lifetime r l.basis)) :
    ∃ ls, lineSet l r = .inr { r with lines := ls, restricted := restricts ls }
      ∧ findLine ls l.number = some new ∧ (∀ k, k ≠ l.number → findLine ls k = findLine r.lines k)
      ∧ (r.lines.Pairwise (fun a b => a.number < b.number) →
        ls = r.lines.filter (fun y => decide (y.number < l.number)) ++ [new]
          ++ r.lines.filter (fun y => decide (l.number < y.number))) := by
  subst hnew
  have hnumber (y : ServiceLine) :
      (if ofNumber l.number y then judged y (lifetime r y.basis) else y).number = y.number := by split <;> rfl
  have hother {y : ServiceLine} (hy : y.number ≠ l.number) :
      (if ofNumber l.number y then judged y (lifetime r y.basis) else y) = y := by simp [ofNumber, hy]
  refine ⟨_, by rw [lineSet, if_neg (Nat.not_lt.2 h), monitored_withLines], ?_, fun k hk => ?_, fun hsorted => ?_⟩
  · rw [findLine_map hnumber, findLine_placeLine_self (x := { l with waiver := _ })]
    simp [ofNumber]
  · rw [findLine_map hnumber, findLine_placeLine_other (x := { l with waiver := keptWaiver (findLine r.lines l.number) l }) hk]
    cases hy : findLine r.lines k with
    | none => rfl
    | some y =>
      have hyk : y.number = k := by simpa using List.find?_some hy
      rw [Option.map_some, hother (hyk ▸ hk)]
  · have hkept (p : ServiceLine → Bool) (hp : ∀ y, p y = true → y.number ≠ l.number) :
        (r.lines.filter p).map (fun y => if ofNumber l.number y then judged y (lifetime r y.basis) else y) =
          r.lines.filter p :=
      (List.map_congr_left fun y hy => hother (hp y (List.mem_filter.1 hy).2)).trans (List.map_id _)
    rw [placeLine_sorted hsorted, List.map_append, List.map_append, hkept, hkept]
    · simp [ofNumber]
    · intro y hy
      have : l.number < y.number := by simpa using hy
      omega
    · intro y hy
      have : y.number < l.number := by simpa using hy
      omega

end

/-- Settles O52: each clause is the law of the change it names, once the obligation's readings and bands are read as the
model's. -/
theorem serviceChangesOfALine : Obligations.ServiceChangesOfALine := by
  unfold Obligations.ServiceChangesOfALine
  intro r num x life evaluated restricted
  have hlife : life = lifetime r := funext fun b => by cases b <;> rfl
  have hevaluated : evaluated = judged := funext₂ fun l v => rfl
  have hrestricted : restricted = restricts := rfl
  clear_value life evaluated restricted
  subst hlife hevaluated hrestricted
  refine ⟨fun pick => monitored_eq pick r, lines_unnamed, fun l h =>
    ⟨serviceDone_refused h, waived_refused h, serviceDone_taken h, waived_taken h, lineRemoved_taken h⟩,
    fun old => meterChanged_refused, fun old => meterChanged_moved, meterChanged_same, fun old flag cause => ?_, fun l =>
      ⟨lineSet_refused, fun h => lineSet_taken h (by unfold keptWaiver; cases findLine r.lines l.number <;> rfl)⟩⟩
  refine ⟨[1, 2, 3, 4].filter fun k => decide (stateIn old k ≠ stateIn r.lines k),
    [1, 2, 3, 4].flatMap (stateNote old r cause), rfl, List.Pairwise.filter _ (by decide), fun k => ?_, stateNotes_tell _⟩
  have hfour : k ∈ [1, 2, 3, 4] ↔ 1 ≤ k ∧ k ≤ 4 := by
    simp only [List.mem_cons, List.not_mem_nil, or_false]
    omega
  rw [List.mem_filter, decide_eq_true_eq, hfour, and_assoc]
  exact Iff.rfl

end Sys2Proof.Proofs

namespace Sys2Proof.Proofs
open Sys2Proof Sys2Proof.Machine

/-! ### The end of a store operation in READY (R12 to R15) -/

section
variable {s : State} {d : StoreData} (h : s.Up)
include h

/-- A block of deliveries, tanks and records ends its event in READY by starting the head of the queue. -/
theorem settle_of_within {t : State} (hw : Within False s t) : t.settle = t.startStore :=
  settle_of_ready (by rw [hw.startUp]; exact h.2)

theorem exec_fetch_up {l : LineId} {k : SlotId} {retry : Bool} (res : FetchResult)
    (hx : s.table.inFlight = some { op := .fetch l k retry, data := d, discarded := false }) :
    exec (.fetchComplete res) s =
      .next (s.endFetch { op := .fetch l k retry, data := d, discarded := false } l k retry res).startStore := by
  rw [exec_fetchComplete res h.1 hx, settle_of_within h]
  exact (Within.refl s).endFetch _ _ _ _ _ False.elim

theorem exec_write_up {l : LineId} {k : SlotId} (ok : Bool)
    (hx : s.table.inFlight = some { op := .write l k, data := d, discarded := false }) :
    exec (.writeComplete ok) s =
      .next (s.endWrite { op := .write l k, data := d, discarded := false } l k ok).startStore := by
  rw [exec_writeComplete ok h.1 hx, settle_of_within h]
  exact (Within.refl s).endWrite ..

theorem exec_erase_up {k : SlotId} {asker : Option Port} (ok : Bool)
    (hx : s.table.inFlight = some { op := .erase k asker, data := d, discarded := false }) :
    exec (.eraseComplete ok) s = .next (s.endErase k asker ok).startStore := by
  rw [exec_eraseComplete ok h.1 hx, settle_of_within h]
  exact (Within.refl s).endErase ..

theorem exec_configWrite_up (ok : Bool)
    (hx : s.table.inFlight = some { op := .configWrite, data := d, discarded := false }) :
    exec (.configWriteComplete ok) s = .next (s.endConfigWrite ok).startStore := by
  rw [exec_configWriteComplete ok h.1 hx, settle_of_within h]
  exact (Within.refl s).endConfigWrite ..

end

/-! ### A FETCH that read its record (R13) -/

section
variable {s : State} {l : LineId} {k g : SlotId} {f : Nat} {r : MachineRecord} {x : InFlight} {retry : Bool}

theorem endFetch_record (hx : x.discarded = false) (hc : (s.line l).content = .fetching f g) (hr : r.fleet = f) :
    s.endFetch x l k retry (.record r) = (headerEnded s 0).fetched l k r := by
  simp only [State.endFetch, hx, hc, acceptedRecord, hr, Bool.false_eq_true, if_false, if_true]
  rfl

/-- R13: the results of a FETCH that bring no record of the machine asked for. -/
def Fails (f : Nat) (res : FetchResult) : Prop := res = .failed ∨ res = .badCheck ∨ ∃ r, res = .record r ∧ r.fleet ≠ f

theorem acceptedRecord_of_fails {res : FetchResult} (h : Fails f res) : acceptedRecord f res = none := by
  obtain rfl | rfl | ⟨r, rfl, hr⟩ := h
  · rfl
  · rfl
  · exact if_neg hr

theorem endFetch_fails {res : FetchResult} (hx : x.discarded = false) (hc : (s.line l).content = .fetching f g)
    (h : Fails f res) : s.endFetch x l k retry res =
      (headerEnded s (s.table.failures + 1)).fetchFailed l f k retry (!FetchFailed res) := by
  simp only [State.endFetch, hx, hc, acceptedRecord_of_fails h, Bool.false_eq_true, if_false]
  rfl

/-- R13: the deliveries whose open ticket a fetched record may keep. -/
theorem ticketHeld_iff (s : State) (t f : Nat) : s.ticketHeld t f = true ↔
    (∃ n, (s.ctx n).state ∉ [.free, .loaded, .fetching] ∧ (s.delivery n).ticket = t ∧ (s.delivery n).fleet = f)
      ∨ ∃ j x, s.slot j = .holding x ∧ x.delivery.ticket = t ∧ x.delivery.fleet = f := by
  have hpast (x : NozzleState) : x.pastIdent = true ↔ x ∉ [.free, .loaded, .fetching] := by cases x <;> decide
  rw [State.ticketHeld, Bool.or_eq_true, allNozzles_eq, allSlots_eq, List.any_eq_true, List.any_eq_true]
  refine or_congr (exists_congr fun n => ?_) (exists_congr fun j => ?_)
  · simp only [List.mem_finRange, true_and, Bool.and_eq_true, decide_eq_true_eq, hpast, and_assoc]
  · cases s.slot j <;> simp

theorem touch_touch (s : State) (l : LineId) : (s.touch l).touch l = s.touch l := by
  simp only [State.touch, State.modTable]
  rw [List.filter_cons_of_neg (by simp), List.filter_filter]
  simp only [Bool.and_self]

theorem touch_putRecord (s : State) (l : LineId) (k : SlotId) (r : MachineRecord) :
    (s.putRecord l k r).touch l = s.putRecord l k r := touch_touch ..

/-- R13: a record read into its line, CLEAN and the most recent. -/
def recordRead (s : State) (l : LineId) (k : SlotId) (r : MachineRecord) : State :=
  (s.modLine l fun x => { x with content := .held .clean k r, waiters := [] }).touch l

theorem fetched_kept (h : ∀ t, r.openTicket = some t → s.ticketHeld t r.fleet = true) : s.fetched l k r =
    ((s.line l).waiters.foldl (State.dealWith r.fleet) (recordRead s l k r)).lineFreed := by
  have hdrop : (s.modLine l fun x => { x with content := .held .clean k r, waiters := [] }).dropStaleTicket l r =
      s.modLine l fun x => { x with content := .held .clean k r, waiters := [] } := by
    unfold State.dropStaleTicket
    split
    · rfl
    · next t ht => exact if_pos (h t ht)
  simp only [State.fetched, hdrop, recordRead]

theorem fetched_stale {t : Nat} (ht : r.openTicket = some t) (h : s.ticketHeld t r.fleet = false) : s.fetched l k r =
    ((s.line l).waiters.foldl (State.dealWith r.fleet)
      ((s.modLine l fun x => { x with content := .held .clean k r, waiters := [] }).putRecord l k
        { r with used := if r.usageShift = s.clock.shift then r.used else 0, usageShift := s.clock.shift,
                 openTicket := none })).lineFreed := by
  have hdrop : (s.modLine l fun x => { x with content := .held .clean k r, waiters := [] }).dropStaleTicket l r =
      (s.modLine l fun x => { x with content := .held .clean k r, waiters := [] }).changeRecord l
        (fun x => { x with openTicket := none }) := by
    simp only [State.dropStaleTicket, ht]
    exact if_neg fun (hheld : s.ticketHeld t r.fleet = true) => absurd hheld (by rw [h]; exact Bool.false_ne_true)
  simp only [State.fetched, hdrop]
  rw [changeRecord_held (st := .clean) (k := k) (r := r), touch_putRecord, lazyReset_eq]
  · rfl
  · rw [State.line_modLine_self]

end

/-! ### A FETCH that failed (R14) -/

section
variable {s : State} {l : LineId} {k : SlotId} {f : Nat} {bad : Bool}

theorem fetchFailed_first (h : s.table.failures < 3) : s.fetchFailed l f k false bad =
    s.modTable fun t => { t with queue := .fetch l k true :: t.queue } := by
  simp only [State.fetchFailed, if_neg (Nat.not_le.2 h), Bool.false_eq_true, if_false]

/-- R14: a line emptied after its FETCH failed, the entry DAMAGED when the record failed its check. -/
def fetchLost (s : State) (l : LineId) (f : Nat) (damaged : Bool) : State :=
  { s with table := { s.table with
    lines := s.table.lines.write l emptyLine,
    index := if damaged then s.table.index.map fun e => if e.fleet = f then { e with damaged := true } else e
      else s.table.index } }

theorem emptyOut_marked (s : State) (l : LineId) (f : Nat) (damaged : Bool) :
    (if damaged then s.markEntry f true else s).emptyOut l = fetchLost s l f damaged := by
  cases damaged <;> rfl

theorem fetchFailed_retried (h : s.table.failures < 3) : s.fetchFailed l f k true bad =
    ((s.line l).waiters.foldl (State.failWaiter (if bad then .damaged else .storeFault) f) (fetchLost s l f bad)).lineFreed := by
  simp only [State.fetchFailed, if_neg (Nat.not_le.2 h), if_true, Bool.true_and, emptyOut_marked]

theorem fetchFailed_third {retry : Bool} (h : 3 ≤ s.table.failures) : s.fetchFailed l f k retry bad =
    ((s.line l).waiters.foldl (State.refuse .storeFault) (fetchLost s l f (retry && bad))).enterFaulted := by
  simp only [State.fetchFailed, if_pos h, emptyOut_marked]

end

/-! ### Requesters refused (R8, R14) -/

section
variable {s : State} {p : Port}

theorem answer_of_none (h : (s.port p).inHand = none) (st : Status) (g : Payload) : s.answer p st g = s := by
  simp only [State.answer, h]

theorem requestInHand_of_inHand {tag : Byte} {q : WaitingRequest} (h : (s.port p).inHand = some { tag := tag, request := q }) :
    s.requestInHand p = some q := by simp only [State.requestInHand, h]

theorem requestInHand_of_none (h : (s.port p).inHand = none) : s.requestInHand p = none := by
  simp only [State.requestInHand, h]

theorem failWaiter_rebuild {w : RecordRefusal} {f : Nat} {x : RebuildFields} (h : s.requestInHand p = some (.rebuild x)) :
    s.failWaiter w f (.port p) = s.tryRebuild p x := by
  have hb : s.isRebuild (.port p) = true := by simp only [State.isRebuild, h]
  rw [State.failWaiter, if_pos hb, dealWith_rebuild h]

theorem failWaiter_refused {w : RecordRefusal} {f : Nat} {who : Requester} (h : s.isRebuild who = false) :
    s.failWaiter w f who = s.refuse w who := if_neg (by rw [h]; exact Bool.false_ne_true)

theorem isRebuild_of_none (h : s.requestInHand p = none) : s.isRebuild (.port p) = false := by
  simp only [State.isRebuild, h]

end

/-! ### The ends of WRITE, ERASE and CONFIG_WRITE (R14, R183) -/

section
variable {s : State}

theorem written_held {l : LineId} {k : SlotId} {st : HeldState} {r : MachineRecord} (hc : (s.line l).content = .held st k r) :
    s.written l = s.modLine l fun x => { x with content := .held (if x.writeQueued then .dirty else .clean) k r } := by
  simp only [State.written, hc]

theorem checkFailures_short (h : s.table.failures < 3) : s.checkFailures = s := if_neg (Nat.not_le.2 h)

theorem checkFailures_third (h : 3 ≤ s.table.failures) : s.checkFailures = s.enterFaulted := if_pos h

theorem queueConfigWrite_eq (s : State) : s.queueConfigWrite = { s with table := { s.table with
    queue := if .configWrite ∈ s.table.queue then s.table.queue else s.table.queue ++ [.configWrite] } } := by
  have hqueued : s.configWriteQueued = true ↔ .configWrite ∈ s.table.queue := by
    rw [State.configWriteQueued, List.any_eq_true]
    simp only [decide_eq_true_eq, exists_eq_right]
  unfold State.queueConfigWrite
  by_cases h : .configWrite ∈ s.table.queue
  · rw [if_pos (hqueued.2 h), if_pos h]
  · rw [if_neg (mt hqueued.1 h), if_neg h]
    rfl

end

end Sys2Proof.Proofs

namespace Sys2Proof.Proofs
open Sys2Proof Sys2Proof.Machine

/-! ### CONFIG_SETs answered (R183) -/

/-- R183: a port whose CONFIG_SET waits, covered where only those are meant, once it is answered. -/
def configAnswered (st : Status) (onlyCovered : Bool) (x : PortState) : PortState :=
  match x.inHand with
  | some { tag := tag, request := .configSet covered } =>
    if covered || !onlyCovered then { x with inHand := none, line := x.line ++ [answerTo .configSet tag st .nothing] }
    else x
  | _ => x

theorem modPort_of_same {s : State} {p : Port} {f : PortState → PortState} (h : f (s.port p) = s.port p) :
    s.modPort p f = s := by
  rw [State.modPort, h, State.port, write_read]

theorem answerConfig_eq (st : Status) (b : Bool) (s : State) (p : Port) :
    State.answerConfig st b s p = s.modPort p (configAnswered st b) := by
  have hsame (h : configAnswered st b (s.port p) = s.port p) (hs : State.answerConfig st b s p = s) :
      State.answerConfig st b s p = s.modPort p (configAnswered st b) := hs.trans (modPort_of_same h).symm
  cases hin : (s.port p).inHand with
  | none => exact hsame (by simp only [configAnswered, hin]) (by simp only [State.answerConfig, State.requestInHand, hin])
  | some x =>
    obtain ⟨tag, q⟩ := x
    cases q with
    | configSet c =>
      by_cases hc : (c || !b) = true
      · simp only [State.answerConfig, State.requestInHand, hin, if_pos hc]
        rw [answer_of_inHand hin]
        exact State.modPort_congr _ _ _ _ (by simp only [configAnswered, hin, if_pos hc]; rfl)
      · exact hsame (by simp only [configAnswered, hin, if_neg hc])
          (by simp only [State.answerConfig, State.requestInHand, hin, if_neg hc])
    | _ => exact hsame (by simp only [configAnswered, hin]) (by simp only [State.answerConfig, State.requestInHand, hin])

theorem answerConfigs_foldl (st : Status) (b : Bool) (ps : List Port) (s : State) :
    ps.foldl (State.answerConfig st b) s = { s with
      ports := ps.foldl (fun v p => v.write p (configAnswered st b (v.read p))) s.ports } := by
  induction ps generalizing s with
  | nil => rfl
  | cons p ps ih => rw [List.foldl_cons, answerConfig_eq, ih]; rfl

/-- R183: each port's CONFIG_SET answered, whatever the other ports hold. -/
theorem answerConfigs_eq (st : Status) (b : Bool) (s : State) : allPorts.foldl (State.answerConfig st b) s =
    { s with ports := Tab.mapWith (fun _ => configAnswered st b) s.ports } := by
  rw [answerConfigs_foldl, allPorts_eq, foldl_write_finRange fun _ => configAnswered st b]

/-! ### The waiters of a FETCH that failed on its retry (R14) -/

section
variable {s : State} {p : Port} {w : RecordRefusal} {f : Nat}

theorem failWaiter_idle (h : (s.port p).inHand = none) : s.failWaiter w f (.port p) = s := by
  rw [failWaiter_refused (isRebuild_of_none (requestInHand_of_none h)), State.refuse, answer_of_none h]

theorem failWaiter_other {tag : Byte} {q : WaitingRequest} (h : (s.port p).inHand = some { tag := tag, request := q })
    (hq : ∀ x, q ≠ .rebuild x) : s.failWaiter w f (.port p) = s.modPort p fun x =>
      { x with inHand := none, line := x.line ++ [answerTo q.code tag w.status .nothing] } := by
  rw [failWaiter_refused (isRebuild_of_other (requestInHand_of_inHand h) hq), State.refuse, answer_of_inHand h]

/-- R14: the status that the failure of a FETCH gives its waiters. -/
theorem status_of_fails {res : FetchResult} (h : Fails f res) :
    (if (!FetchFailed res) = true then RecordRefusal.damaged else .storeFault).status =
      if res = .failed then .storeFault else .recordDamaged := by
  obtain rfl | rfl | ⟨r, rfl, -⟩ := h <;> rfl

theorem reason_of_fails {res : FetchResult} (h : Fails f res) :
    (if (!FetchFailed res) = true then RecordRefusal.damaged else .storeFault).reason =
      if res = .failed then .storeFault else .recordDamaged := by
  obtain rfl | rfl | ⟨r, rfl, -⟩ := h <;> rfl

end

/-! ### An IDENT step given the record fetched for it (R87, R88) -/

section
variable {s : State} {l : LineId} {k : SlotId} {f : Nat} {r : MachineRecord} {n : NozzleId}

theorem dealWith_ident_given {y : State} (h : s.requestRecord f (.ident n) = (y, .given l)) :
    s.dealWith f (.ident n) = y.identGiven n l := by simp only [State.dealWith, h]

theorem identGiven_refused {y : State} (h : s.identTest n l = (y, false)) : s.identGiven n l = y := by
  simp only [State.identGiven, h, Bool.false_eq_true, if_false]

theorem identGiven_passed {y : State} (h : s.identTest n l = (y, true)) : s.identGiven n l = y.runRest n := by
  simp only [State.identGiven, h, if_true]

theorem line_recordRead (j : LineId) : (recordRead s l k r).line j =
    if j = l then { s.line l with content := .held .clean k r, waiters := [] } else s.line j := by
  rw [recordRead, State.touch, State.modTable, State.modLine]
  simp only [State.line, read_write]

/-- R13: the machine whose record a FETCH brought is found in the line that fetched it. -/
theorem lineFor_recordRead (hl : s.lineFor f = some l) (hr : r.fleet = f) : (recordRead s l k r).lineFor f = some l := by
  obtain ⟨-, hlower⟩ := (lineFor_eq_some_iff f l).1 hl
  refine (lineFor_eq_some_iff f l).2 ⟨?_, fun j hj => ?_⟩
  · rw [line_recordRead, if_pos rfl]
    exact congrArg some hr
  · rw [line_recordRead, if_neg (ne_of_lt hj)]
    exact hlower j hj

theorem dealWith_recordRead {e : IndexEntry} (he : s.enrolled f = some e) (hd : e.damaged = false)
    (hl : s.lineFor f = some l) (hr : r.fleet = f) :
    (recordRead s l k r).dealWith f (.ident n) = (recordRead s l k r).identGiven n l := by
  have htouch : (recordRead s l k r).touch l = recordRead s l k r := touch_touch ..
  have hgiven : (recordRead s l k r).requestRecord f (.ident n) = ((recordRead s l k r).touch l, .given l) :=
    requestRecord_held (s := recordRead s l k r) (st := .clean) (k := k) (r := r) _ he hd
      (lineFor_recordRead hl hr) (by rw [line_recordRead, if_pos rfl])
  rw [dealWith_ident_given hgiven, htouch]

end

/-! ### The ends of ERASE and CONFIG_WRITE (R14, R25, R183) -/

section
variable {s : State} {k : SlotId}

theorem endErase_answered (p : Port) : s.endErase k (some p) true = ((headerEnded s 0).erased k).answer p .ok .nothing := rfl

theorem endErase_again {p : Port} (h : s.table.failures + 1 < 3) : s.endErase k (some p) false =
    (headerEnded s (s.table.failures + 1)).enqueue (.erase k (some p)) := by
  exact if_neg (Nat.not_le.2 h)

theorem endErase_given (h : s.table.failures + 1 < 3) : s.endErase k none false =
    (headerEnded s (s.table.failures + 1)).setSlotState k .used := by
  exact if_neg (Nat.not_le.2 h)

theorem endConfigWrite_false (s : State) : s.endConfigWrite false =
    (headerEnded s (s.table.failures + 1)).queueConfigWrite.checkFailures := rfl

end

/-- Settles O59: each completion is the end of its operation, read off the laws of `fetched`, `fetchFailed`, `endWrite`,
`endErase` and `endConfigWrite`. -/
theorem storeOperationsEnd : Obligations.StoreOperationsEnd := by
  unfold Obligations.StoreOperationsEnd
  intro op data s h hx ended bad
  refine ⟨?_, ?_, ?_, ?_, ?_⟩
  · rintro l slot retry f k rfl hc ws
    refine ⟨?_, fun res hfails hbad => ⟨?_, ?_⟩⟩
    · rintro r rfl held fresh queued filled gives
      have hheld (t : Nat) : State.ticketHeld (headerEnded s 0) t r.fleet = true ↔ held t := ticketHeld_iff s t r.fleet
      refine ⟨fun hkeep => ?_, fun t ht hn => ?_⟩
      · show exec _ s = _
        rw [exec_fetch_up h _ hx, endFetch_record rfl hc rfl, fetched_kept fun t ht => (hheld t).2 (hkeep t ht)]
        rfl
      · show exec _ s = _
        rw [exec_fetch_up h _ hx, endFetch_record rfl hc rfl,
          fetched_stale ht (Bool.eq_false_iff.2 (mt (hheld t).1 hn)), putRecord_eq]
        rw [State.line_modLine_self, State.modLine, write_write]
        rfl
    · rintro rfl
      rw [exec_fetch_up h _ hx, endFetch_fails rfl hc hfails, fetchFailed_first hbad]
      rfl
    · rintro rfl empty refused
      have hempty : fetchLost (headerEnded s (s.table.failures + 1)) l f (!FetchFailed res) = empty := by
        obtain rfl | rfl | ⟨r, rfl, -⟩ := hfails <;> rfl
      have hrefused : State.failWaiter (if (!FetchFailed res) = true then .damaged else .storeFault) f = refused :=
        funext₂ fun y who => by
          cases who with
          | ident n => rw [failWaiter_refused rfl, State.refuse, reason_of_fails hfails]
          | port p =>
            simp only [refused]
            cases hin : (y.port p).inHand with
            | none => exact failWaiter_idle hin
            | some x =>
              obtain ⟨tag, q⟩ := x
              cases q with
              | rebuild x => exact failWaiter_rebuild (requestInHand_of_inHand hin)
              | _ => rw [failWaiter_other hin (by simp), status_of_fails hfails]
      rw [exec_fetch_up h _ hx, endFetch_fails rfl hc hfails, fetchFailed_retried hbad, hempty, hrefused]
      rfl
  · rintro l slot retry f k r n d t v rfl hc hws hl he hr hopen hd hstep got tests
    obtain ⟨e, he, hdamaged⟩ := Option.map_eq_some_iff.1 he
    have hgot : recordRead (headerEnded s 0) l slot r = got := rfl
    have hends : exec (.fetchComplete (.record r)) s = .next (got.identGiven n l).lineFreed.startStore := by
      rw [exec_fetch_up h _ hx, endFetch_record rfl hc hr, fetched_kept (fun t ht => by simp [hopen] at ht)]
      rw [show ((headerEnded s 0).line l).waiters = [.ident n] from hws, List.foldl_cons, List.foldl_nil, hr,
        dealWith_recordRead (s := headerEnded s 0) he hdamaged hl hr, hgot]
    have hline : (got.line l).content = .held .clean slot r := by
      rw [← hgot, line_recordRead, if_pos rfl]
    have hident : (got.ctx n).identStep = (t, v) := identStep_of_step hstep
    refine ⟨fun why htests => ?_, fun htests => ?_⟩
    · rw [hends, identGiven_refused (identTest_refused hline hident htests)]
    · rw [hends, identGiven_passed (identTest_passed hline hident hd htests)]
  · rintro l slot st k r rfl hc
    refine ⟨?_, fun hbad => ?_⟩
    · rw [exec_write_up h _ hx, endWrite_true _ _ _ _ rfl, written_held (s := headerEnded s 0) hc]
      rfl
    · rw [exec_write_up h _ hx, endWrite_false _ _ _ _ rfl, writeAgain_held (s := headerEnded s _) hc, checkFailures_short hbad]
      rfl
  · rintro slot asker rfl gone
    refine ⟨?_, fun p tag f ha hin => ?_, fun p ha hbad => ?_, fun ha hbad => ?_⟩
    · rintro rfl
      rw [exec_erase_up h _ hx]
      rfl
    · subst ha
      rw [exec_erase_up h _ hx, endErase_answered, answer_of_inHand (s := (headerEnded s 0).erased slot) hin]
      rfl
    · subst ha
      rw [exec_erase_up h _ hx, endErase_again hbad]
      rfl
    · subst ha
      rw [exec_erase_up h _ hx, endErase_given hbad]
      rfl
  · rintro rfl
    refine ⟨⟨allPorts.foldl (State.answerConfig .ok true) (headerEnded s 0), ?_, fun p => ?_, ?_⟩, fun hbad => ?_⟩
    · rw [exec_configWrite_up h _ hx]
      rfl
    · rw [answerConfigs_eq, State.port, read_mapWith]
      show configAnswered .ok true (s.port p) = _
      unfold configAnswered
      cases (s.port p).inHand with
      | none => rfl
      | some x =>
        obtain ⟨tag, q⟩ := x
        cases q with
        | configSet covered => cases covered <;> rfl
        | _ => rfl
    · rw [answerConfigs_eq]
      rfl
    · rw [exec_configWrite_up h _ hx, endConfigWrite_false, queueConfigWrite_eq, checkFailures_short hbad]
      rfl

end Sys2Proof.Proofs

namespace Sys2Proof.Proofs
open Sys2Proof Sys2Proof.Machine

/-! ### What leaves the machine table and the response lines alone -/

/-- The machine table, start-up and what each port is sending. -/
structure Quiet (o s : State) : Prop where
  table : s.table = o.table
  startUp : s.startUp = o.startUp
  line : ∀ p, (s.port p).line = (o.port p).line

section
variable {o s : State}

theorem Quiet.refl (s : State) : Quiet s s := ⟨rfl, rfl, fun _ => rfl⟩

theorem Quiet.of_ports {t : State} (h : Quiet o s) (htable : t.table = s.table) (hstart : t.startUp = s.startUp)
    (hports : t.ports = s.ports) : Quiet o t :=
  ⟨htable.trans h.table, hstart.trans h.startUp, fun p => by rw [State.port, hports]; exact h.line p⟩

theorem Quiet.foldl {α : Type} {f : State → α → State} (hf : ∀ y a, Quiet o y → Quiet o (f y a)) (xs : List α)
    (h : Quiet o s) : Quiet o (xs.foldl f s) := by
  induction xs generalizing s with
  | nil => exact h
  | cons x xs ih => exact ih (hf _ x h)

theorem Quiet.postWhere (h : Quiet o s) (d : Port → Bool) (b : NoticeBody) : Quiet o (s.postWhere d b) :=
  ⟨h.table, h.startUp, fun p => ((port_postWhere_frame s d b p).2).trans (h.line p)⟩

theorem Quiet.modCtx (h : Quiet o s) (n : NozzleId) (f : Context → Context) : Quiet o (s.modCtx n f) := h.of_ports rfl rfl rfl

theorem Quiet.modMeter (h : Quiet o s) (n : NozzleId) (f : Meter → Meter) : Quiet o (s.modMeter n f) := h.of_ports rfl rfl rfl

theorem Quiet.modTank (h : Quiet o s) (t : TankId) (f : Tank → Tank) : Quiet o (s.modTank t f) := h.of_ports rfl rfl rfl

theorem Quiet.leftDemand (h : Quiet o s) (n : NozzleId) : Quiet o (s.leftDemand n) := by
  simp only [State.leftDemand, State.runOnPump]
  split
  · split
    · exact h.modTank ..
    · exact h.modTank ..
  · exact h

theorem Quiet.stopFlow (h : Quiet o s) (n : NozzleId) (r : RunEnd) : Quiet o (s.stopFlow n r) :=
  (((h.modCtx n _).modMeter n _).leftDemand n).postWhere ..

theorem Quiet.quitPriming (h : Quiet o s) (n : NozzleId) (r : RunEnd) : Quiet o (s.quitPriming n r) :=
  ((h.modCtx n _).leftDemand n).postWhere ..

theorem Quiet.heldByFault (h : Quiet o s) (n : NozzleId) (f : PendingFault) (c : HoldCause) : Quiet o (s.heldByFault n f c) :=
  ((h.modCtx n _).modCtx n _).postWhere ..

/-- R68: a RUN ended by the low-stock rule touches no record and sends nothing. -/
theorem Quiet.endLow (h : Quiet o s) (n : NozzleId) : Quiet o (s.endLow n) := by
  unfold State.endLow
  split
  case h_1 => exact (h.quitPriming ..).heldByFault ..
  case h_2 | h_3 | h_4 => exact h.stopFlow ..
  all_goals exact h

theorem Quiet.evaluateTier (h : Quiet o s) (t : TankId) : Quiet o (s.evaluateTier t) := by
  simp only [State.evaluateTier]
  split
  · exact h
  · exact (h.modTank ..).postWhere ..

theorem Quiet.evaluateLow (h : Quiet o s) (t : TankId) : Quiet o (s.evaluateLow t) := by
  simp only [State.evaluateLow]
  split
  · split
    · exact h
    · split
      · exact (h.modTank t _).foldl (fun y n hy => hy.endLow n) _
      · exact h.modTank ..
  · split
    · exact h.modTank ..
    · exact h

theorem Quiet.evaluateTank (h : Quiet o s) (t : TankId) : Quiet o (s.evaluateTank t) := by
  unfold State.evaluateTank
  split
  · exact (h.evaluateTier t).evaluateLow t
  · exact h

end

/-! ### What leaves the state of the store interface alone (R15) -/

section
variable {s : State}

/-- R103: a delivery that finishes leaves the state of the store interface alone. -/
theorem faulted_finishRefused (n : NozzleId) (r : Reason) : (s.finishRefused n r).table.faulted = s.table.faulted := by
  have happ (y : State) (e : JournalEntry) : (y.append e).table.faulted = y.table.faulted :=
    ((Undisturbed.refl y).append e).faulted
  have hchange (y : State) (l : LineId) (f : MachineRecord → MachineRecord) :
      (y.changeRecord l f).table.faulted = y.table.faulted := ((Undisturbed.refl y).changeRecord l f).faulted
  have hfuel (y : State) (l : LineId) (old : Option MachineRecord) :
      (y.evaluateFuel l old).table.faulted = y.table.faulted := ((Undisturbed.refl y).evaluateFuel l old).faulted
  have htank (y : State) (t : TankId) (k : Nat) : (y.chargeTank t k).table = y.table :=
    (((Quiet.refl y).modTank t _).evaluateTank t).table
  have hhand (y : State) (d : Delivery) (w : DeliveryOutcome) : (y.handOn d w).table.faulted = y.table.faulted := by
    simp only [State.handOn]
    split
    · exact happ ..
    · next l _ =>
      show (State.evaluateFuel _ l _).table.faulted = _
      rw [hfuel, htank, hchange, happ]
  exact hhand ..

theorem faulted_answer (p : Port) (st : Status) (g : Payload) : (s.answer p st g).table.faulted = s.table.faulted := by
  unfold State.answer
  split <;> rfl

theorem faulted_refuse (w : RecordRefusal) (who : Requester) : (s.refuse w who).table.faulted = s.table.faulted := by
  cases who with
  | port p => exact faulted_answer ..
  | ident n => exact faulted_finishRefused ..

theorem faulted_dropErase (op : StoreOp) : (s.dropErase op).table.faulted = s.table.faulted := by
  cases op with
  | erase k asker =>
    cases asker with
    | none => rfl
    | some p => exact faulted_answer (s := s.setSlotState k .used) ..
  | _ => rfl

theorem faulted_foldl {α : Type} {f : State → α → State} (hf : ∀ y a, (f y a).table.faulted = y.table.faulted)
    (xs : List α) (s : State) : (xs.foldl f s).table.faulted = s.table.faulted := by
  induction xs generalizing s with
  | nil => rfl
  | cons x xs ih => rw [List.foldl_cons, ih, hf]

/-- R15: lines emptied one after the other. -/
theorem emptyOuts_eq (ls : List LineId) (s : State) : ls.foldl State.emptyOut s = { s with table := { s.table with
    lines := ls.foldl (fun v l => v.write l emptyLine) s.table.lines } } := by
  induction ls generalizing s with
  | nil => rfl
  | cons l ls ih => rw [List.foldl_cons, ih]; rfl

/-- R15: the interface is FAULTED and starts nothing. -/
theorem startStore_enterFaulted : s.enterFaulted.startStore = s.enterFaulted := by
  refine startStore_of_faulted ?_
  rw [State.enterFaulted, State.postAll_table, answerConfigs_eq]
  dsimp only
  rw [faulted_foldl (fun y op => faulted_dropErase op), faulted_foldl (fun y who => faulted_refuse _ who), emptyOuts_eq]
  rfl

end

theorem endErase_third {s : State} {k : SlotId} {asker : Option Port} (h : 3 ≤ s.table.failures + 1) :
    s.endErase k asker false = ((headerEnded s (s.table.failures + 1)).abandonErase k asker).enterFaulted := if_pos h

/-- Settles O60: each completion that fails for the third time ends in `enterFaulted`, which the obligation writes out. -/
theorem thirdFailureFaultsInterface : Obligations.ThirdFailureFaultsInterface := by
  unfold Obligations.ThirdFailureFaultsInterface
  intro op data s h hthird hx ended emptied answered refused dropped configRefused faults
  have hanswered (y : State) (p : Port) : answered y p = y.answer p .storeFault .nothing := by
    simp only [answered]
    cases hin : (y.port p).inHand with
    | none => exact (answer_of_none hin ..).symm
    | some x => exact (answer_of_inHand hin).symm
  have hrefused : State.refuse .storeFault = refused := funext₂ fun y who => by
    cases who with
    | port p => exact (hanswered y p).symm
    | ident n => rfl
  have hdropped : State.dropErase = dropped := funext₂ fun y x => by
    cases x with
    | erase k asker =>
      cases asker with
      | none => rfl
      | some p => exact (hanswered _ p).symm
    | _ => rfl
  have hconfig : State.answerConfig .storeFault false = configRefused := funext₂ fun y p => by
    simp only [configRefused, hanswered, State.answerConfig, State.requestInHand]
    cases hin : (y.port p).inHand with
    | none => rfl
    | some x =>
      obtain ⟨tag, q⟩ := x
      cases q with
      | configSet c => simp
      | _ => rfl
  have hfaults (y : State) : y.enterFaulted = faults y := by
    have hline : StoreOp.fetchLine = fun x => match x with
        | .fetch l _ _ => some l
        | _ => none := funext fun x => by cases x <;> rfl
    have hstays : StoreOp.stays = fun x => match x with
        | .write _ _ => true
        | .configWrite => true
        | _ => false := funext fun x => by cases x <;> rfl
    rw [State.enterFaulted, hrefused, hdropped, hconfig, hline, hstays, emptyOuts_eq]
    rfl
  have hthree : 3 ≤ s.table.failures + 1 := by omega
  refine ⟨?_, ?_, ?_, ?_⟩
  · rintro l slot retry f k res rfl hc hfails
    have hlost : fetchLost (headerEnded s (2 + 1)) l f (retry && !FetchFailed res) = ended { s.table with
        lines := emptied s.table.lines l,
        index := if retry = true ∧ res ≠ .failed then
            s.table.index.map fun e => if e.fleet = f then { e with damaged := true } else e
          else s.table.index } := by
      obtain rfl | rfl | ⟨r, rfl, -⟩ := hfails <;> cases retry <;> rfl
    rw [exec_fetch_up h _ hx, endFetch_fails rfl hc hfails, fetchFailed_third hthree,
      startStore_enterFaulted, hfaults, hthird, hlost, hrefused]
    rfl
  · rintro l slot st k r rfl hc
    rw [exec_write_up h _ hx, endWrite_false _ _ _ _ rfl, writeAgain_held (s := headerEnded s _) hc, checkFailures_third hthree,
      startStore_enterFaulted, hfaults, hthird]
    rfl
  · rintro slot asker rfl
    rw [exec_erase_up h _ hx, endErase_third hthree, startStore_enterFaulted, hfaults, hthird, ← hdropped]
    rfl
  · rintro rfl
    rw [exec_configWrite_up h _ hx, endConfigWrite_false, queueConfigWrite_eq, checkFailures_third hthree,
      startStore_enterFaulted, hfaults, hthird]
    rfl

end Sys2Proof.Proofs

namespace Sys2Proof.Proofs
open Sys2Proof Sys2Proof.Machine

/-! ### What a configuration change is refused for (R61, R183) -/

section
variable {s : State} {c : Configuration}

theorem openOn_iff (t : TankId) : s.openOn t = true ↔
    (∃ n, (s.ctx n).state ∉ [.free, .loaded] ∧ (s.delivery n).tank = t)
      ∨ ∃ k x, s.slot k = .holding x ∧ x.delivery.tank = t := by
  rw [State.openOn, Bool.or_eq_true, allNozzles_eq, allSlots_eq, List.any_eq_true, List.any_eq_true]
  refine or_congr (exists_congr fun n => ?_) (exists_congr fun k => ?_)
  · simp only [List.mem_finRange, true_and, Bool.and_eq_true, decide_eq_true_eq, isOpen_iff, List.mem_cons,
      List.not_mem_nil, or_false]
  · cases s.slot k <;> simp

theorem configBusy_iff : s.configBusy c = true ↔
    (∃ n, c.nozzles.read n ≠ s.config.nozzles.read n ∧ (s.ctx n).state ≠ .free)
      ∨ ∃ t, ((c.tanks.read t).product ≠ (s.config.tanks.read t).product
          ∨ (c.tanks.read t).enabled ≠ (s.config.tanks.read t).enabled)
        ∧ ((∃ n, (s.ctx n).state ∉ [.free, .loaded] ∧ (s.delivery n).tank = t)
          ∨ ∃ k x, s.slot k = .holding x ∧ x.delivery.tank = t) := by
  rw [State.configBusy, Bool.or_eq_true, allNozzles_eq, allTanks_eq, List.any_eq_true, List.any_eq_true]
  refine or_congr (exists_congr fun n => ?_) (exists_congr fun t => ?_)
  · simp only [List.mem_finRange, true_and, Bool.and_eq_true, Bool.not_eq_true', decide_eq_false_iff_not]
    exact Iff.rfl
  · simp only [List.mem_finRange, true_and, Bool.and_eq_true, Bool.or_eq_true, Bool.not_eq_true', decide_eq_false_iff_not,
      openOn_iff]
    exact Iff.rfl

theorem configReceipt_iff : s.configReceipt c = true ↔
    ∃ t, ((c.tanks.read t).product ≠ (s.config.tanks.read t).product
        ∨ (c.tanks.read t).enabled ≠ (s.config.tanks.read t).enabled
        ∨ (c.tanks.read t).strapping ≠ (s.config.tanks.read t).strapping)
      ∧ (s.tank t).receipt.isSome = true := by
  rw [State.configReceipt, allTanks_eq, List.any_eq_true]
  refine exists_congr fun t => ?_
  simp only [List.mem_finRange, true_and, Bool.and_eq_true, Bool.or_eq_true, Bool.not_eq_true', decide_eq_false_iff_not,
    or_assoc]
  exact Iff.rfl

end

/-! ### What a change does at once, group by group (R32, R36, R39, R61, R180) -/

section
variable {o s : State}

theorem kmWritten_eq (q : Tab NozzlePatch 8) (s : State) (n : NozzleId) : State.kmWritten q s n =
    { s with
      meters := s.meters.write n
        (if (q.read n).km.isSome then { s.meters.read n with proven := false } else s.meters.read n) } := by
  unfold State.kmWritten
  split
  · rfl
  · rw [write_read]

/-- R32: the meters after a change of the nozzles. -/
theorem kmWrittens_eq (q : Tab NozzlePatch 8) (s : State) : allNozzles.foldl (State.kmWritten q) s =
    { s with meters := Tab.mapWith (fun n m => if (q.read n).km.isSome then { m with proven := false } else m) s.meters } := by
  have hfold (ns : List NozzleId) (s : State) : ns.foldl (State.kmWritten q) s = { s with
      meters := ns.foldl (fun v n => v.write n
        (if (q.read n).km.isSome then { v.read n with proven := false } else v.read n)) s.meters } := by
    induction ns generalizing s with
    | nil => rfl
    | cons n ns ih => rw [List.foldl_cons, kmWritten_eq, ih]; rfl
  rw [hfold, allNozzles_eq,
    foldl_write_finRange fun n (m : Meter) => if (q.read n).km.isSome then { m with proven := false } else m]

/-- R61: what becomes of a tank at a change of its static part. -/
theorem tankWritten_eq {c : Configuration} (hc : s.config = c) (old : Tab TankConfig 4) (t : TankId) :
    State.tankWritten old s t =
      if (old.read t).enabled = true ∧ (c.tanks.read t).enabled = false then
        s.modTank t fun x => { x with gauge := invalidGauge, pump := stoppedPump }
      else if (c.tanks.read t).enabled = true ∧ ((old.read t).enabled = false ∨ (old.read t).tier1 ≠ (c.tanks.read t).tier1
          ∨ (old.read t).tier2 ≠ (c.tanks.read t).tier2 ∨ (old.read t).reserve ≠ (c.tanks.read t).reserve
          ∨ (old.read t).floor ≠ (c.tanks.read t).floor ∨ (old.read t).hysteresis ≠ (c.tanks.read t).hysteresis) then
        s.evaluateTank t
      else s := by
  simp only [State.tankWritten, State.tankConfig, hc, Bool.not_eq_true']

theorem config_tankWritten (old : Tab TankConfig 4) (t : TankId) : (State.tankWritten old s t).config = s.config :=
  ((Within.refl (fed := False) s).tankWritten old t).config

theorem Quiet.tankWritten (h : Quiet o s) (old : Tab TankConfig 4) (t : TankId) : Quiet o (State.tankWritten old s t) := by
  simp only [State.tankWritten]
  split
  · exact h.modTank ..
  · split
    · exact h.evaluateTank t
    · exact h

end

theorem allChannels_eq : allChannels = List.finRange 16 := by decide

/-! ### The channels after a change of the probes (R36, R39) -/

section
variable (q : ProbePatch)

/-- R36: whether a change of the probes writes a channel's span. -/
def spanSet (i : ChannelId) : Bool := (q.spans.read i).low.isSome || (q.spans.read i).high.isSome

/-- R36: whether a change of the probes leaves a channel UNSETTLED. -/
def again (i : ChannelId) : Bool := spanSet q i || q.divisor.isSome

/-- R36: a channel after a change of the probes. -/
def rewritten (i : ChannelId) (x : Channel) : Channel := if again q i then unsettled (spanSet q i) x else x

/-- R39: a FAILED channel that becomes UNSETTLED is told. -/
def toldUnsettled (s : State) (i : ChannelId) : State := s.postRole .workshop (.probeState i .unsettled none)

theorem scanner_toldUnsettleds (xs : List ChannelId) (s : State) : (xs.foldl toldUnsettled s).scanner = s.scanner := by
  induction xs generalizing s with
  | nil => rfl
  | cons x xs ih => rw [List.foldl_cons, ih]; rfl

theorem toldUnsettleds_scanner (xs : List ChannelId) (v : Scanner) (s : State) :
    ({ xs.foldl toldUnsettled s with scanner := v } : State) = xs.foldl toldUnsettled { s with scanner := v } := by
  induction xs generalizing s with
  | nil => rfl
  | cons x xs ih => rw [List.foldl_cons, List.foldl_cons, ih]; rfl

/-- R36: the scanner once a channel is rewritten. -/
def scannerRewritten (s : State) (i : ChannelId) : Scanner :=
  { s.scanner with channels := s.scanner.channels.write i (rewritten q i (s.scanner.channels.read i)) }

/-- R39: whether a channel is told of at a change of the probes. -/
def tells (s : State) (i : ChannelId) : Bool := again q i && decide ((s.scanner.channels.read i).state = .failed)

theorem Quiet.toldUnsettleds {o s : State} (h : Quiet o s) (xs : List ChannelId) (v : Scanner) :
    Quiet o (xs.foldl toldUnsettled { s with scanner := v }) :=
  Quiet.foldl (fun _ _ hy => hy.postWhere ..) xs (h.of_ports (t := { s with scanner := v }) rfl rfl rfl)

theorem probesWritten_eq (s : State) (i : ChannelId) : State.probesWritten q s i =
    ([i].filter (tells q s)).foldl toldUnsettled { s with scanner := scannerRewritten q s i } := by
  have htells : tells q s i = (again q i && decide ((s.scanner.channels.read i).state = .failed)) := rfl
  unfold State.probesWritten
  by_cases hagain : again q i = true
  · have hrew : scannerRewritten q s i =
        { s.scanner with channels := s.scanner.channels.write i (unsettled (spanSet q i) (s.channel i)) } := by
      rw [scannerRewritten, rewritten, if_pos hagain]
      rfl
    refine (if_pos hagain).trans ?_
    rw [hrew]
    by_cases hfailed : (s.scanner.channels.read i).state = .failed
    · rw [List.filter_cons_of_pos (by simp [htells, hagain, hfailed])]
      exact if_pos hfailed
    · rw [List.filter_cons_of_neg (by simp [htells, hfailed])]
      exact if_neg hfailed
  · have hrew : scannerRewritten q s i = s.scanner := by
      rw [scannerRewritten, rewritten, if_neg hagain, write_read]
    refine (if_neg hagain).trans ?_
    rw [hrew, List.filter_cons_of_neg (by simp [htells, hagain])]
    rfl

/-- R36, R39: channels rewritten one after the other are told of as they stood, in that order. -/
theorem probesWrittens_foldl {xs : List ChannelId} (hx : xs.Nodup) (s : State) : xs.foldl (State.probesWritten q) s =
    (xs.filter (tells q s)).foldl toldUnsettled { s with scanner := { s.scanner with
      channels := xs.foldl (fun v i => v.write i (rewritten q i (v.read i))) s.scanner.channels } } := by
  induction xs generalizing s with
  | nil => rfl
  | cons i xs ih =>
    obtain ⟨hi, hxs⟩ := List.nodup_cons.1 hx
    have hsame : xs.filter (tells q (State.probesWritten q s i)) = xs.filter (tells q s) := by
      refine List.filter_congr fun j hj => ?_
      rw [tells, probesWritten_eq, scanner_toldUnsettleds]
      simp only [scannerRewritten, read_write]
      rw [if_neg (by rintro rfl; exact hi hj)]
      rfl
    rw [List.foldl_cons, ih hxs, hsame, probesWritten_eq, scanner_toldUnsettleds, toldUnsettleds_scanner, ← List.foldl_append,
      ← List.filter_append]
    rfl

/-- R36, R39: what a change of the probes does at once. -/
theorem probesWrittens_eq (s : State) :
    State.divisorWritten q (allChannels.foldl (State.probesWritten q) s) =
      ((List.finRange 16).filter (tells q s)).foldl toldUnsettled { s with scanner := { s.scanner with
        timer := q.divisor.getD s.scanner.timer, channels := Tab.mapWith (rewritten q) s.scanner.channels } } := by
  rw [probesWrittens_foldl q (by decide), allChannels_eq, foldl_write_finRange (rewritten q)]
  unfold State.divisorWritten
  split
  · next d hd =>
    rw [toldUnsettleds_scanner, scanner_toldUnsettleds, hd]
    rfl
  · next hd =>
    rw [hd]
    rfl

end

/-- R183: a CONFIG_WRITE queued or in flight. -/
theorem configWritePending_eq (s : State) : s.configWritePending =
    (decide (.configWrite ∈ s.table.queue) || (s.table.inFlight.map fun x => decide (x.op = .configWrite)).getD false) := by
  have hqueued : s.configWriteQueued = decide (.configWrite ∈ s.table.queue) := by
    rw [Bool.eq_iff_iff, State.configWriteQueued, List.any_eq_true]
    simp only [decide_eq_true_eq, exists_eq_right]
  rw [State.configWritePending, hqueued]
  cases s.table.inFlight <;> rfl

theorem quiet_idleAssembler {s : State} (p : Port) : Quiet s (s.idleAssembler p) := by
  refine ⟨rfl, rfl, fun q => ?_⟩
  rw [State.idleAssembler, State.port_modPort]
  split
  · next hq => rw [hq]
  · rfl

/-! ### CONFIG_SET taken or refused (R183) -/

section
variable {s : State} {p : Port} {tag : Byte} {code : ReqCode} {i : Instr}

/-- A request whose block leaves start-up alone. -/
theorem exec_of_block {k : State → State} {y : State} (h : s.Accepts p) (hp : s.permits p code none = true)
    (he : exec i s = s.event fun x => x.admission p code tag none k) (hy : k (s.idleAssembler p) = y)
    (hst : y.startUp = s.startUp) : exec i s = .next y.startStore := by
  subst hy
  rw [he, event_accepts h hp]
  rw [hst]
  exact h.1.2

variable (h : s.Accepts p) (hw : s.role p = .workshop) {g : ConfigChange} {c : Configuration}
include h hw

theorem exec_configSet_outOfRange (hg : applyChange g s.config = none) :
    exec (.configSet p tag g) s = .next (s.answered p .configSet tag .badField .nothing).startStore := by
  refine exec_of_block h (permits_workshop hw rfl) rfl ?_ rfl
  simp only [State.idleAssembler_config, hg]
  exact reply_idleAssembler h.2.1

section
variable (hg : applyChange g s.config = some c)
include hg

theorem exec_configSet_busy (hb : s.configBusy c = true) :
    exec (.configSet p tag g) s = .next (s.answered p .configSet tag .nozzleBusy .nothing).startStore := by
  refine exec_of_block h (permits_workshop hw rfl) rfl ?_ rfl
  simp only [State.idleAssembler_config, hg]
  rw [if_pos (show (s.idleAssembler p).configBusy c = true from hb), reply_idleAssembler h.2.1]

section
variable (hb : s.configBusy c = false)
include hb

theorem exec_configSet_receipt (hr : s.configReceipt c = true) :
    exec (.configSet p tag g) s = .next (s.answered p .configSet tag .receiptOpen .nothing).startStore := by
  refine exec_of_block h (permits_workshop hw rfl) rfl ?_ rfl
  simp only [State.idleAssembler_config, hg]
  rw [if_neg (show ¬(s.idleAssembler p).configBusy c = true from Bool.eq_false_iff.1 hb),
    if_pos (show (s.idleAssembler p).configReceipt c = true from hr), reply_idleAssembler h.2.1]

/-- R183: a change taken: in force at once, its CONFIG_WRITE queued, the request in hand or answered STORE_FAULT. -/
theorem exec_configSet_taken (hr : s.configReceipt c = false) {y : State}
    (hy : (s.idleAssembler p).configChanged g c = y) (hq : Quiet s y) :
    let table := { s.table with
      queue := if .configWrite ∈ s.table.queue then s.table.queue else s.table.queue ++ [.configWrite] }
    (s.table.faulted = false → exec (.configSet p tag g) s =
      .next ({ y.modPort p (fun x => { x with inHand := some { tag := tag, request := .configSet false } }) with
        table := table } : State).startStore)
    ∧ (s.table.faulted = true → exec (.configSet p tag g) s =
      .next ({ y.modPort p (fun x => { x with line := [answerTo .configSet tag .storeFault .nothing] }) with
        table := table } : State).startStore) := by
  intro table
  have hblock {z : State} (hz : (s.idleAssembler p).acceptConfig p tag g c = z) (hstart : z.startUp = y.startUp) :
      exec (.configSet p tag g) s = .next z.startStore := by
    refine exec_of_block h (permits_workshop hw rfl) rfl ?_ (hstart.trans hq.startUp)
    simp only [State.idleAssembler_config, hg]
    rw [if_neg (show ¬(s.idleAssembler p).configBusy c = true from Bool.eq_false_iff.1 hb),
      if_neg (show ¬(s.idleAssembler p).configReceipt c = true from Bool.eq_false_iff.1 hr), hz]
  refine ⟨fun hf => hblock ?_ rfl, fun hf => hblock ?_ rfl⟩
  · simp only [State.acceptConfig, hy, hq.table, hf, Bool.false_eq_true, if_false]
    rw [queueConfigWrite_eq, State.takeInHand, State.modPort_table, hq.table]
  · simp only [State.acceptConfig, hy, hq.table, hf, if_true]
    have hline : (({ y with table := table } : State).port p).line = [] := (hq.line p).trans h.2.1
    rw [queueConfigWrite_eq, hq.table, State.reply, State.respond]
    exact State.modPort_congr { y with table := table } p
      (fun x => { x with line := x.line ++ [answerTo .configSet tag .storeFault .nothing] })
      (fun x => { x with line := [answerTo .configSet tag .storeFault .nothing] }) (by
        simp only [hline, List.nil_append])

end

end

end

/-- Settles O58: each refusal and each group is a law of its own; what a group changes at once is `configChanged`. -/
theorem configurationAndStoreRequests : Obligations.ConfigurationAndStoreRequests := by
  unfold Obligations.ConfigurationAndStoreRequests
  intro p tag s h hw
  refine ⟨fun g => exec_configSet_outOfRange h hw, fun g c hg => ⟨exec_configSet_busy h hw hg,
    exec_configSet_receipt h hw hg, configBusy_iff, configReceipt_iff, fun hb hr => ?_⟩, fun k hk => ?_, fun hf => ?_,
    fun hf => ?_, ?_⟩
  · intro queue base takes
    have hbase : Quiet s base := (quiet_idleAssembler p).of_ports rfl rfl rfl
    have htakes {y : State} (hy : (s.idleAssembler p).configChanged g c = y) (hq : Quiet s y) : takes y :=
      exec_configSet_taken h hw hg hb hr hy hq
    refine ⟨?_, ?_, ?_, ?_, ?_, ?_⟩
    · rintro (⟨q, rfl⟩ | ⟨q, rfl⟩ | ⟨q, rfl⟩ | ⟨q, rfl⟩ | ⟨q, rfl⟩) <;> exact htakes rfl hbase
    · rintro q rfl
      refine htakes (takeBauds_eq base) ⟨rfl, rfl, fun k => ?_⟩
      rw [State.port, read_mapWith, ← hbase.line k, State.port]
      split <;> rfl
    · rintro q rfl
      exact htakes (kmWrittens_eq q base) (hbase.of_ports rfl rfl rfl)
    · rintro q rfl written
      have hwritten (y : State) (hy : y.config = c) (t : TankId) : written y t = State.tankWritten s.config.tanks y t :=
        (tankWritten_eq hy s.config.tanks t).symm
      have hconfig (y : State) (hy : y.config = c) (t : TankId) : (written y t).config = c := by
        rw [hwritten y hy, config_tankWritten, hy]
      rw [hwritten _ (hconfig _ (hconfig _ (hconfig base rfl 0) 1) 2), hwritten _ (hconfig _ (hconfig base rfl 0) 1),
        hwritten _ (hconfig base rfl 0), hwritten base rfl]
      exact htakes rfl ((((hbase.tankWritten ..).tankWritten ..).tankWritten ..).tankWritten ..)
    · rintro q rfl spanSet again
      exact htakes (probesWrittens_eq q base) (hbase.toldUnsettleds _ _)
    · rintro q rfl
      exact htakes rfl (hbase.of_ports rfl rfl rfl)
  · refine exec_of_block h (permits_workshop hw rfl) rfl ?_ rfl
    rw [if_pos (by omega), reply_idleAssembler h.2.1, configWritePending_eq]
    rfl
  · refine exec_of_block h (permits_workshop hw rfl) rfl ?_ rfl
    rw [State.storeRetry, if_pos (by exact hf)]
    rfl
  · refine exec_of_block h (permits_workshop hw rfl) rfl ?_ rfl
    rw [State.storeRetry, if_neg (by simp [hf]), reply_idleAssembler h.2.1]
  · exact exec_replied h (permits_workshop hw rfl) .ok .nothing rfl

end Sys2Proof.Proofs

namespace Sys2Proof.Proofs
open Sys2Proof Sys2Proof.Machine

/-! ### METER_CLEAR (R33) -/

theorem modMeter_congr {s : State} {n : NozzleId} {f g : Meter → Meter} (h : f (s.meter n) = g (s.meter n)) :
    s.modMeter n f = s.modMeter n g := by simp only [State.modMeter, h]

theorem modMeter_eq_self {s : State} {n : NozzleId} {f : Meter → Meter} (h : f (s.meter n) = s.meter n) :
    s.modMeter n f = s := by
  rw [State.modMeter, h, State.meter, write_read]

/-- R170: METER_CLEAR at a WORKSHOP port names any nozzle. -/
theorem permits_meterClear_workshop {s : State} {p : Port} (hw : s.role p = .workshop) (n : Option Nat) :
    s.permits p .meterClear n = true := by
  simp only [State.permits, hw]
  decide

/-- R170: METER_CLEAR at a FLEET or MONITOR port, or at an ISLAND port that does not own the nozzle. -/
theorem permits_meterClear_other {s : State} {p : Port} {n : NozzleId}
    (h : s.role p = .fleet ∨ s.role p = .monitor ∨ s.role p = .island ∧ (s.config.nozzles.read n).owner ≠ p) :
    s.permits p .meterClear (some (n.val + 1)) = false := by
  rcases h with hr | hr | ⟨hr, ho⟩
  · simp only [State.permits, hr]
    decide
  · simp only [State.permits, hr]
    decide
  · have howns : s.owns p (some (n.val + 1)) = false := by
      simp only [State.owns, Option.bind_some, fromOne_succ, State.owner, State.nozzleConfig, ho, decide_false]
    simp only [State.permits, hr, howns, Bool.and_false, Bool.or_false]
    decide

/-- R168, R170: a request that the port's role does not permit is answered so. -/
theorem admission_notPermitted {s : State} {p : Port} {c : ReqCode} {tag : Byte} {n : Option Nat} {k : State → State}
    (h : s.Accepts p) (hp : s.permits p c n = false) :
    s.admission p c tag n k = s.answered p c tag .notPermitted .nothing := by
  rw [admission_taken (by simp [h.1.2]) h.2.1, if_neg (by simp [h.2.2]), if_neg (by simp [h.1.2]), if_pos hp]
  exact refuseFrame_idleAssembler h.2.1

theorem exec_meterClear (p : Port) (tag : Byte) (n : NozzleId) (s : State) : exec (.meterClear p tag (n.val + 1)) s =
    s.event fun y => y.admission p .meterClear tag (some (n.val + 1)) fun x =>
      (x.modMeter n clearedMeter).reply p .meterClear tag .ok .nothing := by
  rw [show exec (.meterClear p tag (n.val + 1)) s = execMeterClear p tag (n.val + 1) s from rfl, execMeterClear]
  refine congrArg s.event (funext fun y => ?_)
  simp only [State.reqMeterClear, State.withNozzle, fromOne_succ]

theorem exec_meterClear_permitted {p : Port} {tag : Byte} {n : NozzleId} {s : State} (h : s.Accepts p)
    (hp : s.permits p .meterClear (some (n.val + 1)) = true) : exec (.meterClear p tag (n.val + 1)) s =
      .next ((s.modMeter n clearedMeter).answered p .meterClear tag .ok .nothing).startStore := by
  rw [exec_meterClear, event_accepts h hp h.1.2]
  exact congrArg (fun y : State => Host.Outcome.next y.startStore)
    (reply_idleAssembler (s := s.modMeter n clearedMeter) h.2.1)

/-- Settles O46: the port's role decides the admission, and `clearedMeter` changes a FAULTED meter only. -/
theorem meterClearReturnsMeter : Obligations.MeterClearReturnsMeter := by
  intro p tag n s h
  refine ⟨fun hrole => ?_, fun hrole => ?_⟩
  · have hp : s.permits p .meterClear (some (n.val + 1)) = true := by
      rcases hrole with hw | ⟨hi, ho⟩
      · exact permits_meterClear_workshop hw _
      · exact permits_island hi ho rfl
    rw [exec_meterClear_permitted h hp]
    refine ⟨fun hf => ?_, fun hf => ?_⟩
    · rw [modMeter_congr]
      exact if_pos hf
    · rw [modMeter_eq_self]
      exact if_neg hf
  · have hadm := admission_notPermitted (tag := tag) (k := fun x => (x.modMeter n clearedMeter).reply p .meterClear tag
      .ok .nothing) h (permits_meterClear_other hrole)
    rw [exec_meterClear, event_of_up h.1 (by rw [hadm]; exact h.1.2), hadm]

end Sys2Proof.Proofs

namespace Sys2Proof.Proofs
open Sys2Proof Sys2Proof.Machine

/-! ### The demand on a pump (R65, R67) -/

/-- R67: what a pump becomes that has lost its last demand. -/
def pumpLeft (c : TankConfig) : Pump :=
  if c.runOn = 0 then { state := .stopped, timer := none } else { state := .runOn, timer := some c.runOn }

/-- R65: no other nozzle of nozzle `n`'s tank is in the demand on its pump. -/
def SoleDemand (s : State) (n : NozzleId) : Prop :=
  ∀ m, m ≠ n → (s.config.nozzles.read m).tank = (s.config.nozzles.read n).tank → (s.ctx m).state.inDemand = false

theorem runOnPump_eq (s : State) (t : TankId) :
    s.runOnPump t = s.modTank t fun y => { y with pump := pumpLeft (s.config.tanks.read t) } := by
  by_cases h : (s.config.tanks.read t).runOn = 0
  · rw [pumpLeft, if_pos h]
    exact if_pos h
  · rw [pumpLeft, if_neg h]
    exact if_neg h

theorem mem_demand {s : State} {t : TankId} {m : NozzleId} :
    m ∈ s.demand t ↔ (s.config.nozzles.read m).tank = t ∧ (s.ctx m).state.inDemand = true := by
  rw [State.demand, allNozzles_eq, List.mem_filter, Bool.and_eq_true, decide_eq_true_eq]
  exact and_iff_right (List.mem_finRange m)

theorem nodup_demand (s : State) (t : TankId) : (s.demand t).Nodup := by
  rw [State.demand, allNozzles_eq]
  exact (List.nodup_finRange 8).filter _

section
variable {s : State} {n : NozzleId}

/-- R67: once nozzle `n` is out of it, nothing is left of the demand when no other nozzle was in it. -/
theorem demand_eq_nil_iff (hout : (s.ctx n).state.inDemand = false) :
    s.demand (s.config.nozzles.read n).tank = [] ↔ SoleDemand s n := by
  simp only [List.eq_nil_iff_forall_not_mem, mem_demand, not_and, Bool.not_eq_true, SoleDemand]
  refine ⟨fun h m _ hm => h m hm, fun h m hm => ?_⟩
  by_cases he : m = n
  · rw [he, hout]
  · exact h m he hm

/-- R65: a nozzle in the demand on its pump is the last one when it is alone in it. -/
theorem soleDemand_iff (hin : (s.ctx n).state.inDemand = true) :
    SoleDemand s n ↔ s.demand (s.config.nozzles.read n).tank = [n] := by
  have hmem : n ∈ s.demand (s.config.nozzles.read n).tank := mem_demand.2 ⟨rfl, hin⟩
  refine ⟨fun h => List.perm_singleton.1 ?_, fun h m hne hm => ?_⟩
  · refine (List.perm_ext_iff_of_nodup (nodup_demand ..) (List.nodup_singleton n)).2 fun m => ?_
    rw [List.mem_singleton]
    refine ⟨fun hm => by_contra fun hne => ?_, fun he => he ▸ hmem⟩
    obtain ⟨htank, hd⟩ := mem_demand.1 hm
    exact absurd hd (by simp [h m hne htank])
  · by_contra hd
    exact hne (by simpa [h] using mem_demand.2 ⟨hm, by simpa using hd⟩)

theorem soleDemand_modCtx (f : Context → Context) : SoleDemand (s.modCtx n f) n ↔ SoleDemand s n := by
  simp only [SoleDemand, State.modCtx_config]
  refine forall₂_congr fun m hm => ?_
  rw [State.ctx_modCtx, if_neg hm]

/-- R67: the pump of a nozzle that leaves the demand on it as the last one. -/
theorem leftDemand_last (hout : (s.ctx n).state.inDemand = false)
    (hp : (s.tank (s.config.nozzles.read n).tank).pump.state = .running) (hsole : SoleDemand s n) :
    s.leftDemand n = s.modTank (s.config.nozzles.read n).tank fun y =>
      { y with pump := pumpLeft (s.config.tanks.read (s.config.nozzles.read n).tank) } := by
  rw [← runOnPump_eq]
  exact if_pos ⟨hp, List.isEmpty_iff.2 ((demand_eq_nil_iff hout).2 hsole)⟩

/-- R67: a pump that does not run, or that others demand, is left as it is. -/
theorem leftDemand_stays (hout : (s.ctx n).state.inDemand = false)
    (h : (s.tank (s.config.nozzles.read n).tank).pump.state ≠ .running ∨ ¬ SoleDemand s n) : s.leftDemand n = s := by
  refine if_neg fun hl => ?_
  obtain ⟨hp, hempty⟩ := hl
  exact h.elim (fun hr => hr hp) fun hs => hs ((demand_eq_nil_iff hout).1 (List.isEmpty_iff.1 hempty))

end

/-! ### The end of a RUN (R95, R96) -/

/-- R95: the notice of a RUN's end. -/
def runEndedNote (s : State) (n : NozzleId) (r : RunEnd) : NoticeBody :=
  .deliveryStage (.runEnded (s.delivery n).ticket r (s.delivery n).running)

theorem postRunEnded_eq (s : State) (n : NozzleId) (r : RunEnd) :
    s.postRunEnded n r = s.postOwner n (runEndedNote s n r) := rfl

theorem runEndedNote_congr {s t : State} {n : NozzleId} {r : RunEnd} (h : t.delivery n = s.delivery n) :
    runEndedNote t n r = runEndedNote s n r := by simp only [runEndedNote, h]

/-- R67, R95, R105: what the end of nozzle `n`'s RUN leaves of everything but that nozzle's context and meter. -/
def RunEnded (s : State) (n : NozzleId) (r : RunEnd) (t : State) : Prop :=
  let k := (s.config.nozzles.read n).tank
  (∀ m, m ≠ n → t.ctx m = s.ctx m ∧ t.meter m = s.meter m)
  ∧ (∀ j, j ≠ k → t.tank j = s.tank j)
  ∧ ((s.tank k).pump.state = .running → SoleDemand s n →
      t.tank k = { s.tank k with pump := pumpLeft (s.config.tanks.read k) })
  ∧ ((s.tank k).pump.state ≠ .running ∨ ¬ SoleDemand s n → t.tank k = s.tank k)
  ∧ t.ports = (s.postTo (s.config.nozzles.read n).owner (runEndedNote s n r)).ports
  ∧ { t with nozzles := s.nozzles, meters := s.meters, tanks := s.tanks, ports := s.ports } = s

theorem modTank_eq_self {s : State} {k : TankId} {f : Tank → Tank} (h : f (s.tank k) = s.tank k) :
    s.modTank k f = s := by
  rw [State.modTank, h, State.tank, write_read]

section
variable {s : State} {n : NozzleId} {f : Context → Context}

theorem delivery_modCtx (hf : (f (s.ctx n)).delivery = (s.ctx n).delivery) (m : NozzleId) :
    (s.modCtx n f).delivery m = s.delivery m := by
  rw [State.delivery, State.delivery, State.ctx_modCtx]
  split
  · next h => rw [hf, h]
  · rfl

/-- R67: leaving the demand changes the pump alone. -/
theorem leftDemand_frame {y : State} (hout : (y.ctx n).state.inDemand = false) : ∃ p : Pump,
    y.leftDemand n = y.modTank (y.config.nozzles.read n).tank (fun x => { x with pump := p })
    ∧ ((y.tank (y.config.nozzles.read n).tank).pump.state = .running → SoleDemand y n →
      p = pumpLeft (y.config.tanks.read (y.config.nozzles.read n).tank))
    ∧ ((y.tank (y.config.nozzles.read n).tank).pump.state ≠ .running ∨ ¬ SoleDemand y n →
      p = (y.tank (y.config.nozzles.read n).tank).pump) := by
  by_cases h : (y.tank (y.config.nozzles.read n).tank).pump.state = .running ∧ SoleDemand y n
  · obtain ⟨hp, hsole⟩ := h
    exact ⟨_, leftDemand_last hout hp hsole, fun _ _ => rfl, fun hn => absurd hn (by simp [hp, hsole])⟩
  · have hn := not_and_or.1 h
    refine ⟨_, (leftDemand_stays hout hn).trans (modTank_eq_self rfl).symm, fun hp hsole => absurd ⟨hp, hsole⟩ h,
      fun _ => rfl⟩

/-- A RUN's end in its parts: the context and the meter changed, the context out of the demand and its delivery kept,
the demand left and RUN_ENDED told. -/
theorem runEnded_of_left (hout : (f (s.ctx n)).state.inDemand = false)
    (hf : (f (s.ctx n)).delivery = (s.ctx n).delivery) (g : Meter → Meter) (r : RunEnd) :
    let t := (((s.modCtx n f).modMeter n g).leftDemand n).postRunEnded n r
    RunEnded s n r t ∧ t.ctx n = f (s.ctx n) ∧ t.meter n = g (s.meter n) := by
  intro t
  have hctx : ((s.modCtx n f).modMeter n g).ctx n = f (s.ctx n) := State.ctx_modCtx_self ..
  have hsole : SoleDemand ((s.modCtx n f).modMeter n g) n ↔ SoleDemand s n := soleDemand_modCtx (s := s) f
  obtain ⟨p, hleft, hlast, hstays⟩ := leftDemand_frame (y := (s.modCtx n f).modMeter n g) (by rw [hctx]; exact hout)
  rw [hsole] at hlast hstays
  have hnote : runEndedNote (((s.modCtx n f).modMeter n g).leftDemand n) n r = runEndedNote s n r := by
    rw [hleft]
    exact runEndedNote_congr (delivery_modCtx (s := s) hf n)
  have ht : t = (((s.modCtx n f).modMeter n g).modTank (s.config.nozzles.read n).tank
      fun x => { x with pump := p }).postTo (s.config.nozzles.read n).owner (runEndedNote s n r) := by
    rw [← hnote, hleft]
    exact congrArg (fun y : State => y.postRunEnded n r) hleft
  rw [ht]
  refine ⟨⟨fun m hm => ⟨?_, ?_⟩, fun j hj => ?_, fun hp hs => ?_, fun hn => ?_, rfl, rfl⟩, ?_, ?_⟩
  · rw [State.ctx_postTo, State.ctx_modTank, State.ctx_modMeter, State.ctx_modCtx, if_neg hm]
  · rw [State.meter_postTo, State.meter_modTank, State.meter_modMeter, if_neg hm, State.meter_modCtx]
  · rw [State.tank_postTo, State.tank_modTank, if_neg hj]
    rfl
  · rw [State.tank_postTo, State.tank_modTank_self, hlast hp hs]
    rfl
  · rw [State.tank_postTo, State.tank_modTank_self, hstays hn]
    rfl
  · rw [State.ctx_postTo, State.ctx_modTank, hctx]
  · rw [State.meter_postTo, State.meter_modTank, State.meter_modMeter_self, State.meter_modCtx]

end

/-- Settles O31: both ends are the parts of `runEnded_of_left`, a RUN that ends in PRIMING with its meter as it was. -/
theorem endedRunDrains : Obligations.EndedRunDrains := by
  intro n r s k last ended
  refine ⟨⟨_, rfl, ?_⟩, _, rfl, ?_⟩
  · obtain ⟨hend, hctx, hmeter⟩ := runEnded_of_left (s := s) (n := n) (f := fun c =>
      { c with state := .draining, endReason := some r, stall := none, drain := some s.config.delivery.drainSettle })
      rfl rfl (fun m => if m.window.isSome then { m with window := none, creep := 0 } else m) r
    exact ⟨hend, hctx, hmeter⟩
  · obtain ⟨hend, hctx, hmeter⟩ := runEnded_of_left (s := s) (n := n) (f := fun c => { c with state := .held }) rfl rfl
      (fun m => m) r
    rw [modMeter_eq_self rfl] at hend hctx hmeter
    exact ⟨hend, hctx, hmeter⟩

end Sys2Proof.Proofs

namespace Sys2Proof.Proofs
open Sys2Proof Sys2Proof.Machine

/-! ### Events of the field in READY -/

/-- R12: an event of a READY part made of the blocks' own operations ends with the store interface's start. -/
theorem event_of_within {s : State} {k : State → State} (h : s.Up) (hk : Within False s (k s)) :
    s.event k = .next (k s).startStore := event_of_up h (by rw [hk.startUp]; exact h.2)

/-- An expiry that is due. -/
theorem event_of_due {s : State} {c : State → Prop} [DecidablePred c] {g : State → State} (h : s.Up) (hc : c s)
    (hg : Within False s (g s)) : (s.event fun x => if c x then g x else x) = .next (g s).startStore := by
  rw [event_of_within h (by rw [if_pos hc]; exact hg), if_pos hc]

theorem exec_meterPulse {s : State} (h : s.Up) (n : NozzleId) :
    exec (.meterPulse n) s = .next (s.pulse n).startStore :=
  event_of_within (k := fun x => x.pulse n) h ((Within.refl s).pulse n)

/-! ### A RUN that ends in PRIMING and holds its context (R95, R97) -/

section
variable {s : State} {n : NozzleId}

/-- R101: what state a context enters HELD from does not show. -/
theorem heldByFault_modCtx_state (x : NozzleState) (f : PendingFault) (c : HoldCause) :
    (s.modCtx n fun y => { y with state := x }).heldByFault n f c = s.heldByFault n f c := by
  simp only [State.heldByFault, State.addFault, State.modDelivery, State.enterHeld, State.modCtx_modCtx, State.delivery,
    State.ctx_modCtx_self, State.modCtx_config]

/-- R97: a RUN that ends in PRIMING with a fault, `z` being what leaving the demand makes of the part. -/
theorem quitPriming_heldByFault {z : State} (hz : (s.modCtx n fun c => { c with state := .held }).leftDemand n =
      z.modCtx n fun c => { c with state := .held }) (hd : z.delivery n = s.delivery n)
    (r : RunEnd) (f : PendingFault) (c : HoldCause) :
    (s.quitPriming n r).heldByFault n f c = (z.postOwner n (runEndedNote s n r)).heldByFault n f c := by
  have hnote : runEndedNote (z.modCtx n fun c => { c with state := .held }) n r = runEndedNote s n r :=
    runEndedNote_congr ((delivery_modCtx rfl n).trans hd)
  rw [← heldByFault_modCtx_state (s := z.postOwner n _) .held, ← hnote, State.quitPriming, hz]
  rfl

/-- R97: so where the pump does not run. -/
theorem quitPriming_heldByFault_idle (hp : (s.tank (s.config.nozzles.read n).tank).pump.state ≠ .running)
    (r : RunEnd) (f : PendingFault) (c : HoldCause) :
    (s.quitPriming n r).heldByFault n f c = (s.postOwner n (runEndedNote s n r)).heldByFault n f c := by
  refine quitPriming_heldByFault (leftDemand_stays ?_ (.inl hp)) rfl r f c
  rw [State.ctx_modCtx_self]
  rfl

/-! ### Stray pulses (R28) -/

theorem pulse_stray (h : (s.meter n).state = .idle ∨ (s.meter n).state = .inUse ∧ (s.ctx n).state.counts = false) :
    s.pulse n = s.strayPulse n := by
  rcases h with hi | ⟨hu, hc⟩
  · simp only [State.pulse, hi]
  · simp only [State.pulse, hu, hc, Bool.false_eq_true, if_false]

theorem counts_eq_false {x : NozzleState} (h1 : x ≠ .proving) (h2 : x ≠ .flowFull) (h3 : x ≠ .flowSlow)
    (h4 : x ≠ .draining) : x.counts = false := by
  cases x with
  | proving => exact absurd rfl h1
  | flowFull => exact absurd rfl h2
  | flowSlow => exact absurd rfl h3
  | draining => exact absurd rfl h4
  | _ => rfl

section
variable (h255 : (s.meter n).stray < 255)
include h255

theorem strayPulse_below (h : (s.meter n).stray + 1 < s.config.delivery.strayLimit) :
    s.strayPulse n = s.modMeter n fun m => { m with stray := m.stray + 1 } := by
  have hmin : min 255 ((s.meter n).stray + 1) = (s.meter n).stray + 1 := by omega
  simp only [State.strayPulse, State.meter_modMeter_self, hmin, if_neg (Nat.not_le.2 h)]
  exact modMeter_congr (by rw [hmin])

theorem strayPulse_atLimit (h : s.config.delivery.strayLimit ≤ (s.meter n).stray + 1) :
    s.strayPulse n = ((s.modMeter n fun m => { m with stray := m.stray + 1, state := .faulted, proven := false }).postOwner
      n (.meterFault .creep n)).creepReaches n := by
  have hmin : min 255 ((s.meter n).stray + 1) = (s.meter n).stray + 1 := by omega
  simp only [State.strayPulse, State.meter_modMeter_self, hmin, if_pos h, State.faultMeter, State.modMeter_modMeter]
  rw [modMeter_congr]
  rw [hmin]

end

theorem creepReaches_unopened (hr : s.ready = true)
    (h : (s.ctx n).state = .free ∨ (s.ctx n).state = .loaded ∨ (s.ctx n).state = .fetching) : s.creepReaches n = s := by
  rcases h with h | h | h <;> simp only [State.creepReaches, hr, if_true, h]

theorem creepReaches_waiting (hr : s.ready = true) (h : (s.ctx n).state = .held ∨ (s.ctx n).state = .awaitGrant) :
    s.creepReaches n = s.addFault n .meterFault := by
  rcases h with h | h <;> simp only [State.creepReaches, hr, if_true, h]

/-- R67: the part once a nozzle in PRIMING is out of its pump's demand. -/
def primingLeft (s : State) (n : NozzleId) : State :=
  let k := (s.config.nozzles.read n).tank
  if (s.tank k).pump.state = .running ∧ s.demand k = [n] then
    s.modTank k fun y => { y with pump := pumpLeft (s.config.tanks.read k) }
  else s

theorem leftDemand_priming (h : (s.ctx n).state = .priming) :
    (s.modCtx n fun c => { c with state := .held }).leftDemand n =
      (primingLeft s n).modCtx n fun c => { c with state := .held } := by
  have hin : (s.ctx n).state.inDemand = true := by rw [h]; rfl
  have hout : ((s.modCtx n fun c => { c with state := .held }).ctx n).state.inDemand = false := by
    rw [State.ctx_modCtx_self]
    rfl
  have hsole : SoleDemand (s.modCtx n fun c => { c with state := .held }) n ↔
    s.demand (s.config.nozzles.read n).tank = [n] := (soleDemand_modCtx _).trans (soleDemand_iff hin)
  by_cases hl : (s.tank (s.config.nozzles.read n).tank).pump.state = .running ∧
      s.demand (s.config.nozzles.read n).tank = [n]
  · rw [leftDemand_last hout hl.1 (hsole.2 hl.2), show primingLeft s n = _ from if_pos hl]
    rfl
  · rw [leftDemand_stays hout ((not_and_or.1 hl).imp id (mt hsole.1)), show primingLeft s n = _ from if_neg hl]

/-- R28: a RUN in PRIMING ends. -/
theorem creepReaches_priming (hr : s.ready = true) (h : (s.ctx n).state = .priming) : s.creepReaches n =
    ((primingLeft s n).postOwner n (runEndedNote s n .meterFault)).heldByFault n .meterFault .meterFault := by
  have hdel : (primingLeft s n).delivery n = s.delivery n := by
    rw [primingLeft]
    split <;> rfl
  simp only [State.creepReaches, hr, if_true, h]
  exact quitPriming_heldByFault (leftDemand_priming h) hdel ..

end

/-- Settles O29: a stray pulse at the limit is `strayPulse_atLimit`, and `creepReaches` deals with each state of the
context; in PRIMING the demand that is left is the pump's last exactly when it was this nozzle's alone. -/
theorem strayPulsesFaultAtLimit : Obligations.StrayPulsesFaultAtLimit := by
  intro n s h x owner k strays faulted
  have hready : faulted.ready = true := by simp [faulted, State.ready, h.2]
  refine ⟨fun hf => ?_, fun hstray h255 => ?_⟩
  · rw [exec_meterPulse h, State.pulse, hf]
  · have hpulse : s.pulse n = s.strayPulse n :=
      pulse_stray (hstray.imp id fun ⟨hu, h1, h2, h3, h4⟩ => ⟨hu, counts_eq_false h1 h2 h3 h4⟩)
    have hat (hlim : s.config.delivery.strayLimit ≤ (s.meter n).stray + 1) :
        exec (.meterPulse n) s = .next (faulted.creepReaches n).startStore := by
      rw [exec_meterPulse h, hpulse, strayPulse_atLimit h255 hlim]
      rfl
    refine ⟨fun hlim => ?_, fun hlim hx => ?_, fun hlim hx => ?_, fun hlim hx => ?_⟩
    · rw [exec_meterPulse h, hpulse, strayPulse_below h255 hlim]
    · rw [hat hlim, creepReaches_unopened hready hx]
    · rw [hat hlim, creepReaches_waiting hready hx]
    · intro left
      have hleft : primingLeft faulted n = left := rfl
      have howner : left.owner n = owner := by
        rw [← hleft, primingLeft]
        split <;> rfl
      rw [hat hlim, creepReaches_priming hready hx, hleft, State.postOwner, howner]
      rfl

end Sys2Proof.Proofs

namespace Sys2Proof.Proofs
open Sys2Proof Sys2Proof.Machine

/-! ### The stage test (R91, R92, R93) -/

section
variable {s : State} {n : NozzleId}

theorem target_congr {t : State} (hseg : (t.ctx n).segment = (s.ctx n).segment)
    (hstart : (t.ctx n).segmentStart = (s.ctx n).segmentStart) (hlimit : (t.delivery n).limit = (s.delivery n).limit) :
    t.target n = s.target n := by
  simp only [State.target, hseg, hstart, hlimit]

/-- R92: at the target the RUN ends. -/
theorem stageTest_ends (h : s.target n ≤ (s.delivery n).running) :
    s.stageTest n = s.stopFlow n (if s.target n = (s.delivery n).limit then .limit else .target) := if_pos h

/-- R92: within the prestop of the target full flow becomes slow flow. -/
theorem stageTest_slows (h : (s.delivery n).running < s.target n) (hx : (s.ctx n).state = .flowFull)
    (hp : s.target n - s.config.delivery.prestop ≤ (s.delivery n).running) :
    s.stageTest n = s.modCtx n fun c => { c with state := .flowSlow } :=
  (if_neg (Nat.not_le.2 h)).trans (if_pos ⟨hx, hp⟩)

theorem stageTest_stays (h : (s.delivery n).running < s.target n)
    (hx : (s.ctx n).state = .flowFull → (s.delivery n).running < s.target n - s.config.delivery.prestop) :
    s.stageTest n = s := by
  refine (if_neg (Nat.not_le.2 h)).trans (if_neg fun hl => ?_)
  obtain ⟨hfull, hp⟩ := hl
  exact absurd hp (Nat.not_le.2 (hx hfull))

end

/-- R93: a context in flow, its stall timer loaded. -/
def flowing (s : State) (n : NozzleId) (x : NozzleState) : State :=
  s.modCtx n fun c => { c with state := x, stall := some s.config.delivery.stall }

/-- R93: entry to full flow and its stage test. -/
theorem enterFlow_eq (s : State) (n : NozzleId) : s.enterFlow n =
    if s.target n ≤ (s.delivery n).running then
      (flowing s n .flowFull).stopFlow n (if s.target n = (s.delivery n).limit then .limit else .target)
    else if s.target n - s.config.delivery.prestop ≤ (s.delivery n).running then flowing s n .flowSlow
    else flowing s n .flowFull := by
  have hdel : (flowing s n .flowFull).delivery n = s.delivery n := delivery_modCtx rfl n
  have hctx : (flowing s n .flowFull).ctx n =
      { s.ctx n with state := .flowFull, stall := some s.config.delivery.stall } := State.ctx_modCtx_self ..
  have htarget : (flowing s n .flowFull).target n = s.target n :=
    target_congr (by rw [hctx]; rfl) (by rw [hctx]) (by rw [hdel])
  show (flowing s n .flowFull).stageTest n = _
  split
  · next h => rw [stageTest_ends (by rwa [htarget, hdel]), htarget, hdel]
  · next h =>
    have hlt := Nat.not_le.1 h
    split
    · next hp =>
      rw [stageTest_slows (by rwa [htarget, hdel]) (by rw [hctx]) (by rw [htarget, hdel]; exact hp), flowing,
        State.modCtx_modCtx]
      rfl
    · next hp =>
      exact stageTest_stays (by rwa [htarget, hdel]) fun _ => by rw [htarget, hdel]; exact Nat.not_le.1 hp

/-! ### The creep window (R30) -/

theorem exec_creepWindowExpiry {s : State} (h : s.Up) {n : NozzleId} (hw : (s.meter n).window = some 0) :
    exec (.creepWindowExpiry n) s = .next (s.creepTest n).startStore :=
  event_of_due (c := fun x => (x.meter n).window = some 0) (g := fun x => x.creepTest n) h hw
    ((Within.refl s).creepTest n)

/-- Settles O32: below the limit the meter is proven and `enterFlow_eq` says what the entry to full flow finds; above it
the two parts are `faultMeter` and `stopFlow`. -/
theorem creepWindowProvesMeter : Obligations.CreepWindowProvesMeter := by
  intro n s h hw
  rw [exec_creepWindowExpiry h hw, State.creepTest]
  refine ⟨fun hle hrun => ?_, fun hlt => ?_⟩
  · rw [if_pos hle, State.modMeter_modMeter, enterFlow_eq, if_neg, if_neg]
    · rfl
    · exact Nat.not_le.2 hrun
    · exact Nat.not_le.2 (hrun.trans_le (Nat.sub_le ..))
  · rw [if_neg (Nat.not_le.2 hlt), State.faultMeter, State.modMeter_modMeter]
    rfl

end Sys2Proof.Proofs

namespace Sys2Proof.Proofs
open Sys2Proof Sys2Proof.Machine

/-! ### A RUN begins (R29, R66, R91) -/

/-- R29, R91: the context of a RUN that begins, its segment measured from here, and its meter's stray count cleared. -/
def runBegun (s : State) (n : NozzleId) (x : NozzleState) : State :=
  (s.modCtx n fun c => { c with segmentStart := (s.delivery n).running, state := x }).modMeter n fun m =>
    { m with stray := 0 }

theorem modCtx_modMeter (s : State) (n m : NozzleId) (f : Context → Context) (g : Meter → Meter) :
    (s.modMeter m g).modCtx n f = (s.modCtx n f).modMeter m g := rfl

theorem modCtx_modTank (s : State) (n : NozzleId) (k : TankId) (f : Context → Context) (g : Tank → Tank) :
    (s.modTank k g).modCtx n f = (s.modCtx n f).modTank k g := rfl

section
variable {s : State} {n : NozzleId}

theorem runBegun_modCtx_state (x y : NozzleState) :
    (runBegun s n x).modCtx n (fun c => { c with state := y }) = runBegun s n y := by
  rw [runBegun, modCtx_modMeter, State.modCtx_modCtx]
  rfl

theorem ctx_runBegun (x : NozzleState) : (runBegun s n x).ctx n =
    { s.ctx n with segmentStart := (s.delivery n).running, state := x } := by
  rw [runBegun, State.ctx_modMeter, State.ctx_modCtx_self]

theorem delivery_runBegun (x : NozzleState) : (runBegun s n x).delivery n = s.delivery n :=
  delivery_modCtx (s := s) (f := fun c => { c with segmentStart := (s.delivery n).running, state := x }) rfl n

/-- R91: the target of a RUN that begins. -/
theorem target_runBegun (x : NozzleState) : (runBegun s n x).target n =
    if (s.ctx n).segment = 0 then (s.delivery n).limit
    else min (s.delivery n).limit ((s.delivery n).running + (s.ctx n).segment) := by
  simp only [State.target, ctx_runBegun, delivery_runBegun]
  rfl

theorem meter_runBegun (x : NozzleState) : (runBegun s n x).meter n = { s.meter n with stray := 0 } := State.meter_modMeter_self ..

/-- R29: a FAULTED meter ends the RUN before PRIMING. -/
theorem beginRun_faulted (h : (s.meter n).state = .faulted) : s.beginRun n =
    ((s.modCtx n fun c => { c with segmentStart := (s.delivery n).running }).postRunEnded n .meterFault).heldByFault n
      .meterFault .meterFault := if_pos h

theorem beginRun_joins (h : (s.meter n).state ≠ .faulted) : s.beginRun n = (runBegun s n .priming).joinDemand n := by
  refine (if_neg h).trans (congrArg (fun y : State => y.joinDemand n) ?_)
  rw [modCtx_modMeter, State.modCtx_modCtx]
  rfl

/-! ### The pump deals with the nozzle (R66, R93) -/

theorem joinDemand_low (hp : (s.tankConfig (s.nozzleConfig n).tank).enabled = true
      ∧ (s.tank (s.nozzleConfig n).tank).pump.state = .heldLow
    ∨ (s.tankConfig (s.nozzleConfig n).tank).enabled = false
      ∧ (s.tank (s.nozzleConfig n).tank).pump.state = .stopped) :
    s.joinDemand n = (s.postOwner n (runEndedNote s n .tankLow)).heldByFault n .tankLow .tankLow := by
  have hidle : (s.tank (s.config.nozzles.read n).tank).pump.state ≠ .running := by
    rcases hp with ⟨-, hp⟩ | ⟨-, hp⟩ <;> exact fun hr => by cases hp.symm.trans hr
  rw [← quitPriming_heldByFault_idle hidle]
  rcases hp with ⟨he, hp⟩ | ⟨he, hp⟩
  · simp only [State.joinDemand, he, hp, if_true]
  · simp only [State.joinDemand, he, Bool.false_eq_true, if_false]

section
variable (he : (s.tankConfig (s.nozzleConfig n).tank).enabled = true)
include he

theorem joinDemand_stopped (hp : (s.tank (s.nozzleConfig n).tank).pump.state = .stopped) : s.joinDemand n =
    s.modTank (s.nozzleConfig n).tank fun x =>
      { x with pump := { state := .starting, timer := some (s.tankConfig (s.nozzleConfig n).tank).startDelay } } := by
  simp only [State.joinDemand, he, hp, if_true, State.setPump]

theorem joinDemand_starting (hp : (s.tank (s.nozzleConfig n).tank).pump.state = .starting) : s.joinDemand n = s := by
  simp only [State.joinDemand, he, hp, if_true]

/-- R66: a pump that runs, or runs on, takes the nozzle on at once. -/
theorem joinDemand_running (hp : (s.tank (s.nozzleConfig n).tank).pump.state = .running
      ∨ (s.tank (s.nozzleConfig n).tank).pump.state = .runOn) : s.joinDemand n =
    (if (s.tank (s.nozzleConfig n).tank).pump.state = .running then s
      else s.modTank (s.nozzleConfig n).tank fun y => { y with pump := { state := .running, timer := none } }).toldRunning
        n := by
  rcases hp with hp | hp
  · simp only [State.joinDemand, he, hp, if_true]
  · simp only [State.joinDemand, he, hp, if_true, reduceCtorEq, if_false, State.setPump]

end

theorem toldRunning_unproven (h : (s.meter n).proven = false) : s.toldRunning n =
    (s.modCtx n fun c => { c with state := .proving }).modMeter n fun m =>
      { m with creep := 0, window := some s.config.delivery.creepWindow } := by
  simp only [State.toldRunning, h, Bool.false_eq_true, if_false, State.enterProving]

theorem toldRunning_proven (h : (s.meter n).proven = true) : s.toldRunning n = s.enterFlow n := by
  simp only [State.toldRunning, h, if_true]

end

/-- R66: a RUN whose pump runs, or runs on and then runs again. -/
def runTold (s : State) (n : NozzleId) (x : NozzleState) : State :=
  let k := (s.config.nozzles.read n).tank
  if (s.tank k).pump.state = .running then runBegun s n x
  else (runBegun s n x).modTank k fun y => { y with pump := { state := .running, timer := none } }

/-- R93: such a RUN in flow. -/
def runFlows (s : State) (n : NozzleId) (x : NozzleState) : State :=
  (runTold s n x).modCtx n fun c => { c with stall := some s.config.delivery.stall }

section
variable {s : State} {n : NozzleId}

theorem runTold_modCtx_state (x y : NozzleState) :
    (runTold s n x).modCtx n (fun c => { c with state := y }) = runTold s n y := by
  simp only [runTold]
  split
  · exact runBegun_modCtx_state x y
  · rw [modCtx_modTank, runBegun_modCtx_state]

theorem config_runTold (x : NozzleState) : (runTold s n x).config = s.config := by
  rw [runTold]
  split <;> rfl

theorem flowing_runTold (x y : NozzleState) : flowing (runTold s n x) n y = runFlows s n y := by
  rw [runFlows, ← runTold_modCtx_state x y, State.modCtx_modCtx, flowing, config_runTold]

theorem target_runTold (x : NozzleState) : (runTold s n x).target n =
    if (s.ctx n).segment = 0 then (s.delivery n).limit
    else min (s.delivery n).limit ((s.delivery n).running + (s.ctx n).segment) := by
  rw [← target_runBegun x, runTold]
  split <;> rfl

theorem delivery_runTold (x : NozzleState) : (runTold s n x).delivery n = s.delivery n := by
  refine Eq.trans ?_ (delivery_runBegun x)
  rw [runTold]
  split <;> rfl

theorem proven_runTold (x : NozzleState) : ((runTold s n x).meter n).proven = (s.meter n).proven := by
  rw [show (s.meter n).proven = ((runBegun s n x).meter n).proven by rw [meter_runBegun], runTold]
  split <;> rfl

/-- R66: a pump that runs, or runs on, tells the nozzle at once. -/
theorem beginRun_told (hf : (s.meter n).state ≠ .faulted)
    (he : (s.config.tanks.read (s.config.nozzles.read n).tank).enabled = true)
    (hp : (s.tank (s.config.nozzles.read n).tank).pump.state = .running
      ∨ (s.tank (s.config.nozzles.read n).tank).pump.state = .runOn) :
    s.beginRun n = (runTold s n .priming).toldRunning n := by
  rw [beginRun_joins hf]
  exact joinDemand_running (s := runBegun s n .priming) he hp

/-- R30, R93: with the meter not proven the nozzle begins to prove it. -/
theorem toldRunning_runTold_unproven (h : (s.meter n).proven = false) : (runTold s n .priming).toldRunning n =
    (runTold s n .proving).modMeter n fun m => { m with creep := 0, window := some s.config.delivery.creepWindow } := by
  rw [toldRunning_unproven ((proven_runTold _).trans h), runTold_modCtx_state, config_runTold]

/-- R91, R93: with the meter proven the nozzle goes to full flow and its stage test. -/
theorem toldRunning_runTold_proven (h : (s.meter n).proven = true) {target : Nat}
    (ht : (runTold s n .priming).target n = target) : (runTold s n .priming).toldRunning n =
      if target ≤ (s.delivery n).running then
        (runFlows s n .flowFull).stopFlow n (if target = (s.delivery n).limit then .limit else .target)
      else if target - s.config.delivery.prestop ≤ (s.delivery n).running then runFlows s n .flowSlow
      else runFlows s n .flowFull := by
  rw [toldRunning_proven ((proven_runTold _).trans h), enterFlow_eq]
  simp only [ht, delivery_runTold, config_runTold, flowing_runTold]

end

/-! ### The pump's timers (R67) -/

theorem exec_pumpStartTimerExpiry {s : State} (h : s.Up) {k : TankId}
    (hp : (s.tank k).pump = { state := .starting, timer := some 0 }) :
    exec (.pumpStartTimerExpiry k) s = .next (s.pumpStarted k).startStore :=
  event_of_due (c := fun x => (x.tank k).pump.state = .starting ∧ (x.tank k).pump.timer = some 0)
    (g := fun x => x.pumpStarted k) h (by simp only [hp, and_self]) ((Within.refl s).pumpStarted k)

theorem exec_runOnTimerExpiry {s : State} (h : s.Up) {k : TankId}
    (hp : (s.tank k).pump = { state := .runOn, timer := some 0 }) :
    exec (.runOnTimerExpiry k) s = .next (s.setPump k .stopped none).startStore :=
  event_of_due (c := fun x => (x.tank k).pump.state = .runOn ∧ (x.tank k).pump.timer = some 0)
    (g := fun x => x.setPump k .stopped none) h (by simp only [hp, and_self]) ((Within.refl s).setPump ..)

/-- R65: the demand on a pump, in ascending nozzle number. -/
theorem demand_eq (s : State) (k : TankId) : s.demand k = (List.finRange 8).filter fun n =>
    decide ((s.config.nozzles.read n).tank = k
      ∧ (s.ctx n).state ∈ [NozzleState.priming, .proving, .flowFull, .flowSlow]) := by
  rw [State.demand, allNozzles_eq]
  refine List.filter_congr fun n _ => ?_
  rw [Bool.decide_and]
  refine congrArg (_ && ·) ?_
  cases (s.ctx n).state <;> rfl

/-- R67: what the pump's RUNNING makes of one nozzle of the demand. -/
theorem tellNozzle_eq (y : State) (n : NozzleId) : y.tellNozzle n =
    if (y.ctx n).state ≠ .priming then y
    else if (y.meter n).proven = false then
      (y.modCtx n fun c => { c with state := .proving }).modMeter n fun m =>
        { m with creep := 0, window := some y.config.delivery.creepWindow }
    else if y.target n ≤ (y.delivery n).running then
      (flowing y n .flowFull).stopFlow n (if y.target n = (y.delivery n).limit then .limit else .target)
    else if y.target n - y.config.delivery.prestop ≤ (y.delivery n).running then flowing y n .flowSlow
    else flowing y n .flowFull := by
  by_cases hx : (y.ctx n).state = .priming
  · rw [if_neg (not_not.2 hx), State.tellNozzle, if_pos hx]
    by_cases hm : (y.meter n).proven = false
    · rw [if_pos hm, toldRunning_unproven hm]
    · rw [if_neg hm, toldRunning_proven (by simpa using hm), enterFlow_eq]
  · rw [if_pos hx, State.tellNozzle, if_neg hx]

/-- Two folds agree where their steps do on every state they can come to. -/
theorem foldl_congr_within {α β : Type} {P : β → Prop} {f g : β → α → β} (hfg : ∀ y x, P y → f y x = g y x)
    (hP : ∀ y x, P y → P (f y x)) (xs : List α) {a : β} (ha : P a) : xs.foldl f a = xs.foldl g a := by
  induction xs generalizing a with
  | nil => rfl
  | cons x xs ih => rw [List.foldl_cons, List.foldl_cons, ← hfg a x ha, ih (hP a x ha)]

/-- Settles O37: a RUN's beginning is `beginRun_faulted` or `beginRun_joins` with the law of `joinDemand` for the pump's
state, and the entry to flow is `enterFlow_eq`; the start timer's end tells each nozzle as `tellNozzle_eq` has it. -/
theorem runsBeginAndPumpTimersEnd : Obligations.RunsBeginAndPumpTimersEnd := by
  unfold Obligations.RunsBeginAndPumpTimersEnd
  refine ⟨?_, fun k s h => ⟨demand_eq s k, fun hp => ⟨fun hd => ?_, fun hd => ?_⟩, fun hp => ?_⟩⟩
  · intro n s k cfg set d held begun
    refine ⟨fun hf => ?_, fun hf => ⟨fun hp => ?_, fun he hp => ?_, fun he hp => ?_, fun he hp => ?_⟩⟩
    · have hnote : runEndedNote (s.modCtx n fun c => { c with segmentStart := (s.delivery n).running }) n .meterFault =
          runEndedNote s n .meterFault := runEndedNote_congr (delivery_modCtx rfl n)
      rw [beginRun_faulted hf, postRunEnded_eq, hnote]
      rfl
    · rw [beginRun_joins hf, joinDemand_low (s := runBegun s n .priming) hp, runEndedNote_congr (delivery_runBegun _)]
      rfl
    · exact (beginRun_joins hf).trans (joinDemand_stopped (s := runBegun s n .priming) he hp)
    · exact (beginRun_joins hf).trans (joinDemand_starting (s := runBegun s n .priming) he hp)
    · intro told segment target flow
      have htarget : (runTold s n .priming).target n = target := target_runTold _
      rw [beginRun_told hf he hp]
      refine ⟨toldRunning_runTold_unproven, fun hm hlow => ?_, fun hm hpre hlow => ?_, fun hm hend => ?_⟩
      · rw [toldRunning_runTold_proven hm htarget, if_neg (Nat.not_le.2 (hlow.trans_le (Nat.sub_le ..))),
          if_neg (Nat.not_le.2 hlow)]
        rfl
      · rw [toldRunning_runTold_proven hm htarget, if_neg (Nat.not_le.2 hlow), if_pos hpre]
        rfl
      · rw [toldRunning_runTold_proven hm htarget, if_pos hend]
        rfl
  · rw [exec_pumpStartTimerExpiry h hp, State.pumpStarted, if_pos (List.isEmpty_iff.2 hd), runOnPump_eq]
    rfl
  · intro told
    rw [exec_pumpStartTimerExpiry h hp, State.pumpStarted, if_neg (by simpa using hd)]
    refine congrArg (fun y : State => Host.Outcome.next y.startStore) ?_
    refine foldl_congr_within (P := fun y => y.config = s.config) (fun y n hy => ?_) (fun y n hy => ?_) _ rfl
    · rw [tellNozzle_eq, flowing, flowing, hy]
      rfl
    · exact ((Within.refl (fed := False) y).tellNozzle n).config.trans hy
  · exact exec_runOnTimerExpiry h hp

end Sys2Proof.Proofs

namespace Sys2Proof.Proofs
open Sys2Proof Sys2Proof.Machine

/-! ### Rounding and correction (R47, R48) -/

/-- R47: a quotient's magnitude, rounded to the nearest integer. -/
def rounded (a d : Nat) : Nat := (2 * a + d) / (2 * d)

/-- R47: a rounded quotient is the rounded magnitude with the sign of what is divided. -/
theorem divAway_cases (x : Int) (d : Nat) :
    x = x.natAbs ∧ divAway x d = rounded x.natAbs d ∨ x = -x.natAbs ∧ divAway x d = -rounded x.natAbs d := by
  simp only [divAway]
  split
  · next h => exact .inr ⟨by omega, rfl⟩
  · next h => exact .inl ⟨by omega, rfl⟩

theorem natAbs_divAway (x : Int) (d : Nat) : (divAway x d).natAbs = rounded x.natAbs d := by
  rcases divAway_cases x d with ⟨-, he⟩ | ⟨-, he⟩ <;> omega

theorem rounded_zero {d : Nat} (hd : 0 < d) : rounded 0 d = 0 := Nat.div_eq_of_lt (by omega)

theorem divAway_nonneg {x : Int} (d : Nat) (h : 0 ≤ x) : 0 ≤ divAway x d := by
  simp only [divAway, if_neg (not_lt.2 h)]
  exact Int.natCast_nonneg _

theorem divAway_nonpos {x : Int} {d : Nat} (hd : 0 < d) (h : x ≤ 0) : divAway x d ≤ 0 := by
  rcases divAway_cases x d with ⟨hx, he⟩ | ⟨-, he⟩
  · rw [he, show x.natAbs = 0 by omega, rounded_zero hd]
    rfl
  · omega

/-- R47: the rounded magnitude times the divisor lies within half the divisor of the magnitude, and a half goes up. -/
theorem rounded_bounds (a : Nat) {d : Nat} (hd : 0 < d) :
    2 * (rounded a d * d) ≤ 2 * a + d ∧ 2 * a < 2 * (rounded a d * d) + d := by
  have hle := Nat.div_mul_le_self (2 * a + d) (2 * d)
  have hlt := Nat.lt_div_mul_add (a := 2 * a + d) (b := 2 * d) (by omega)
  have he : rounded a d * (2 * d) = 2 * (rounded a d * d) := by ring
  rw [← rounded, he] at hle hlt
  omega

/-- R47: a rounded quotient is a nearest one, and of two it is the one of greater magnitude. -/
theorem divAway_nearest (x : Int) {d : Nat} (hd : 0 < d) : 2 * (x - divAway x d * d).natAbs ≤ d
    ∧ (2 * (x - divAway x d * d).natAbs = d → x.natAbs < (divAway x d * d).natAbs) := by
  obtain ⟨hle, hlt⟩ := rounded_bounds x.natAbs hd
  rcases divAway_cases x d with ⟨hx, he⟩ | ⟨hx, he⟩
  · have hq : divAway x d * d = (rounded x.natAbs d * d : Nat) := by rw [he, Nat.cast_mul]
    omega
  · have hq : divAway x d * d = -(rounded x.natAbs d * d : Nat) := by rw [he, Nat.cast_mul, Int.neg_mul]
    omega

/-- R48: a correction factor within its ends is as computed, one outside them the nearer end and marked. -/
theorem ctl_cases (alpha : Nat) (t : Int) :
    (rawCtl alpha t < 900000 → ctlOf alpha t = 900000 ∧ ctlClamped alpha t = true)
    ∧ (900000 ≤ rawCtl alpha t → rawCtl alpha t ≤ 1100000 →
        (ctlOf alpha t : Int) = rawCtl alpha t ∧ ctlClamped alpha t = false)
    ∧ (1100000 < rawCtl alpha t → ctlOf alpha t = 1100000 ∧ ctlClamped alpha t = true) := by
  simp only [ctlOf, ctlClamped, decide_eq_true_eq, decide_eq_false_iff_not]
  refine ⟨fun h => ⟨by omega, .inl h⟩, fun h1 h2 => ⟨by omega, by omega⟩, fun h => ⟨by omega, .inr h⟩⟩

/-! ### A counted pulse (R27, R41, R45 to R50) -/

theorem onLast_append (f : Leg → Leg) (before : List Leg) (l : Leg) : onLast f (before ++ [l]) = before ++ [f l] := by
  induction before with
  | nil => rfl
  | cons x xs ih =>
    cases xs with
    | nil => rfl
    | cons y ys => exact congrArg (x :: ·) ih

section
variable {s : State} {n : NozzleId}

theorem pulse_counted (hu : (s.meter n).state = .inUse) (hc : (s.ctx n).state.counts = true) :
    s.pulse n = s.countedPulse n := by
  simp only [State.pulse, hu, hc, if_true]

/-- R27: at the count limit a pulse in flow faults the meter and ends the RUN. -/
theorem countedPulse_limit (h : (s.meter n).count = 4294967295) (hx : (s.ctx n).state ≠ .draining) :
    s.countedPulse n = (s.faultMeter n .countLimit).stopFlow n .meterFault :=
  (if_pos h).trans (if_neg hx)

/-- R27, R96: at the count limit a pulse in DRAINING faults the meter and is the reason that remains. -/
theorem countedPulse_limit_draining (h : (s.meter n).count = 4294967295) (hx : (s.ctx n).state = .draining) :
    s.countedPulse n =
      (s.faultMeter n .countLimit).modCtx n fun c => { c with endReason := some .meterFault } :=
  (if_pos h).trans (if_pos hx)

theorem usable_eq (c : Channel) : c.usable = if c.state = .failed then none else c.value := by
  unfold Channel.usable
  cases c.state <;> rfl

end

/-- R34, R41: the usable value of a nozzle's temperature channel. -/
def nozzleTemp (s : State) (n : NozzleId) : Option Int :=
  let channel := s.scanner.channels.read ⟨(s.config.nozzles.read n).channel.val, by omega⟩
  if channel.state = .failed then none else channel.value

/-- R41: the temperature a counted pulse is weighed with. -/
def pulseTemp (s : State) (n : NozzleId) : Int :=
  (nozzleTemp s n).getD
    (s.config.products.read (s.config.tanks.read (s.config.nozzles.read n).tank).product).defaultTemp

theorem tempInUse_eq (s : State) (n : NozzleId) : s.tempInUse n = (pulseTemp s n, (nozzleTemp s n).isNone) := by
  have hu : (s.channel ⟨(s.nozzleConfig n).channel.val, by omega⟩).usable = nozzleTemp s n := usable_eq _
  simp only [State.tempInUse, hu, pulseTemp]
  cases nozzleTemp s n <;> rfl

/-- R41: whether a counted pulse weighs a substituted temperature into its leg. -/
def weighs (s : State) (n : NozzleId) (l : Leg) : Bool :=
  (nozzleTemp s n).isNone && decide (l.gross < grossOf ((s.meter n).count + 1) (s.config.nozzles.read n).km)

/-- R41, R45, R46: the current leg after a counted pulse. -/
def pulsedLeg (s : State) (n : NozzleId) (l : Leg) : Leg :=
  { l.count (s.config.nozzles.read n).km ((s.meter n).count + 1) (pulseTemp s n) with
    substituted := l.substituted || weighs s n l }

/-- R41, R50: the delivery after a counted pulse, its last leg the current one. -/
def pulsedDelivery (s : State) (n : NozzleId) (d : Delivery) (before : List Leg) (l : Leg) : Delivery :=
  { d with
    legs := (before ++ [pulsedLeg s n l]).map
      (Leg.settle (s.config.products.read (d.product.getD (s.config.tanks.read d.tank).product))),
    faults := if weighs s n l then { d.faults with probeSubstitute := true } else d.faults }

/-- R27, R41, R50: the part after a counted pulse has reached the current leg. -/
def pulseCounted (s : State) (n : NozzleId) (d : Delivery) (before : List Leg) (l : Leg) : State :=
  let metered : State := (s.modMeter n fun m => { m with count := (s.meter n).count + 1 }).modCtx n fun c =>
    { c with delivery := some (pulsedDelivery s n d before l) }
  if weighs s n l = true ∧ l.substituted = false then
    metered.postOwner n (.deliveryStage (.probeSubstitute d.ticket d.legs.length (pulseTemp s n)))
  else metered

theorem modCtx_congr {s : State} {n : NozzleId} {f g : Context → Context} (h : f (s.ctx n) = g (s.ctx n)) :
    s.modCtx n f = s.modCtx n g := by simp only [State.modCtx, h]

theorem delivery_of_ctx {s : State} {n : NozzleId} {d : Delivery} (h : (s.ctx n).delivery = some d) :
    s.delivery n = d := by rw [State.delivery, h]; rfl

section
variable {s : State} {n : NozzleId} {d : Delivery} {before : List Leg} {l : Leg}

section
variable (hd : (s.ctx n).delivery = some d) (hl : d.legs = before ++ [l])
include hd hl

theorem pulsedLegs_eq : s.pulsedLegs n ((s.meter n).count + 1) =
    ((pulsedDelivery s n d before l).legs, weighs s n l) := by
  have hw : ((nozzleTemp s n).isNone && decide (l.gross < grossOf ((s.meter n).count + 1) (s.nozzleConfig n).km)) =
    weighs s n l := rfl
  have hleg : (if weighs s n l = true then
      { l.count (s.nozzleConfig n).km ((s.meter n).count + 1) (pulseTemp s n) with substituted := true }
      else l.count (s.nozzleConfig n).km ((s.meter n).count + 1) (pulseTemp s n)) = pulsedLeg s n l := by
    cases h : weighs s n l <;> simp [pulsedLeg, h, Leg.count, State.nozzleConfig]
  simp only [State.pulsedLegs, delivery_of_ctx hd, hl, List.getLast?_concat, tempInUse_eq, onLast_append, hw, hleg]
  rfl

theorem legPulse_eq : s.legPulse n = pulseCounted s n d before l := by
  have hflag : (weighs s n l && !l.substituted) = true ↔ weighs s n l = true ∧ l.substituted = false := by simp
  have hstate : (s.modMeter n fun k => { k with count := k.count + 1 }).modDelivery n (fun e =>
      { e with legs := (pulsedDelivery s n d before l).legs,
               faults := if weighs s n l then e.faults.add .probeSubstitute else e.faults }) =
      (s.modMeter n fun m => { m with count := (s.meter n).count + 1 }).modCtx n fun c =>
        { c with delivery := some (pulsedDelivery s n d before l) } := by
    rw [modMeter_congr (g := fun m => { m with count := (s.meter n).count + 1 }) rfl]
    refine modCtx_congr ?_
    simp only [State.ctx_modMeter, hd, Option.map_some]
    rfl
  simp only [State.legPulse, pulsedLegs_eq hd hl, hstate, delivery_of_ctx hd, tempInUse_eq]
  simp only [hl, List.getLast?_concat, hflag, pulseCounted]

end

theorem ctx_pulseCounted : (pulseCounted s n d before l).ctx n =
    { s.ctx n with delivery := some (pulsedDelivery s n d before l) } := by
  simp only [pulseCounted]
  split <;> simp

theorem meter_pulseCounted : (pulseCounted s n d before l).meter n = { s.meter n with count := (s.meter n).count + 1 } := by
  simp only [pulseCounted]
  split <;> simp

theorem state_pulseCounted (s : State) (n : NozzleId) (d : Delivery) (before : List Leg) (l : Leg) :
    ((pulseCounted s n d before l).ctx n).state = (s.ctx n).state := by rw [ctx_pulseCounted]

theorem creep_pulseCounted (s : State) (n : NozzleId) (d : Delivery) (before : List Leg) (l : Leg) :
    ((pulseCounted s n d before l).meter n).creep = (s.meter n).creep := by rw [meter_pulseCounted]

theorem config_pulseCounted : (pulseCounted s n d before l).config = s.config := by
  simp only [pulseCounted]
  split <;> rfl

theorem freeIndex_pulseCounted : (pulseCounted s n d before l).freeIndex = s.freeIndex := by
  simp only [pulseCounted]
  split <;> rfl

end

end Sys2Proof.Proofs

namespace Sys2Proof.Proofs
open Sys2Proof Sys2Proof.Machine

/-! ### A counted pulse by the state of its context (R30, R92, R94, R96) -/

section
variable {s : State} {n : NozzleId} {y : State}

section
variable (h : (s.meter n).count < 4294967295) (hy : s.legPulse n = y)
include h hy

theorem countedPulse_proving (hx : (y.ctx n).state = .proving) : s.countedPulse n = y.creepPulse n := by
  subst hy
  refine (if_neg h.ne).trans ?_
  simp only [hx]

theorem countedPulse_draining (hx : (y.ctx n).state = .draining) :
    s.countedPulse n = y.modCtx n fun c => { c with drain := some s.config.delivery.drainSettle } := by
  subst hy
  refine (if_neg h.ne).trans ?_
  simp only [hx]

theorem countedPulse_flowing (hx : (y.ctx n).state = .flowFull ∨ (y.ctx n).state = .flowSlow) : s.countedPulse n =
    (y.modCtx n fun c => { c with stall := some s.config.delivery.stall }).stageTest n := by
  subst hy
  refine (if_neg h.ne).trans ?_
  rcases hx with hx | hx <;> simp only [hx]

end

theorem creepPulse_counts (h : (y.meter n).creep < 255) :
    y.creepPulse n = y.modMeter n fun m => { m with creep := m.creep + 1 } := if_pos h

/-- R30: past 255 the creep count is some byte. -/
theorem creepPulse_free (h : (y.meter n).creep = 255) : ∃ c, c ≤ 255 ∧ y.creepPulse n =
    { y.modMeter n fun m => { m with creep := c } with freeIndex := y.freeIndex + 1 } :=
  ⟨(Config.creepPastTop y.freeIndex).toNat, Nat.le_of_lt_succ (Config.creepPastTop y.freeIndex).isLt,
    if_neg (by omega)⟩

end

/-- R91: the target by the step under way. -/
theorem target_eq (n : NozzleId) (s : State) :
    let limit := (s.delivery n).limit
    s.target n = match (s.ctx n).steps[(s.ctx n).pointer]? with
      | some (.run a) => if a = 0 then limit else min limit ((s.ctx n).segmentStart + a)
      | _ => limit := by
  intro limit
  show (if (s.ctx n).segment = 0 then limit else min limit ((s.ctx n).segmentStart + (s.ctx n).segment)) = _
  unfold Context.segment
  match (s.ctx n).steps[(s.ctx n).pointer]? with
  | none => rfl
  | some (.run a) => rfl
  | some (.ident _ _ _) => rfl
  | some (.auth _) => rfl
  | some .hold => rfl
  | some .finish => rfl

/-- R92, R94: the part after a counted pulse in flow, its stall timer loaded again, before the stage test. -/
def pulseFlows (s : State) (n : NozzleId) (d : Delivery) (before : List Leg) (l : Leg) : State :=
  (pulseCounted s n d before l).modCtx n fun c => { c with stall := some s.config.delivery.stall }

section
variable {s : State} {n : NozzleId} {d : Delivery} {before : List Leg} {l : Leg}

theorem ctx_pulseFlows : (pulseFlows s n d before l).ctx n =
    { s.ctx n with delivery := some (pulsedDelivery s n d before l), stall := some s.config.delivery.stall } := by
  rw [pulseFlows, State.ctx_modCtx_self, ctx_pulseCounted]

theorem delivery_pulseFlows : (pulseFlows s n d before l).delivery n = pulsedDelivery s n d before l :=
  delivery_of_ctx (by rw [ctx_pulseFlows])

theorem config_pulseFlows : (pulseFlows s n d before l).config = s.config := config_pulseCounted

/-- R91: a pulse does not move the target. -/
theorem target_pulseFlows (hd : (s.ctx n).delivery = some d) : (pulseFlows s n d before l).target n = s.target n := by
  refine target_congr ?_ ?_ ?_
  · rw [ctx_pulseFlows]
    rfl
  · rw [ctx_pulseFlows]
  · rw [delivery_pulseFlows, delivery_of_ctx hd]
    rfl

section
variable (hlt : (s.meter n).count < 4294967295) (hd : (s.ctx n).delivery = some d) (hl : d.legs = before ++ [l])
include hlt hd hl

theorem countedPulse_inFlow (hx : (s.ctx n).state = .flowFull ∨ (s.ctx n).state = .flowSlow) :
    s.countedPulse n = (pulseFlows s n d before l).stageTest n :=
  countedPulse_flowing hlt (legPulse_eq hd hl) (by rw [ctx_pulseCounted]; exact hx)

/-- R92: short of the target, and in full flow of the prestop point, the RUN goes on as it is. -/
theorem countedPulse_goesOn (hx : (s.ctx n).state = .flowFull ∨ (s.ctx n).state = .flowSlow)
    (ht : (pulsedDelivery s n d before l).running < s.target n)
    (hp : (s.ctx n).state = .flowFull →
      (pulsedDelivery s n d before l).running < s.target n - s.config.delivery.prestop) :
    s.countedPulse n = pulseFlows s n d before l := by
  rw [countedPulse_inFlow hlt hd hl hx, stageTest_stays]
  · rwa [delivery_pulseFlows, target_pulseFlows hd]
  · rw [delivery_pulseFlows, target_pulseFlows hd, config_pulseFlows, ctx_pulseFlows]
    exact hp

theorem countedPulse_slows (hx : (s.ctx n).state = .flowFull)
    (hp : s.target n - s.config.delivery.prestop ≤ (pulsedDelivery s n d before l).running)
    (ht : (pulsedDelivery s n d before l).running < s.target n) :
    s.countedPulse n = (pulseFlows s n d before l).modCtx n fun c => { c with state := .flowSlow } := by
  rw [countedPulse_inFlow hlt hd hl (.inl hx), stageTest_slows]
  · rwa [delivery_pulseFlows, target_pulseFlows hd]
  · rw [ctx_pulseFlows]
    exact hx
  · rw [delivery_pulseFlows, target_pulseFlows hd, config_pulseFlows]
    exact hp

theorem countedPulse_ends (hx : (s.ctx n).state = .flowFull ∨ (s.ctx n).state = .flowSlow)
    (ht : s.target n ≤ (pulsedDelivery s n d before l).running) : s.countedPulse n =
      (pulseFlows s n d before l).stopFlow n (if s.target n = d.limit then .limit else .target) := by
  rw [countedPulse_inFlow hlt hd hl hx, stageTest_ends (by rwa [delivery_pulseFlows, target_pulseFlows hd]),
    delivery_pulseFlows, target_pulseFlows hd]
  rfl

end

end

/-- Settles O30: the arithmetic is `divAway_nearest` and `ctl_cases`; a counted pulse reaches the current leg as
`legPulse_eq` has it, and what follows is read off the state of the context, in flow by the stage test. -/
theorem countedPulseMetersVolume : Obligations.CountedPulseMetersVolume := by
  unfold Obligations.CountedPulseMetersVolume
  refine ⟨fun x d hd => ⟨natAbs_divAway x d, divAway_nonneg d, divAway_nonpos hd, divAway_nearest x hd⟩, ctl_cases,
    target_eq, fun n s h hu => ?_⟩
  intro owner flowing
  have hpulse (hc : (s.ctx n).state.counts = true) : exec (.meterPulse n) s = .next (s.countedPulse n).startStore := by
    rw [exec_meterPulse h, pulse_counted hu hc]
  have hflow (hx : flowing) : (s.ctx n).state.counts = true := by
    rcases hx with hx | hx <;> rw [hx] <;> rfl
  have hdrain (hx : (s.ctx n).state = .draining) : (s.ctx n).state.counts = true := by rw [hx]; rfl
  have hprove (hx : (s.ctx n).state = .proving) : (s.ctx n).state.counts = true := by rw [hx]; rfl
  refine ⟨fun hmax => ⟨fun hx => ?_, fun hx => ?_⟩, fun d before l hlt hd hl => ?_⟩
  · have hnot : (s.ctx n).state ≠ .draining := by
      rcases hx with hx | hx | hx <;> rw [hx] <;> decide
    rw [hpulse (hx.elim hprove hflow), countedPulse_limit hmax hnot]
    rfl
  · rw [hpulse (hdrain hx), countedPulse_limit_draining hmax hx]
    rfl
  · intro channel usable v pulses gross weighed p settled legs net metered counted flows
    have hcounted : s.legPulse n = counted := legPulse_eq hd hl
    have hstate : (counted.ctx n).state = (s.ctx n).state := state_pulseCounted s n d before l
    have hcreep : (counted.meter n).creep = (s.meter n).creep := creep_pulseCounted s n d before l
    have hfreeIndex : counted.freeIndex = s.freeIndex := freeIndex_pulseCounted
    refine ⟨fun hx => ⟨fun hc => ?_, fun hc => ?_⟩, fun hx => ?_, fun hx ht => ?_, fun hx ht => ?_, fun hx hp ht => ?_,
      fun hx ht => ?_⟩
    · rw [hpulse (hprove hx), countedPulse_proving hlt hcounted (hstate.trans hx), creepPulse_counts (hcreep.trans_lt hc)]
    · obtain ⟨c, hc, hfree⟩ := creepPulse_free (hcreep.trans hc)
      rw [hpulse (hprove hx), countedPulse_proving hlt hcounted (hstate.trans hx), hfree, hfreeIndex]
      exact ⟨c, hc, rfl⟩
    · rw [hpulse (hdrain hx), countedPulse_draining hlt hcounted (hstate.trans hx)]
    · rw [hpulse (hflow (.inr hx)), countedPulse_goesOn hlt hd hl (.inr hx) ht fun hf => by cases hx.symm.trans hf]
      rfl
    · rw [hpulse (hflow (.inl hx)), countedPulse_goesOn hlt hd hl (.inl hx) (ht.trans_le (Nat.sub_le ..)) fun _ => ht]
      rfl
    · rw [hpulse (hflow (.inl hx)), countedPulse_slows hlt hd hl hx hp ht]
      rfl
    · rw [hpulse (hflow hx), countedPulse_ends hlt hd hl hx ht]
      rfl

end Sys2Proof.Proofs

namespace Sys2Proof.Proofs
open Sys2Proof Sys2Proof.Machine

/-! ### Strapping lists (R56) -/

/-- R56: the points at or below the level are passed, the last of them standing before it. -/
theorem strapFrom_passes {level : Nat} {before : List StrapPoint} {p : StrapPoint}
    (hb : ∀ x ∈ before, x.level ≤ level) (hp : p.level ≤ level) (rest : List StrapPoint) (lo : StrapPoint) :
    strapFrom level lo (before ++ p :: rest) = strapFrom level p rest := by
  induction before generalizing lo with
  | nil => exact if_neg (Nat.not_lt.2 hp)
  | cons x xs ih =>
    exact (if_neg (Nat.not_lt.2 (hb x List.mem_cons_self))).trans (ih (fun y hy => hb y (List.mem_cons_of_mem _ hy)) x)

theorem strapVolume_passes {level : Nat} {before : List StrapPoint} {p : StrapPoint}
    (hb : ∀ x ∈ before, x.level ≤ level) (hp : p.level ≤ level) (rest : List StrapPoint) :
    strapVolume (before ++ p :: rest) level = strapFrom level p rest := by
  cases before with
  | nil => exact if_neg (Nat.not_lt.2 hp)
  | cons x xs =>
    exact (if_neg (Nat.not_lt.2 (hb x List.mem_cons_self))).trans
      (strapFrom_passes (fun y hy => hb y (List.mem_cons_of_mem _ hy)) hp rest x)

theorem strapFrom_between {level : Nat} {p q : StrapPoint} (rest : List StrapPoint) (h : level < q.level) :
    strapFrom level p (q :: rest) =
      (100 * p.litres + 100 * (level - p.level) * (q.litres - p.litres) / (q.level - p.level), false) := if_pos h

/-- In a rising list every point before another stands at or below any level at or above that one's. -/
theorem levels_below {before rest : List StrapPoint} {p : StrapPoint} {level : Nat}
    (hs : (before ++ p :: rest).Pairwise fun a b => a.level < b.level) (hp : p.level ≤ level) :
    ∀ x ∈ before, x.level ≤ level := fun x hx =>
  ((List.pairwise_append.1 hs).2.2 x hx p List.mem_cons_self).le.trans hp

/-- R56: at or below the first point of two or more, that point's volume. -/
theorem strapVolume_first {level : Nat} {p q : StrapPoint} {rest : List StrapPoint}
    (hs : (p :: q :: rest).Pairwise fun a b => a.level < b.level) (h : level ≤ p.level) :
    strapVolume (p :: q :: rest) level = (100 * p.litres, false) := by
  rcases h.lt_or_eq with hlt | rfl
  · exact if_pos hlt
  · have hq : p.level < q.level := (List.pairwise_cons.1 hs).1 q List.mem_cons_self
    rw [show strapVolume (p :: q :: rest) p.level = strapFrom p.level p (q :: rest) from if_neg (lt_irrefl _),
      strapFrom_between rest hq, Nat.sub_self, Nat.mul_zero, Nat.zero_mul, Nat.zero_div, Nat.add_zero]

/-! ### The scan (R34) -/

theorem exec_scanTimerExpiry {s : State} (h : s.Up) (ht : s.scanner.timer = 0) :
    exec .scanTimerExpiry s = .next s.beginScan.startStore := by
  have hk : (if s.scanner.timer = 0 then s.beginScan else s) = s.beginScan := if_pos ht
  rw [show exec .scanTimerExpiry s = s.event fun x => if x.scanner.timer = 0 then x.beginScan else x from rfl,
    event_of_up h (by rw [hk]; exact h.2), hk]

theorem isNone_eq_decide (v : Option Int) : v.isNone = decide (v = none) := by cases v <;> rfl

/-! ### A tank gauged (R40, R57, R58) -/

section
variable {y : State} {k : TankId}

theorem gaugeTank_disabled (he : (y.config.tanks.read k).enabled = false) : y.gaugeTank k = y :=
  if_neg (by rw [State.tankConfig, he]; exact Bool.false_ne_true)

section
variable (he : (y.config.tanks.read k).enabled = true)
include he

theorem gaugeTank_invalid (hv : (y.channel (levelChannel k)).usable = none) : y.gaugeTank k =
    (y.modTank k fun x => { x with gauge := invalidGauge }).evaluateTank k := by
  refine (if_pos he).trans ?_
  simp only [hv, gaugeOf]

theorem gaugeTank_gauged {v : Int} (hv : (y.channel (levelChannel k)).usable = some v) : y.gaugeTank k =
    let volume := strapVolume (y.config.tanks.read k).strapping v.toNat
    let product := y.config.products.read (y.config.tanks.read k).product
    let t := (y.channel (tempChannel k)).usable.getD product.defaultTemp
    (y.modTank k fun x => { x with gauge :=
      { net := some (netOf volume.1 (ctlOf product.alpha t)), substituted := (y.channel (tempChannel k)).usable.isNone,
        overGauge := volume.2, clamped := ctlClamped product.alpha t } }).evaluateTank k := by
  refine (if_pos he).trans ?_
  simp only [hv, gaugeOf]
  rfl

end

end

/-! ### A sample taken (R36 to R39) -/

/-- R34, R36: a channel after its sample, the scan moved on to the next. -/
def sampleTaken (s : State) (i : ChannelId) (x : Channel) : State :=
  { s with scanner := { s.scanner with channels := s.scanner.channels.write i x, position := nextPosition i } }

section
variable {s : State} {i : ChannelId} {code : Nat}

/-- R39: the part once the channel has taken its sample and told of it. -/
def sampleTold (s : State) (i : ChannelId) (code : Nat) : State :=
  let x := sampled (s.config.probes.spans.read i) s.config.probes.holdLimit code (s.scanner.channels.read i)
  (sampleTaken s i x).postProbe i (s.scanner.channels.read i) x

theorem sample_untanked (hp : s.scanner.position = some i) (ht : tankOfChannel i = none) :
    s.sample i code = sampleTold s i code := by
  simp only [State.sample, hp, if_true, ht]
  rfl

theorem sample_tanked {t : TankId} (hp : s.scanner.position = some i) (ht : tankOfChannel i = some t) :
    s.sample i code = (sampleTold s i code).gaugeTank t := by
  simp only [State.sample, hp, if_true, ht]
  rfl

theorem within_sampleTold : (sampleTold s i code).startUp = s.startUp ∧ (sampleTold s i code).config = s.config := by
  rw [sampleTold, State.postProbe]
  split
  · exact ⟨rfl, rfl⟩
  · exact ⟨rfl, rfl⟩

theorem exec_sampleComplete {code : BitVec 16} (h : s.Up) (hp : s.scanner.position = some i) :
    exec (.sampleComplete i code) s = .next (s.sample i code.toNat).startStore := by
  refine event_of_up (k := fun x => x.sample i code.toNat) h ?_
  have hstart : (s.sample i code.toNat).startUp = (sampleTold s i code.toNat).startUp := by
    cases ht : tankOfChannel i with
    | none => rw [sample_untanked hp ht]
    | some t =>
      rw [sample_tanked hp ht]
      exact ((Within.refl (fed := False) _).gaugeTank t).startUp
  rw [hstart, within_sampleTold.1]
  exact h.2

theorem tankOfChannel_level (k : TankId) : tankOfChannel (levelChannel k) = some k := by revert k; decide
theorem tankOfChannel_temp (k : TankId) : tankOfChannel (tempChannel k) = some k := by revert k; decide

/-! R39: PROBE_STATE is told where the sample takes the channel into FAILED or out of it. -/

section
variable {x : Channel}
  (hx : sampled (s.config.probes.spans.read i) s.config.probes.holdLimit code (s.scanner.channels.read i) = x)
include hx

theorem sampleTold_quiet (hc : (s.scanner.channels.read i).state = .failed ↔ x.state = .failed) :
    sampleTold s i code = sampleTaken s i x := by
  rw [sampleTold, hx]
  exact if_pos (propext hc)

theorem sampleTold_fails (hc : (s.scanner.channels.read i).state ≠ .failed) (hf : x.state = .failed) :
    sampleTold s i code = (sampleTaken s i x).postRole .workshop (.probeState i .failed none) := by
  have hne : ¬ ((s.scanner.channels.read i).state = .failed) = (x.state = .failed) := fun he => hc (he ▸ hf)
  rw [sampleTold, hx, State.postProbe, if_neg hne, hf]
  rfl

theorem sampleTold_recovers (hc : (s.scanner.channels.read i).state = .failed) (hg : x.state = .good) :
    sampleTold s i code = (sampleTaken s i x).postRole .workshop (.probeState i .good x.value) := by
  have hne : ¬ ((s.scanner.channels.read i).state = .failed) = (x.state = .failed) := fun he => by
    have hf := he ▸ hc
    cases hg.symm.trans hf
  rw [sampleTold, hx, State.postProbe, if_neg hne, hg, if_pos rfl]

end

end

/-! ### A channel by its state (R36 to R38) -/

section
variable {span : Span} {limit code : Nat} {c : Channel}

theorem sampled_unsettled_early (hc : c.state = .unsettled) (hs : c.settle < 4) :
    sampled span limit code c = { c with settle := c.settle + 1 } := by
  simp only [sampled, hc, hs, if_true]

theorem sampled_unsettled_valid (hc : c.state = .unsettled) (hs : 4 ≤ c.settle) (hv : sampleValid code = true) :
    sampled span limit code c = { c with state := .good, value := some (sampleValue span code), hold := 0 } := by
  simp only [sampled, hc, if_neg (Nat.not_lt.2 hs), hv, if_true]

theorem sampled_unsettled_invalid (hc : c.state = .unsettled) (hs : 4 ≤ c.settle) (hv : sampleValid code = false) :
    sampled span limit code c = if limit ≤ c.hold + 1 then
      { state := .failed, value := none, hold := c.hold + 1, settle := 0 } else { c with hold := c.hold + 1 } := by
  simp only [sampled, hc, if_neg (Nat.not_lt.2 hs), hv, Bool.false_eq_true, if_false]

theorem sampled_good_valid (hc : c.state = .good) (hv : sampleValid code = true) :
    sampled span limit code c = { c with value := some (sampleValue span code) } := by
  simp only [sampled, hc, hv, if_true]

theorem sampled_good_invalid (hc : c.state = .good) (hv : sampleValid code = false) :
    sampled span limit code c = heldSample limit c 1 := by
  simp only [sampled, hc, hv, Bool.false_eq_true, if_false]

theorem sampled_holding_valid (hc : c.state = .holding) (hv : sampleValid code = true) :
    sampled span limit code c = { c with state := .good, value := some (sampleValue span code), hold := 0 } := by
  simp only [sampled, hc, hv, if_true]

theorem sampled_holding_invalid (hc : c.state = .holding) (hv : sampleValid code = false) :
    sampled span limit code c = heldSample limit c (c.hold + 1) := by
  simp only [sampled, hc, hv, Bool.false_eq_true, if_false]

theorem sampled_failed_invalid (hc : c.state = .failed) (hv : sampleValid code = false) :
    sampled span limit code c = { c with settle := 0 } := by
  simp only [sampled, hc, hv, Bool.false_eq_true, if_false]

theorem sampled_failed_first (hc : c.state = .failed) (hv : sampleValid code = true) (hs : c.settle = 0) :
    sampled span limit code c = { c with settle := 1 } := by
  simp [sampled, hc, hv, hs]

theorem sampled_failed_second (hc : c.state = .failed) (hv : sampleValid code = true) (hs : 1 ≤ c.settle) :
    sampled span limit code c = { state := .good, value := some (sampleValue span code), hold := 0, settle := 0 } := by
  simp only [sampled, hc, hv, if_true, if_pos (Nat.succ_le_succ hs)]

/-- R37: the value of a channel is kept short of the hold limit. -/
theorem heldSample_kept {hold : Nat} (h : hold < limit) :
    heldSample limit c hold = { c with state := .holding, hold := hold } := if_neg (Nat.not_le.2 h)

theorem heldSample_failed {hold : Nat} (h : limit ≤ hold) :
    heldSample limit c hold = { state := .failed, value := none, hold := hold, settle := 0 } := if_pos h

end

/-- Settles O33: each clause on a channel is the law of `sampled` for its state with that of `sampleTold` for what is
told, and a tank is gauged as `gaugeTank` has it; a strapping list's points below the level are passed over. -/
theorem samplesSettleChannels : Obligations.SamplesSettleChannels := by
  unfold Obligations.SamplesSettleChannels
  refine ⟨fun s h ht => exec_scanTimerExpiry h ht, fun i code s h hp => ?_⟩
  intro c span limit value valid after takes
  have htakes : takes (sampleTold s i code.toNat) := by
    refine ⟨fun hi => ?_, fun k level temp hlevel htemp hi => ?_⟩
    · rw [exec_sampleComplete h hp, sample_untanked hp (if_neg (Nat.not_le.2 hi))]
    · obtain rfl : level = levelChannel k := Fin.ext hlevel
      obtain rfl : temp = tempChannel k := Fin.ext htemp
      have ht : tankOfChannel i = some k := by
        rcases hi with rfl | rfl
        · exact tankOfChannel_level k
        · exact tankOfChannel_temp k
      have hconfig : (sampleTold s i code.toNat).config = s.config := within_sampleTold.2
      have husable (j : ChannelId) := usable_eq ((sampleTold s i code.toNat).channel j)
      rw [exec_sampleComplete h hp, sample_tanked hp ht]
      refine ⟨fun he => ?_, fun he hu => ?_, fun v he hu => ?_⟩
      · rw [gaugeTank_disabled (by rw [hconfig]; exact he)]
      · rw [gaugeTank_invalid (by rw [hconfig]; exact he) ((husable _).trans hu)]
        rfl
      · rw [gaugeTank_gauged (by rw [hconfig]; exact he) ((husable _).trans hu), husable, hconfig,
          isNone_eq_decide]
        rfl
  have told {y : State} (hy : sampleTold s i code.toNat = y) : takes y := hy ▸ htakes
  have quiet {x : Channel} (hx : sampled span limit code.toNat c = x) (hf : c.state = .failed ↔ x.state = .failed) :
      takes (after x) := told (sampleTold_quiet hx hf)
  have stays {x : Channel} (hx : sampled span limit code.toNat c = x) (hc : c.state ≠ .failed)
      (hf : x.state ≠ .failed) : takes (after x) := quiet hx (iff_of_false hc hf)
  have fails {hold : Nat} (hx : sampled span limit code.toNat c =
      { state := .failed, value := none, hold := hold, settle := 0 }) (hc : c.state ≠ .failed) :=
    told (sampleTold_fails hx hc rfl)
  refine ⟨fun hc hs => ?_, fun hc hs hv => ?_, fun hc hs hv hl => ?_, fun hc hv hl => ?_, fun hc hv => ?_,
    fun hc hv hl => ?_, fun hc hv hl => ?_, fun hc hv => ?_, fun hc hv hl => ?_, fun hc hv => ?_, fun hc hv hs => ?_,
    fun hc hv hs => ?_, fun points level hs => ⟨?_, ?_, ?_⟩⟩
  · exact quiet (sampled_unsettled_early hc hs) Iff.rfl
  · exact stays (sampled_unsettled_valid hc hs hv) (by rw [hc]; decide) nofun
  · exact quiet ((sampled_unsettled_invalid hc hs hv).trans (if_neg (Nat.not_le.2 hl))) Iff.rfl
  · rcases hc with ⟨hc, hs⟩ | hc
    · exact fails ((sampled_unsettled_invalid hc hs hv).trans (if_pos hl)) (by rw [hc]; decide)
    · exact fails ((sampled_holding_invalid hc hv).trans (heldSample_failed hl)) (by rw [hc]; decide)
  · exact quiet (sampled_good_valid hc hv) Iff.rfl
  · exact stays ((sampled_good_invalid hc hv).trans (heldSample_kept hl)) (by rw [hc]; decide) nofun
  · exact fails ((sampled_good_invalid hc hv).trans (heldSample_failed hl)) (by rw [hc]; decide)
  · exact stays (sampled_holding_valid hc hv) (by rw [hc]; decide) nofun
  · refine quiet (((sampled_holding_invalid hc hv).trans (heldSample_kept hl)).trans ?_) Iff.rfl
    rw [← hc]
  · exact quiet (sampled_failed_invalid hc hv) Iff.rfl
  · exact quiet (sampled_failed_first hc hv hs) Iff.rfl
  · exact told (sampleTold_recovers (sampled_failed_second hc hv hs) hc rfl)
  · rintro p q rest rfl hle
    exact strapVolume_first hs hle
  · rintro before p q rest rfl hle hlt
    rw [strapVolume_passes (levels_below hs hle) hle, strapFrom_between rest hlt]
  · rintro before p rfl hle
    rw [strapVolume_passes (levels_below hs hle) hle]
    rfl

end Sys2Proof.Proofs

namespace Sys2Proof.Proofs
open Sys2Proof Sys2Proof.Machine

/-! ### Figures and what they stand for (R183, R189) -/

theorem inRange_iff (low high v y : Nat) : inRange low high v = some y ↔ figureIn low high v y := by
  unfold inRange figureIn
  split
  · next h => simp [h, eq_comm]
  · next h => exact iff_of_false (by simp) fun hf => h ⟨hf.1, hf.2.1⟩

theorem inRangeInt_iff (low high v y : Int) : inRangeInt low high v = some y ↔ (low ≤ v ∧ v ≤ high) ∧ y = v := by
  unfold inRangeInt
  split
  · next h => simp [h, eq_comm]
  · next h => exact iff_of_false (by simp) fun hf => h hf.1

theorem flagOf_iff (v : Nat) (b : Bool) : flagOf v = some b ↔ flagFigure v b := by
  rw [flagOf_eq_some_iff, flagFigure]
  cases b <;> grind

theorem roleOf_iff (v : Nat) (r : Role) : roleOf v = some r ↔
    v = 0 ∧ r = .island ∨ v = 1 ∧ r = .fleet ∨ v = 2 ∧ r = .workshop ∨ v = 3 ∧ r = .monitor := by
  unfold roleOf
  grind

theorem policyOf_iff (v : Nat) (y : GrantPolicy) :
    policyOf v = some y ↔ v = 0 ∧ y = .partialIssue ∨ v = 1 ∧ y = .refuse := by
  unfold policyOf
  grind

theorem baudOf_iff (v b : Nat) : baudOf v = some b ↔ v ∈ [19200, 38400, 57600, 115200] ∧ b = v := by
  unfold baudOf
  split
  · next h => simp [h, eq_comm]
  · next h => exact iff_of_false (by simp) fun hf => h (by simpa using hf.1)

theorem fromZero_iff {k : Nat} (v : Nat) (y : Fin k) : fromZero k v = some y ↔ y.val = v := by
  unfold fromZero
  split
  · next h => rw [Option.some_inj, Fin.ext_iff, eq_comm]
  · next h => exact iff_of_false (by simp) (by omega)

theorem fromOne_iff {k : Nat} (v : Nat) (y : Fin k) : fromOne k v = some y ↔ y.val + 1 = v := by
  unfold fromOne
  split
  · next h =>
    rw [Option.some_inj, Fin.ext_iff]
    show v - 1 = y.val ↔ y.val + 1 = v
    omega
  · next h => exact iff_of_false (by simp) fun hf => h (by have := y.isLt; omega)

/-- R107: the characters of a class name. -/
theorem nameOk_iff (v y : Tab Byte 4) :
    nameOk v = some y ↔ (∀ j, 0x20 ≤ (v.read j).toNat ∧ (v.read j).toNat ≤ 0x7E) ∧ y = v := by
  have hall : (v.toList.all fun b => decide (0x20 ≤ b.toNat ∧ b.toNat ≤ 0x7E)) = true ↔
      ∀ j, 0x20 ≤ (v.read j).toNat ∧ (v.read j).toNat ≤ 0x7E := by
    simp only [List.all_eq_true, decide_eq_true_eq, Vector.mem_toList_iff, Vector.mem_iff_getElem]
    exact ⟨fun h j => h _ ⟨j.val, j.isLt, rfl⟩, fun h b ⟨i, hi, hb⟩ => hb ▸ h ⟨i, hi⟩⟩
  unfold nameOk
  split
  · next h => simp [hall.1 h, eq_comm]
  · next h => exact iff_of_false (by simp) fun hf => h (hall.2 hf.1)

/-- R55: a list that rises from each point to the next rises throughout. -/
theorem risingPoints_iff (l : List StrapPoint) :
    risingPoints l = true ↔ l.Pairwise fun a b => a.level < b.level ∧ a.litres < b.litres := by
  induction l with
  | nil => simp [risingPoints]
  | cons x xs ih =>
    cases xs with
    | nil => simp [risingPoints]
    | cons y ys =>
      rw [risingPoints, Bool.and_eq_true, decide_eq_true_eq, ih, List.pairwise_cons (a := x)]
      refine and_congr_left fun hs => ⟨fun hxy z hz => ?_, fun h => h y List.mem_cons_self⟩
      rcases List.mem_cons.1 hz with rfl | hz
      · exact hxy
      · have hyz := (List.pairwise_cons.1 hs).1 z hz
        exact ⟨hxy.1.trans hyz.1, hxy.2.trans hyz.2⟩

theorem strappingOk_iff (v l : List StrapPoint) : strappingOk v = some l ↔ 2 ≤ v.length ∧ v.length ≤ 24
    ∧ (∀ y ∈ v, y.level ≤ 20000 ∧ y.litres ≤ 10000000)
    ∧ v.Pairwise (fun a b => a.level < b.level ∧ a.litres < b.litres) ∧ l = v := by
  unfold strappingOk
  split
  · next h =>
    simp only [Bool.and_eq_true, decide_eq_true_eq, List.all_eq_true, risingPoints_iff] at h
    grind
  · next h =>
    simp only [Bool.and_eq_true, decide_eq_true_eq, List.all_eq_true, risingPoints_iff] at h
    grind

/-! ### A field of a CONFIG_SET (R183) -/

theorem patched_iff {α β : Type} {range : β → Option α} {means : β → α → Prop}
    (h : ∀ v y, range v = some y ↔ means v y) (old : α) (x : Option β) (y : α) :
    patched old x range = some y ↔ Replaced old x means y := by
  cases x with
  | none => exact ⟨fun e => (Option.some.inj e).symm, fun e => congrArg some e.symm⟩
  | some v => exact h v y

theorem tabOf_iff {β : Type} [Inhabited β] {n : Nat} (f : Fin n → Option β) (x : Tab β n) :
    tabOf f = some x ↔ ∀ i, f i = some (x.read i) := by
  unfold tabOf
  split
  · next h =>
    rw [Option.some_inj]
    refine ⟨fun hx i => ?_, fun hf => tab_ext fun i => ?_⟩
    · obtain ⟨y, hy⟩ := Option.isSome_iff_exists.1 (List.all_eq_true.1 h i (List.mem_finRange i))
      simp [← hx, Tab.read, hy]
    · simp [Tab.read, hf]
  · next h =>
    refine iff_of_false (by simp) fun hf => h (List.all_eq_true.2 fun i _ => by rw [hf i]; rfl)

theorem map_iff {α β : Type} {o : Option α} {P : α → Prop} (h : ∀ x, o = some x ↔ P x) (g : α → β) (y : β) :
    o.map g = some y ↔ ∃ x, y = g x ∧ P x := by
  rw [Option.map_eq_some_iff]
  exact exists_congr fun x => by rw [h x, and_comm, eq_comm]

theorem patched_inRange (old : Nat) (x : Option Nat) (low high y : Nat) :
    patched old x (inRange low high) = some y ↔ Replaced old x (figureIn low high) y := patched_iff (inRange_iff low high) ..

theorem patched_flagOf (old : Bool) (x : Option Nat) (y : Bool) :
    patched old x flagOf = some y ↔ Replaced old x flagFigure y := patched_iff flagOf_iff ..

theorem patched_fromZero {k : Nat} (old : Fin k) (x : Option Nat) (y : Fin k) :
    patched old x (fromZero k) = some y ↔ Replaced old x (fun v p => p.val = v) y := patched_iff fromZero_iff ..

theorem patched_fromOne {k : Nat} (old : Fin k) (x : Option Nat) (y : Fin k) :
    patched old x (fromOne k) = some y ↔ Replaced old x (fun v p => p.val + 1 = v) y := patched_iff fromOne_iff ..

/-! ### What each group takes (R183) -/

theorem applyPort_iff (c : PortConfig) (p : PortPatch) (x : PortConfig) : applyPort c p = some x ↔
    Replaced c.role p.role (fun v r => v = 0 ∧ r = .island ∨ v = 1 ∧ r = .fleet
        ∨ v = 2 ∧ r = .workshop ∨ v = 3 ∧ r = .monitor) x.role
      ∧ Replaced c.baud p.baud (fun v b => v ∈ [19200, 38400, 57600, 115200] ∧ b = v) x.baud := by
  rw [← patched_iff roleOf_iff, ← patched_iff baudOf_iff]
  simp only [applyPort, Option.bind_eq_bind, Option.bind_eq_some_iff, Option.pure_def, Option.some.injEq]
  grind

theorem applyNozzle_iff (c : NozzleConfig) (p : NozzlePatch) (x : NozzleConfig) : applyNozzle c p = some x ↔
    Replaced c.owner p.owner (fun v q => q.val = v) x.owner
    ∧ Replaced c.tank p.tank (fun v k => k.val + 1 = v) x.tank
    ∧ Replaced c.channel p.channel (fun v k => k.val = v) x.channel
    ∧ Replaced c.km p.km (figureIn 1000 999999) x.km
    ∧ Replaced c.enabled p.enabled flagFigure x.enabled := by
  simp only [← patched_fromZero, ← patched_fromOne, ← patched_inRange, ← patched_flagOf]
  simp only [applyNozzle, Option.bind_eq_bind, Option.bind_eq_some_iff, Option.pure_def, Option.some.injEq]
  grind

theorem applyDelivery_iff (c : DeliverySettings) (p : DeliveryPatch) (x : DeliverySettings) :
    applyDelivery c p = some x ↔ Replaced c.prestop p.prestop (figureIn 0 20000) x.prestop
      ∧ Replaced c.stall p.stall (figureIn 10 1200) x.stall
      ∧ Replaced c.drainSettle p.drainSettle (figureIn 1 40) x.drainSettle
      ∧ Replaced c.hold p.hold (figureIn 60 7200) x.hold
      ∧ Replaced c.park p.park (figureIn 120 28800) x.park
      ∧ Replaced c.strayLimit p.strayLimit (figureIn 1 255) x.strayLimit
      ∧ Replaced c.creepWindow p.creepWindow (figureIn 2 20) x.creepWindow
      ∧ Replaced c.creepLimit p.creepLimit (figureIn 0 50) x.creepLimit := by
  simp only [← patched_inRange]
  simp only [applyDelivery, Option.bind_eq_bind, Option.bind_eq_some_iff, Option.pure_def, Option.some.injEq]
  grind

theorem applyProduct_iff (c : ProductConfig) (p : ProductPatch) (x : ProductConfig) : applyProduct c p = some x ↔
    Replaced c.alpha p.alpha (figureIn 0 2000) x.alpha
    ∧ Replaced c.defaultTemp p.defaultTemp (fun v y => -400 ≤ v ∧ v ≤ 850 ∧ y = v) x.defaultTemp := by
  have hrange (v y : Int) : inRangeInt (-400) 850 v = some y ↔ -400 ≤ v ∧ v ≤ 850 ∧ y = v := by
    rw [inRangeInt_iff, and_assoc]
  rw [← patched_inRange, ← patched_iff hrange]
  simp only [applyProduct, Option.bind_eq_bind, Option.bind_eq_some_iff, Option.pure_def, Option.some.injEq]
  grind

theorem applyClass_iff (c : ClassConfig) (p : ClassPatch) (x : ClassConfig) : applyClass c p = some x ↔
    Replaced c.name p.name (fun v y => (∀ j, 0x20 ≤ (v.read j).toNat ∧ (v.read j).toNat ≤ 0x7E) ∧ y = v) x.name
    ∧ Replaced c.essential p.essential flagFigure x.essential
    ∧ Replaced c.grantEligible p.grantEligible flagFigure x.grantEligible
    ∧ Replaced c.ration p.ration (figureIn 0 2500000) x.ration
    ∧ Replaced c.defaultAllowance p.defaultAllowance (figureIn 0 2500000) x.defaultAllowance := by
  rw [← patched_iff nameOk_iff]
  simp only [← patched_inRange, ← patched_flagOf]
  simp only [applyClass, Option.bind_eq_bind, Option.bind_eq_some_iff, Option.pure_def, Option.some.injEq]
  grind

theorem applyAuth_iff (c : AuthSettings) (p : AuthPatch) (x : AuthSettings) : applyAuth c p = some x ↔
    Replaced c.tier1 p.tier1 (figureIn 10 100) x.tier1
    ∧ Replaced c.tier2 p.tier2 (figureIn 10 100) x.tier2
    ∧ Replaced c.minIssue p.minIssue (figureIn 0 100000) x.minIssue
    ∧ Replaced c.grantsEnabled p.grantsEnabled flagFigure x.grantsEnabled
    ∧ Replaced c.grantTimer p.grantTimer (figureIn 4 1200) x.grantTimer
    ∧ Replaced c.policy p.policy (fun v y => v = 0 ∧ y = .partialIssue ∨ v = 1 ∧ y = .refuse) x.policy := by
  rw [← patched_iff policyOf_iff]
  simp only [← patched_inRange, ← patched_flagOf]
  simp only [applyAuth, Option.bind_eq_bind, Option.bind_eq_some_iff, Option.pure_def, Option.some.injEq]
  grind

/-- R55, R60: a tank's fields after a change, each figure named in its range. -/
def TankTakes (c : TankConfig) (p : TankPatch) (x : TankConfig) : Prop :=
  Replaced c.product p.product (fun v k => k.val + 1 = v) x.product
  ∧ Replaced c.enabled p.enabled flagFigure x.enabled
  ∧ Replaced c.capacity p.capacity (figureIn 1 1000000000) x.capacity
  ∧ Replaced c.strapping p.strapping (fun v l => 2 ≤ v.length ∧ v.length ≤ 24
      ∧ (∀ y ∈ v, y.level ≤ 20000 ∧ y.litres ≤ 10000000)
      ∧ v.Pairwise (fun a b => a.level < b.level ∧ a.litres < b.litres) ∧ l = v) x.strapping
  ∧ Replaced c.floor p.floor (figureIn 0 1000000000) x.floor
  ∧ Replaced c.tier1 p.tier1 (figureIn 0 4294967295) x.tier1
  ∧ Replaced c.tier2 p.tier2 (figureIn 0 4294967295) x.tier2
  ∧ Replaced c.reserve p.reserve (figureIn 0 4294967295) x.reserve
  ∧ Replaced c.hysteresis p.hysteresis (figureIn 0 100000000) x.hysteresis
  ∧ Replaced c.tolerance p.tolerance (figureIn 0 100000000) x.tolerance
  ∧ Replaced c.startDelay p.startDelay (figureIn 1 60) x.startDelay
  ∧ Replaced c.runOn p.runOn (figureIn 0 2400) x.runOn

/-- R61: a tank of which nothing is named is kept untested. -/
theorem applyTank_empty (c x : TankConfig) : applyTank c emptyTankPatch = some x ↔ x = c := by
  rw [show applyTank c emptyTankPatch = some c from if_pos rfl, Option.some_inj, eq_comm]

/-- R60, R61: a tank of which something is named takes each figure in its range, and its thresholds are tested. -/
theorem applyTank_named {p : TankPatch} (hp : p ≠ emptyTankPatch) (c x : TankConfig) : applyTank c p = some x ↔
    TankTakes c p x ∧ x.tier1 ≤ x.capacity ∧ x.tier2 < x.tier1 ∧ x.reserve < x.tier2 ∧ x.floor < x.reserve := by
  rw [TankTakes, ← patched_iff strappingOk_iff]
  simp only [← patched_fromOne, ← patched_inRange, ← patched_flagOf]
  simp only [applyTank, if_neg hp, thresholdsOk, Option.bind_eq_bind, Option.bind_eq_some_iff,
    Option.ite_none_right_eq_some, decide_eq_true_eq, Option.some.injEq]
  constructor
  · rintro ⟨_, hproduct, _, henabled, _, hcapacity, _, hstrapping, _, hfloor, _, htier1, _, htier2, _, hreserve, _,
      hhysteresis, _, htolerance, _, hstart, _, hrunOn, hok, rfl⟩
    exact ⟨⟨hproduct, henabled, hcapacity, hstrapping, hfloor, htier1, htier2, hreserve, hhysteresis, htolerance, hstart,
      hrunOn⟩, hok⟩
  · rintro ⟨⟨hproduct, henabled, hcapacity, hstrapping, hfloor, htier1, htier2, hreserve, hhysteresis, htolerance,
      hstart, hrunOn⟩, hok⟩
    exact ⟨_, hproduct, _, henabled, _, hcapacity, _, hstrapping, _, hfloor, _, htier1, _, htier2, _, hreserve, _,
      hhysteresis, _, htolerance, _, hstart, _, hrunOn, hok, rfl⟩

/-- R34, R44: a figure within the range of a channel's unit stands for itself. -/
def inUnitOf (i : ChannelId) (v y : Int) : Prop :=
  (if 8 ≤ i.val ∧ i.val ≤ 11 then 0 ≤ v ∧ v ≤ 20000 else -400 ≤ v ∧ v ≤ 850) ∧ y = v

theorem inRangeInt_widestSpan_iff (i : ChannelId) (v y : Int) :
    inRangeInt (widestSpan i).low (widestSpan i).high v = some y ↔ inUnitOf i v y := by
  rw [inRangeInt_iff, inUnitOf]
  refine and_congr_left fun _ => ?_
  by_cases hi : 8 ≤ i.val ∧ i.val ≤ 11
  · simp [widestSpan, isLevelChannel, hi]
  · simp [widestSpan, isLevelChannel, hi]

theorem applySpan_iff (i : ChannelId) (c : Span) (p : SpanPatch) (x : Span) : applySpan i c p = some x ↔
    Replaced c.low p.low (inUnitOf i) x.low ∧ Replaced c.high p.high (inUnitOf i) x.high ∧ x.low ≤ x.high := by
  rw [← patched_iff (inRangeInt_widestSpan_iff i), ← patched_iff (inRangeInt_widestSpan_iff i)]
  simp only [applySpan, Option.bind_eq_bind, Option.bind_eq_some_iff, Option.ite_none_right_eq_some, Option.some.injEq]
  grind

theorem applyProbes_iff (c : ProbeConfig) (p : ProbePatch) (x : ProbeConfig) : applyProbes c p = some x ↔
    Replaced c.divisor p.divisor (figureIn 1 60) x.divisor
    ∧ Replaced c.holdLimit p.holdLimit (figureIn 1 100) x.holdLimit
    ∧ ∀ i, applySpan i (c.spans.read i) (p.spans.read i) = some (x.spans.read i) := by
  simp only [← patched_inRange, ← tabOf_iff]
  simp only [applyProbes, Option.bind_eq_bind, Option.bind_eq_some_iff, Option.pure_def, Option.some.injEq]
  grind

theorem applyService_iff (c : ServiceConfig) (p : ServicePatch) (x : ServiceConfig) : applyService c p = some x ↔
    Replaced c.hourTolerance p.hourTolerance (figureIn 0 100) x.hourTolerance
    ∧ Replaced c.journalThreshold p.journalThreshold (figureIn 1 255) x.journalThreshold := by
  simp only [← patched_inRange]
  simp only [applyService, Option.bind_eq_bind, Option.bind_eq_some_iff, Option.pure_def, Option.some.injEq]
  grind

/-- R181: a change that names the epoch is out of range. -/
theorem applyTime_iff (c : TimeConfig) (p : TimePatch) (x : TimeConfig) : applyTime c p = some x ↔
    Replaced c.shiftLength p.shiftLength (figureIn 14400 172800) x.shiftLength
    ∧ p.epoch = none ∧ x.epoch = c.epoch := by
  simp only [← patched_inRange]
  simp only [applyTime, Option.bind_eq_bind, Option.bind_eq_some_iff, Option.ite_none_left_eq_some, Option.some.injEq,
    Bool.not_eq_true, Option.isSome_eq_false_iff, Option.isNone_iff_eq_none]
  constructor
  · rintro ⟨_, hshift, hepoch, rfl⟩
    exact ⟨hshift, hepoch, rfl⟩
  · rintro ⟨hshift, hepoch, hx⟩
    exact ⟨_, hshift, hepoch, by rw [← hx]⟩

/-- R55, R60, R61: a tank takes each figure named in its range, and a tank of which something is named is tested. -/
theorem applyTank_iff (c : TankConfig) (p : TankPatch) (x : TankConfig) : applyTank c p = some x ↔
    TankTakes c p x ∧ (p ≠ emptyTankPatch →
      x.tier1 ≤ x.capacity ∧ x.tier2 < x.tier1 ∧ x.reserve < x.tier2 ∧ x.floor < x.reserve) := by
  by_cases hp : p = emptyTankPatch
  · rw [hp, applyTank_empty]
    obtain ⟨⟩ := x
    obtain ⟨⟩ := c
    simp [TankTakes, Replaced, emptyTankPatch]
  · simp only [applyTank_named hp, hp, ne_eq, not_false_eq_true, forall_const]

/-- Settles O57: each group's change is the copy of `applyChange`, read off the law of its group field by field. -/
theorem configurationChangesItsGroup : Obligations.ConfigurationChangesItsGroup := by
  intro c c'
  have tab {α : Type} [Inhabited α] {n : Nat} {f : Fin n → Option α} {P : Fin n → α → Prop}
      (h : ∀ i y, f i = some y ↔ P i y) (x : Tab α n) : tabOf f = some x ↔ ∀ i, P i (x.read i) :=
    (tabOf_iff f x).trans (forall_congr' fun i => h i _)
  refine ⟨fun q => ?_, fun q => ?_, fun q => ?_, fun q => ?_, fun q => ?_, fun q => ?_, fun q => ?_, fun q => ?_,
    fun q => ?_, fun q => ?_⟩
  · exact map_iff (tab fun i => applyPort_iff _ _) _ _
  · exact map_iff (tab fun i => applyNozzle_iff _ _) _ _
  · exact map_iff (applyDelivery_iff _ _) _ _
  · exact map_iff (tab fun i => applyProduct_iff _ _) _ _
  · exact map_iff (tab fun i => applyClass_iff _ _) _ _
  · exact map_iff (applyAuth_iff _ _) _ _
  · refine map_iff (fun x => (tab (fun i => applyTank_iff _ _) x).trans (forall_congr' fun i => ?_)) _ _
    simp only [TankTakes, and_assoc]
    rfl
  · refine map_iff (fun x => (applyProbes_iff _ _ x).trans ?_) _ _
    exact and_congr_right' (and_congr_right' (forall_congr' fun i => applySpan_iff ..))
  · exact map_iff (applyService_iff _ _) _ _
  · exact map_iff (applyTime_iff _ _) _ _

end Sys2Proof.Proofs

namespace Sys2Proof.Proofs
open Sys2Proof Sys2Proof.Machine

/-! ### The figures of a finishing delivery (R53, R54, R160) -/

theorem sat32_eq (v : Nat) : sat32 v = min 4294967295 v := Nat.min_comm ..

section
variable (s : State) (d : Delivery)

theorem finalNet_eq : s.finalNet d = min 4294967295 ((d.legs.map fun l =>
    netOf l.gross (ctlOf (s.productConfig (s.deliveryProduct d)).alpha
      (l.temp (s.productConfig (s.deliveryProduct d))))).sum) := by
  simp only [State.finalNet, sat32_eq, totalNet, State.settledLegs, List.map_map, Function.comp_def, Leg.settle]

theorem totalGross_settledLegs : totalGross (s.settledLegs d) = totalGross d.legs := by
  simp only [totalGross, State.settledLegs, List.map_map, Function.comp_def, Leg.settle]

theorem deliveryTemp_settledLegs (p : ProductConfig) : deliveryTemp p (s.settledLegs d) = deliveryTemp p d.legs := by
  rw [deliveryTemp, totalGross_settledLegs]
  simp only [deliveryTemp, State.settledLegs, List.map_map, Function.comp_def, Leg.settle, Leg.temp]

end

/-- R53: settling a leg touches neither its gross nor its temperature, so an entry's legs come from the delivery's. -/
theorem entryFor_eq (s : State) (d : Delivery) (o : DeliveryOutcome) :
    let p := s.productConfig (s.deliveryProduct d)
    let legs : List EntryLeg := d.legs.map fun l =>
      { meter := l.meter, gross := min 4294967295 l.gross,
        net := min 4294967295 (netOf l.gross (ctlOf p.alpha (l.temp p))), avgTemp := l.temp p,
        substituted := l.substituted, clamped := ctlClamped p.alpha (l.temp p) }
    s.entryFor d o =
      { seq := s.journal.nextSeq, ticket := d.ticket, fleet := d.fleet, product := s.deliveryProduct d, tank := d.tank,
        originPort := d.originPort, outcome := o, refusal := if o = .refused then d.refusal else none, legs := legs,
        totalGross := min 4294967295 (totalGross d.legs), totalNet := s.finalNet d, avgTemp := deliveryTemp p d.legs,
        requested := d.requested, limit := d.limit, factor := d.factor, grantExtra := d.grantExtra,
        overrun := s.finalNet d - d.limit, unverified := !d.verifyAsked, substituted := legs.any (fun l => l.substituted),
        clamped := legs.any (fun l => l.clamped), restricted := d.restrictedAtAuth,
        crossedShift := decide (s.clock.shift ≠ d.startShift), finishShift := s.clock.shift, startTime := d.startTime,
        finishTime := s.clock.siteTime } := by
  intro p legs
  have hlegs : (s.settledLegs d).map (entryLeg p) = legs := by
    simp only [legs, p, State.settledLegs, List.map_map, Function.comp_def, entryLeg, Leg.settle, Leg.temp, sat32_eq]
  have hsub : anySubstituted (s.settledLegs d) = legs.any (fun l => l.substituted) := by
    simp only [anySubstituted, State.settledLegs, legs, List.any_map, Function.comp_def, Leg.settle]
  have hclamped : anyClamped (s.settledLegs d) = legs.any (fun l => l.clamped) := by
    simp only [anyClamped, State.settledLegs, legs, List.any_map, Function.comp_def, Leg.settle]
    rfl
  rw [State.entryFor, hlegs, totalGross_settledLegs, deliveryTemp_settledLegs, hsub, hclamped, sat32_eq, decide_not]

/-! ### What an entry and a record put into its line leave alone -/

section
variable {s : State}

/-- R159, R164: an entry takes its place in the journal, and JOURNAL_LEVEL may be told. -/
theorem append_frame (s : State) (e : JournalEntry) : s.append e = { s with
    journal := { entries := s.journal.entries ++ [e], reservations := s.journal.reservations - 1,
                 nextSeq := s.journal.nextSeq + 1 },
    ports := (s.append e).ports } := by
  simp only [State.append]
  split <;> rfl

theorem line_putRecord (l : LineId) (k : SlotId) (r : MachineRecord) : (s.putRecord l k r).line l =
    { s.line l with content := .held (stateAfterPut (s.line l).content) k r, writeQueued := true } := by
  rw [putRecord_eq]
  exact (read_write ..).trans (if_pos rfl)

theorem recordAt_putRecord (l : LineId) (k : SlotId) (r : MachineRecord) : (s.putRecord l k r).recordAt l = some r := by
  rw [State.recordAt, line_putRecord]
  rfl

/-- R6: a record of the current shift is not reset. -/
theorem lazyReset_current {r : MachineRecord} {shift : Word32} (h : r.usageShift = shift) : lazyReset shift r = r := by
  rw [lazyReset, if_pos h]

end

/-! ### What the low-stock rule can reach (R62, R68) -/

/-- What the evaluation of a tank leaves of part `o`: everything but contexts, meters, tanks and ports; of the contexts
and meters those of the nozzles outside every pump's demand; of each tank its book and its receipt. -/
structure Spared (o s : State) : Prop where
  rest : { s with nozzles := o.nozzles, meters := o.meters, tanks := o.tanks, ports := o.ports } = o
  nozzle : ∀ m, (o.ctx m).state.inDemand = false → s.ctx m = o.ctx m ∧ s.meter m = o.meter m
  stock : ∀ k, (s.tank k).book = (o.tank k).book ∧ (s.tank k).receipt = (o.tank k).receipt

section
variable {o s : State} {n : NozzleId}

theorem Spared.refl (s : State) : Spared s s := ⟨rfl, fun _ _ => ⟨rfl, rfl⟩, fun _ => ⟨rfl, rfl⟩⟩

theorem Spared.foldl {α : Type} {f : State → α → State} {xs : List α}
    (hf : ∀ y, ∀ a ∈ xs, Spared o y → Spared o (f y a)) (h : Spared o s) : Spared o (xs.foldl f s) := by
  induction xs generalizing s with
  | nil => exact h
  | cons x xs ih =>
    exact ih (fun y a ha => hf y a (List.mem_cons_of_mem _ ha)) (hf _ x List.mem_cons_self h)

theorem Spared.postWhere (h : Spared o s) (d : Port → Bool) (b : NoticeBody) : Spared o (s.postWhere d b) :=
  ⟨h.rest, h.nozzle, h.stock⟩

theorem Spared.modTank (h : Spared o s) (t : TankId) {f : Tank → Tank}
    (hf : (f (s.tank t)).book = (s.tank t).book ∧ (f (s.tank t)).receipt = (s.tank t).receipt) :
    Spared o (s.modTank t f) := by
  refine ⟨h.rest, h.nozzle, fun k => ?_⟩
  rw [State.tank_modTank]
  split
  · next he =>
    rw [he, hf.1, hf.2]
    exact h.stock t
  · exact h.stock k

theorem ne_of_inDemand {m : NozzleId} (hn : (o.ctx n).state.inDemand = true) (hm : (o.ctx m).state.inDemand = false) :
    m ≠ n := by
  rintro rfl
  rw [hn] at hm
  exact Bool.noConfusion hm

theorem Spared.modCtx (h : Spared o s) (hn : (o.ctx n).state.inDemand = true) (f : Context → Context) :
    Spared o (s.modCtx n f) := by
  refine ⟨h.rest, fun m hm => ?_, h.stock⟩
  rw [State.ctx_modCtx, if_neg (ne_of_inDemand hn hm)]
  exact h.nozzle m hm

theorem Spared.modMeter (h : Spared o s) (hn : (o.ctx n).state.inDemand = true) (f : Meter → Meter) :
    Spared o (s.modMeter n f) := by
  refine ⟨h.rest, fun m hm => ?_, h.stock⟩
  rw [State.meter_modMeter, if_neg (ne_of_inDemand hn hm)]
  exact h.nozzle m hm

theorem Spared.leftDemand (h : Spared o s) : Spared o (s.leftDemand n) := by
  simp only [State.leftDemand, runOnPump_eq]
  split
  · exact h.modTank _ ⟨rfl, rfl⟩
  · exact h

section
variable (hn : (o.ctx n).state.inDemand = true)
include hn

theorem Spared.stopFlow (h : Spared o s) (r : RunEnd) : Spared o (s.stopFlow n r) :=
  ((h.modCtx hn _).modMeter hn _).leftDemand.postWhere ..

theorem Spared.quitPriming (h : Spared o s) (r : RunEnd) : Spared o (s.quitPriming n r) :=
  (h.modCtx hn _).leftDemand.postWhere ..

theorem Spared.heldByFault (h : Spared o s) (f : PendingFault) (c : HoldCause) : Spared o (s.heldByFault n f c) :=
  ((h.modCtx hn _).modCtx hn _).postWhere ..

theorem Spared.endLow (h : Spared o s) : Spared o (s.endLow n) := by
  unfold State.endLow
  split
  case h_1 => exact (h.quitPriming hn _).heldByFault hn ..
  case h_2 | h_3 | h_4 => exact h.stopFlow hn _
  all_goals exact h

end

/-- R65: a nozzle in the demand now was in it at the outset. -/
theorem Spared.inDemand (h : Spared o s) {t : TankId} (hn : n ∈ s.demand t) : (o.ctx n).state.inDemand = true := by
  refine (Bool.eq_false_or_eq_true _).resolve_right fun hout => ?_
  have hin := (mem_demand.1 hn).2
  rw [(h.nozzle n hout).1, hout] at hin
  exact Bool.noConfusion hin

theorem Spared.evaluateTier (h : Spared o s) (t : TankId) : Spared o (s.evaluateTier t) := by
  simp only [State.evaluateTier]
  split
  · exact h
  · exact (h.modTank t ⟨rfl, rfl⟩).postWhere ..

theorem Spared.evaluateLow (h : Spared o s) (t : TankId) : Spared o (s.evaluateLow t) := by
  simp only [State.evaluateLow]
  split
  · split
    · exact h
    · split
      · exact (h.modTank t ⟨rfl, rfl⟩).foldl fun y n hn hy => hy.endLow (h.inDemand hn)
      · exact h.modTank t ⟨rfl, rfl⟩
  · split
    · exact h.modTank t ⟨rfl, rfl⟩
    · exact h

/-- R62, R68: what a tank's evaluation spares. -/
theorem Spared.evaluateTank (h : Spared o s) (t : TankId) : Spared o (s.evaluateTank t) := by
  unfold State.evaluateTank
  split
  · exact (h.evaluateTier t).evaluateLow t
  · exact h

end

/-! ### The hand-ons of a delivery with a line (R69, R103) -/

/-- R103: the record of a line once it is charged. -/
def chargedRecord (shift : Word32) (net : Nat) (r : MachineRecord) : MachineRecord :=
  { r with used := min 4294967295 ((if r.usageShift = shift then r.used else 0) + net), usageShift := shift,
           lifetimeFuel := min 4294967295 (r.lifetimeFuel + net), openTicket := none }

/-- R69: a tank once a delivery's net is taken from it. -/
def chargedStock (net : Nat) (x : Tank) : Tank :=
  { x with book := x.book.map fun b => max (-2147483648) (min 2147483647 (b - (net : Int))),
           receipt := x.receipt.map fun y => { y with issued := min 4294967295 (y.issued + net) } }

/-- R69, R103: the part with the entry made, the record of line `l` charged and the tank charged, not yet evaluated. -/
def charging (s : State) (d : Delivery) (o : DeliveryOutcome) (l : LineId) (k : SlotId) (r : MachineRecord) : State :=
  ((s.append (s.entryFor d o)).putRecord l k (chargedRecord s.clock.shift (s.finalNet d) r)).modTank d.tank
    (chargedStock (s.finalNet d))

theorem charged_lazyReset (net : Nat) (shift : Word32) (r : MachineRecord) :
    charged net (lazyReset shift r) = chargedRecord shift net r := by
  simp only [charged, lazyReset_eq, sat32_eq, chargedRecord]

theorem chargeTank_eq (s : State) (t : TankId) (net : Nat) :
    s.chargeTank t net = (s.modTank t (chargedStock net)).evaluateTank t := by
  have hstock : chargedStock net = fun k : Tank => { k with
      book := k.book.map (fun b => satBook (b - net)),
      receipt := k.receipt.map (fun r => { r with issued := sat32 (r.issued + net) }) } := by
    simp only [sat32_eq]
    rfl
  rw [hstock]
  rfl

section
variable (s : State) (l : LineId) (k : SlotId) (r : MachineRecord) (bs : List NoticeBody) (f : CacheLine → CacheLine)

/-- R11, R141: a record written back, its notices and the pin change the machine table and the ports alone. -/
theorem writtenBack_frame : ((s.putRecord l k r).postOffices bs).modLine l f = { s with
    table := (((s.putRecord l k r).postOffices bs).modLine l f).table,
    ports := (((s.putRecord l k r).postOffices bs).modLine l f).ports } := by
  rw [(postOffices_frame bs _).1, putRecord_eq]
  rfl

theorem line_writtenBack : (((s.putRecord l k r).postOffices bs).modLine l f).line l = f ((s.putRecord l k r).line l) := by
  rw [State.line_modLine_self, (postOffices_frame bs _).1]
  rfl

end

section
variable {s : State} {d : Delivery} {o : DeliveryOutcome} {l : LineId} {st : HeldState} {k : SlotId} {r : MachineRecord}

theorem handOn_unlined (h : d.line = none) : s.handOn d o = s.append (s.entryFor d o) := by
  simp only [State.handOn, h]

/-- R141: the FUEL lines of a record of the current shift, measured against an older one. -/
theorem evaluateFuel_held (h : (s.line l).content = .held st k r) (hshift : r.usageShift = s.clock.shift)
    (old : MachineRecord) : s.evaluateFuel l (some old) =
      (s.putRecord l k (monitored (ofBasis .fuel) r)).postOffices
        (serviceNotes old.lines old.restricted (monitored (ofBasis .fuel) r) .fuel) := by
  simp only [State.evaluateFuel, changeRecord_held h, lazyReset_current hshift, recordAt_putRecord]

/-- R69, R103: beside the entry, the charging changes the machine table, the tanks and the notices alone. -/
theorem charging_frame : charging s d o l k r = { s with
    journal := { entries := s.journal.entries ++ [s.entryFor d o], reservations := s.journal.reservations - 1,
                 nextSeq := s.journal.nextSeq + 1 },
    table := (charging s d o l k r).table, tanks := (charging s d o l k r).tanks, ports := (charging s d o l k r).ports } := by
  unfold charging
  rw [putRecord_eq, append_frame]
  rfl

theorem line_charging : ((charging s d o l k r).line l).content =
    .held (stateAfterPut ((s.append (s.entryFor d o)).line l).content) k (chargedRecord s.clock.shift (s.finalNet d) r) := by
  rw [charging, State.line_modTank, line_putRecord]

/-- R103: what a delivery hands on whose line holds a record. -/
theorem handOn_held (hl : d.line = some l) (hc : (s.line l).content = .held st k r) :
    s.handOn d o =
      ((((charging s d o l k r).evaluateTank d.tank).putRecord l k
        (monitored (ofBasis .fuel) (chargedRecord s.clock.shift (s.finalNet d) r))).postOffices
          (serviceNotes r.lines r.restricted
            (monitored (ofBasis .fuel) (chargedRecord s.clock.shift (s.finalNet d) r)) .fuel)).modLine l
              fun x => { x with pinned := false } := by
  have happ : ((s.append (s.entryFor d o)).line l).content = .held st k r := by
    rw [append_frame]
    exact hc
  have hclock : (s.append (s.entryFor d o)).clock = s.clock := by rw [append_frame]
  have hold : (s.append (s.entryFor d o)).recordAt l = some r := by
    rw [State.recordAt, happ]
    rfl
  have hcharge : ((s.append (s.entryFor d o)).changeRecord l (charged (s.finalNet d))).chargeTank d.tank (s.finalNet d) =
      (charging s d o l k r).evaluateTank d.tank := by
    rw [chargeTank_eq, changeRecord_held happ, charged_lazyReset, hclock]
    rfl
  have hrest := ((Spared.refl (charging s d o l k r)).evaluateTank d.tank).rest
  have hline : (((charging s d o l k r).evaluateTank d.tank).line l).content = _ :=
    (congrArg (fun y : State => (y.line l).content) hrest).trans line_charging
  have hshift : ((charging s d o l k r).evaluateTank d.tank).clock.shift = s.clock.shift := by
    refine (congrArg (fun y : State => y.clock.shift) hrest).trans ?_
    rw [charging_frame]
  simp only [State.handOn, hl, hold, hcharge]
  rw [evaluateFuel_held hline hshift.symm]
  rfl

/-- R103: after the tank's evaluation only the machine table and the notices change. -/
theorem handOn_frame (hl : d.line = some l) (hc : (s.line l).content = .held st k r) :
    s.handOn d o = { (charging s d o l k r).evaluateTank d.tank with
      table := (s.handOn d o).table, ports := (s.handOn d o).ports } := by
  rw [handOn_held hl hc]
  exact writtenBack_frame ..

/-- R103: what the finishing of a delivery with a line makes of the line: the record evaluated, the pin gone. -/
theorem line_handOn (hl : d.line = some l) (hc : (s.line l).content = .held st k r) :
    ((s.handOn d o).line l).pinned = false ∧ (s.handOn d o).recordAt l =
      some (monitored (ofBasis .fuel) (chargedRecord s.clock.shift (s.finalNet d) r)) := by
  rw [State.recordAt, handOn_held hl hc, line_writtenBack, line_putRecord]
  exact ⟨rfl, rfl⟩

/-- R65, R103: the contexts and meters outside every demand are as they were. -/
theorem nozzle_handOn (hl : d.line = some l) (hc : (s.line l).content = .held st k r) {m : NozzleId}
    (hm : (s.ctx m).state.inDemand = false) :
    (s.handOn d o).ctx m = s.ctx m ∧ (s.handOn d o).meter m = s.meter m := by
  have hctx (x : NozzleId) : (charging s d o l k r).ctx x = s.ctx x := by
    rw [charging_frame]
    rfl
  have hmeter : (charging s d o l k r).meter m = s.meter m := by
    rw [charging_frame]
    rfl
  obtain ⟨hc', hm'⟩ := ((Spared.refl (charging s d o l k r)).evaluateTank d.tank).nozzle m (by rw [hctx, hm])
  rw [handOn_frame hl hc]
  exact ⟨hc'.trans (hctx m), hm'.trans hmeter⟩

/-- R69: the book and the receipt of the delivery's tank. -/
theorem tank_handOn (hl : d.line = some l) (hc : (s.line l).content = .held st k r) :
    ((s.handOn d o).tank d.tank).book = (chargedStock (s.finalNet d) (s.tank d.tank)).book
    ∧ ((s.handOn d o).tank d.tank).receipt = (chargedStock (s.finalNet d) (s.tank d.tank)).receipt := by
  have hstock : (charging s d o l k r).tank d.tank = chargedStock (s.finalNet d) (s.tank d.tank) := by
    rw [charging, State.tank_modTank_self, putRecord_eq, append_frame]
    rfl
  obtain ⟨hbook, hreceipt⟩ := ((Spared.refl (charging s d o l k r)).evaluateTank d.tank).stock d.tank
  rw [handOn_frame hl hc, ← hstock]
  exact ⟨hbook, hreceipt⟩

/-- R103: the rest of the part, the journal but for the entry included. -/
theorem rest_handOn (hl : d.line = some l) (hc : (s.line l).content = .held st k r) :
    (s.handOn d o).journal =
      { entries := s.journal.entries ++ [s.entryFor d o], reservations := s.journal.reservations - 1,
        nextSeq := s.journal.nextSeq + 1 }
    ∧ (s.handOn d o).clock = s.clock ∧ (s.handOn d o).config = s.config ∧ (s.handOn d o).park = s.park := by
  have hrest := ((Spared.refl (charging s d o l k r)).evaluateTank d.tank).rest
  rw [handOn_frame hl hc]
  refine ⟨(congrArg State.journal hrest).trans ?_, (congrArg State.clock hrest).trans ?_,
    (congrArg State.config hrest).trans ?_, (congrArg State.park hrest).trans ?_⟩
  all_goals rw [charging_frame]

end

/-! ### A delivery that finishes at a nozzle (R26, R105) -/

/-- R26, R103: the part with the context of a nozzle FREE and its meter released. -/
def freedAt (s : State) (n : NozzleId) : State :=
  (s.modCtx n fun _ => freeContext).modMeter n fun m =>
    { m with bound := false, count := 0, state := if m.state = .faulted then .faulted else .idle }

/-- R105: the hand-ons from the freed part, and DELIVERY_DONE last. -/
theorem finishNozzle_eq {s : State} {n : NozzleId} {d : Delivery} (hd : (s.ctx n).delivery = some d)
    (o : DeliveryOutcome) : s.finishNozzle n o =
      ((freedAt s n).handOn d o).postTo (s.config.nozzles.read n).owner (s.doneNote d o) := by
  have howner : ((freedAt s n).handOn d o).owner n = (s.config.nozzles.read n).owner := by
    rw [State.owner, State.nozzleConfig, ((Within.refl (fed := False) (freedAt s n)).handOn d o).config]
    rfl
  rw [← howner, State.finishNozzle, delivery_of_ctx hd]
  rfl

/-- Settles O38: what is handed on is `handOn_held`, read from the part with its nozzle freed; the low-stock rule that
the charge to the tank brings spares the contexts outside every demand (`Spared`), the freed one among them. -/
theorem finishingHandsOn : Obligations.FinishingHandsOn := by
  intro d o s net product temp told
  refine ⟨finalNet_eq s d, entryFor_eq s d o, handOn_unlined, fun l st k r hl hc => handOn_held hl hc, ?_⟩
  intro n hd freed
  refine ⟨finishNozzle_eq hd o, fun l st k r hl hc => ⟨_, rfl, ?_⟩⟩
  have hctx (m : NozzleId) : freed.ctx m = if m = n then freeContext else s.ctx m :=
    State.ctx_modCtx s n m fun _ => freeContext
  have hfree : (freed.ctx n).state.inDemand = false := by
    rw [hctx, if_pos rfl]
    rfl
  obtain ⟨hctxn, hmeter⟩ := nozzle_handOn (s := freed) (o := o) hl hc hfree
  have hmetern : freed.meter n = _ := State.meter_modMeter_self ..
  rw [hctx, if_pos rfl] at hctxn
  rw [hmetern] at hmeter
  obtain ⟨hpin, hrecord⟩ := line_handOn (s := freed) (o := o) hl hc
  obtain ⟨hbook, hreceipt⟩ := tank_handOn (s := freed) (o := o) hl hc
  obtain ⟨hjournal, hclock, hconfig, hpark⟩ := rest_handOn (s := freed) (o := o) hl hc
  rw [finishNozzle_eq hd]
  refine ⟨hctxn, fun m hm hout => ?_, congrArg Meter.bound hmeter, congrArg Meter.count hmeter,
    congrArg Meter.state hmeter, congrArg Journal.entries hjournal, congrArg Journal.reservations hjournal,
    congrArg Journal.nextSeq hjournal, hpin, ⟨_, hrecord, rfl, rfl, rfl, rfl, rfl⟩, hbook, hreceipt, hclock, hconfig,
    hpark⟩
  have hm' : freed.ctx m = s.ctx m := (hctx m).trans (if_neg hm)
  exact (nozzle_handOn (s := freed) (o := o) hl hc (by rw [hm', hout])).1.trans hm'

end Sys2Proof.Proofs

namespace Sys2Proof.Proofs
open Sys2Proof Sys2Proof.Machine

/-! ### What the status requests show (R76, R81, R186, R191) -/

section
variable (s : State)

/-- R80, R81: the report of a nozzle of a READY part, its legs with R50's average temperature and CTL. -/
theorem nozzleReport_eq (h : s.Up) (n : NozzleId) : s.nozzleReport n =
    { nozzle := n, config := s.config.nozzles.read n, context := s.ctx n, meter := s.meter n,
      figures := (s.delivery n).legs.map (Leg.figures (s.productConfig (s.deliveryProduct (s.delivery n)))),
      running := ((s.delivery n).legs.map fun l => l.net).sum, fullFlow := decide ((s.ctx n).state = .flowFull),
      slowFlow := decide ((s.ctx n).state = .flowFull ∨ (s.ctx n).state = .flowSlow) } := by
  obtain ⟨hrunning, hstage⟩ := h
  have hready : s.ready = true := decide_eq_true hstage
  simp only [State.nozzleReport, State.fullFlow, State.slowFlow, hrunning, hready, Bool.true_and, Bool.decide_or]
  rfl

/-- R76: the ullage is measured from the gauge, else from the book, and is never negative. -/
theorem ullage_eq (t : TankId) : s.ullage t = (max 0 (match (s.tank t).book, (s.tank t).gauge.net with
    | _, some g => ((s.tankConfig t).capacity : Int) - (g : Int)
    | some b, none => (s.tankConfig t).capacity - b
    | none, none => (s.tankConfig t).capacity)).toNat := by
  have hmax (x : Int) : (max 0 x).toNat = x.toNat := by omega
  rw [hmax, State.ullage]
  cases (s.tank t).book <;> cases (s.tank t).gauge.net <;> rfl

/-- R191: a line of section 1, field by field. -/
theorem lineReport_eq (x : CacheLine) : lineReport x =
    { fetching := match x.content with | .fetching _ _ => true | _ => false,
      state := match x.content with | .held st _ _ => some st | _ => none,
      pinned := x.pinned,
      fleet := match x.content with | .empty => none | .fetching f _ => some f | .held _ _ r => some r.fleet } := by
  rw [lineReport]
  cases x.content <;> rfl

/-- R166: the request in hand as it is shown, without its tag. -/
theorem requestInHand_eq (p : Port) : s.requestInHand p = (s.port p).inHand.map fun h => h.request := by
  rw [State.requestInHand]
  cases (s.port p).inHand <;> rfl

/-- R166: the assembler is no part of a port's report. -/
@[simp] theorem portReport_idleAssembler (p q : Port) : (s.idleAssembler p).portReport q = s.portReport q := by
  have hport : (s.idleAssembler p).port q =
      { s.port q with assembler := if q = p then .idle else (s.port q).assembler } := by
    rw [State.idleAssembler, State.port_modPort]
    split
    · next hq => rw [hq]
    · rfl
  simp only [State.portReport, requestInHand_eq, hport, State.role_idleAssembler]

/-- R186, R191: the sections of DEVICE_STATUS in their order. -/
def deviceSections : List Payload :=
  [.device s.deviceReport, .cache ((List.finRange 16).map fun l => lineReport (s.line l)),
   .parkTable ((List.finRange 4).map s.slotReport), .portTable ((List.finRange 4).map fun q => s.portReport q),
   .probes ((List.finRange 16).map s.channel) ((List.finRange 8).map fun n => (s.meter n).state)]

/-- R191: a section above 4 is none. -/
theorem section_eq (k : Nat) : s.section k = (deviceSections s)[k]? := by
  have hchannels : allChannels = List.finRange 16 := by decide
  rw [State.section, allLines_eq, allSlots_eq, allPorts_eq, hchannels, allNozzles_eq]
  match k with
  | 0 | 1 | 2 | 3 | 4 | _ + 5 => rfl

@[simp] theorem section_idleAssembler (p : Port) (k : Nat) : (s.idleAssembler p).section k = s.section k := by
  have hports : (s.idleAssembler p).portReport = s.portReport := funext (portReport_idleAssembler s p)
  rw [section_eq, section_eq, deviceSections, deviceSections, hports]
  rfl

end

/-! ### The status requests answered (R168, R170) -/

section
variable {s : State} {p : Port} (tag : Byte)

/-- A request of every role, answered with what a report shows of the part, the assembler no part of it. -/
theorem exec_reports {i : Instr} {code : ReqCode} {tag : Byte} {report : State → Payload} (h : s.Accepts p)
    (hc : code.ofAll = true)
    (he : exec i s = s.event fun x => x.admission p code tag none fun y => y.reply p code tag .ok (report y))
    (hr : report (s.idleAssembler p) = report s) :
    exec i s = .next (s.answered p code tag .ok (report s)).startStore := by
  refine exec_of_block h (permits_all hc) he ?_ rfl
  obtain ⟨-, hline, -⟩ := h
  rw [hr, reply_idleAssembler hline]

theorem exec_nozzleStatus (h : s.Accepts p) (n : NozzleId) : exec (.nozzleStatus p tag (n.val + 1)) s =
    .next (s.answered p .nozzleStatus tag .ok (.nozzle (s.nozzleReport n))).startStore := by
  refine exec_reports (report := fun y => .nozzle (y.nozzleReport n)) h rfl (congrArg s.event (funext fun x => ?_)) rfl
  simp only [State.reqNozzleStatus, State.withNozzle, fromOne_succ]

theorem exec_tankStatus (h : s.Accepts p) (t : TankId) : exec (.tankStatus p tag (t.val + 1)) s =
    .next (s.answered p .tankStatus tag .ok (.tank (s.tankReport t))).startStore := by
  refine exec_reports (report := fun y => .tank (y.tankReport t)) h rfl (congrArg s.event (funext fun x => ?_)) rfl
  simp only [State.reqTankStatus, State.withTank, fromOne_succ]

/-- R168, R186: DEVICE_STATUS is answered in every stage in which the ports are heard. -/
theorem exec_deviceStatus {k : Nat} {f : Payload} (hr : s.running = true) (hs : s.startUp.stage ≠ .configuration)
    (hl : (s.port p).line = []) (hi : (s.port p).inHand = none) (hf : s.section k = some f) :
    exec (.deviceStatus p tag k) s = .next (s.answered p .deviceStatus tag .ok f).settle := by
  have hadm : State.reqDeviceStatus p tag k s = s.answered p .deviceStatus tag .ok f := by
    rw [State.reqDeviceStatus, admission_taken hs hl, if_neg (by simp [hi]), if_neg (by simp),
      if_neg (by simp [permits_all (c := .deviceStatus) rfl])]
    simp only [section_idleAssembler, hf]
    exact reply_idleAssembler hl
  rw [show exec (.deviceStatus p tag k) s = execDeviceStatus p tag k s from rfl, execDeviceStatus, event_of_running hr,
    hadm]

end

/-- Settles O18: each request answers its report (`exec_reports`, and `exec_deviceStatus` before READY too), and the
reports are the figures of the statement: `nozzleReport_eq`, `ullage_eq`, and section by section `section_eq`. -/
theorem statusRequestsOnlyAnswer : Obligations.StatusRequestsOnlyAnswer := by
  intro p tag s sections
  have hsections : deviceSections s = sections := by
    simp only [deviceSections, lineReport_eq, State.portReport, requestInHand_eq]
    rfl
  have hdevice (k : Nat) : s.section k = sections[k]? := hsections ▸ section_eq s k
  refine ⟨fun hr hs _ hl hi k f hf => exec_deviceStatus tag hr hs hl hi ((hdevice k).trans hf),
    fun h => ⟨?_, ?_, ?_, ?_⟩⟩
  · intro n
    rw [exec_nozzleStatus tag h, nozzleReport_eq s h.1]
    rfl
  · intro t level temp hlevel htemp
    obtain rfl : level = levelChannel t := Fin.ext hlevel
    obtain rfl : temp = tempChannel t := Fin.ext htemp
    rw [exec_tankStatus tag h, State.tankReport, ullage_eq]
    rfl
  · exact exec_reports (report := State.clockPayload) h rfl rfl rfl
  · intro k f hf
    obtain ⟨⟨hr, hs⟩, hl, hi⟩ := h
    rw [exec_deviceStatus tag hr (by simp [hs]) hl hi ((hdevice k).trans hf)]
    exact congrArg Host.Outcome.next (settle_of_ready hs)

end Sys2Proof.Proofs

namespace Sys2Proof.Proofs
open Sys2Proof Sys2Proof.Machine

/-! ### The tier of a tank (R63) -/

section
variable (c : TankConfig) (u : Int)

theorem rank_fallingTier : (fallingTier c u).rank =
    if u < c.reserve then 3 else if u < c.tier2 then 2 else if u < c.tier1 then 1 else 0 := by
  rw [fallingTier, apply_ite Tier.rank, apply_ite Tier.rank, apply_ite Tier.rank]
  rfl

theorem rank_risingTier : (risingTier c u).rank =
    if (c.tier1 : Int) + (c.hysteresis : Int) ≤ u then 0
    else if (c.tier2 : Int) + (c.hysteresis : Int) ≤ u then 1
    else if (c.reserve : Int) + (c.hysteresis : Int) ≤ u then 2 else 3 := by
  rw [risingTier, apply_ite Tier.rank, apply_ite Tier.rank, apply_ite Tier.rank]
  rfl

end

section
variable {c : TankConfig} {u : Int} {t : Tier}

/-- R63: the hysteresis keeps the rising tier at or above the falling one in rank. -/
theorem falling_le_rising (h2 : c.reserve < c.tier2) (h1 : c.tier2 < c.tier1) :
    (fallingTier c u).rank ≤ (risingTier c u).rank := by
  rw [rank_fallingTier, rank_risingTier]
  split_ifs <;> omega

theorem nextTier_between (hf : (fallingTier c u).rank ≤ t.rank) (hr : t.rank ≤ (risingTier c u).rank) :
    nextTier c u t = t := by
  rw [nextTier, if_neg (Nat.not_lt.2 hf), if_neg (Nat.not_lt.2 hr)]

/-- R63: a tier re-evaluated lies between the falling and the rising tier. -/
theorem rank_nextTier (h : (fallingTier c u).rank ≤ (risingTier c u).rank) :
    (fallingTier c u).rank ≤ (nextTier c u t).rank ∧ (nextTier c u t).rank ≤ (risingTier c u).rank := by
  unfold nextTier
  split
  · exact ⟨le_rfl, h⟩
  · next hf =>
    split
    · exact ⟨h, le_rfl⟩
    · next hr => exact ⟨Nat.not_lt.1 hf, Nat.not_lt.1 hr⟩

end

/-! ### RUNs ended by the low-stock rule (R68) -/

/-- R68: what the low-stock rule of part `s` makes of nozzle `n`, part `y` being what it has made of those before. -/
def lowEnded (s y : State) (n : NozzleId) : State :=
  if (s.ctx n).state = .priming then
    ((y.postTo (s.config.nozzles.read n).owner (runEndedNote s n .tankLow)).addFault n .tankLow).enterHeld n .tankLow
  else y.stopFlow n .tankLow

section
variable {s y : State} {n : NozzleId} {t : TankId}

theorem endLow_flowing (hin : (s.ctx n).state.inDemand = true) (hx : (s.ctx n).state ≠ .priming) :
    s.endLow n = s.stopFlow n .tankLow := by
  unfold State.endLow
  cases h : (s.ctx n).state with
  | priming => exact absurd h hx
  | proving | flowFull | flowSlow => rfl
  | free | loaded | fetching | awaitGrant | draining | held => rw [h] at hin; exact Bool.noConfusion hin

/-- R67, R97: a RUN in PRIMING ended by the low-stock rule, whose pump does not run. -/
theorem endLow_priming (hp : (s.tank (s.config.nozzles.read n).tank).pump.state ≠ .running)
    (hx : (s.ctx n).state = .priming) :
    s.endLow n = (s.postOwner n (runEndedNote s n .tankLow)).heldByFault n .tankLow .tankLow := by
  rw [← quitPriming_heldByFault_idle hp, State.endLow, hx]

/-- R67: a RUN that ends in flow where the pump does not run changes its own context and meter and is told. -/
theorem stopFlow_idle (hp : (s.tank (s.config.nozzles.read n).tank).pump.state ≠ .running) (r : RunEnd) :
    s.stopFlow n r = (State.abandonProving (s.modCtx n fun c => { c with
      state := .draining, endReason := some r, stall := none, drain := some s.config.delivery.drainSettle })
        n).postRunEnded n r := by
  refine congrArg (fun y : State => y.postRunEnded n r) (leftDemand_stays ?_ (.inl hp))
  rw [State.abandonProving, State.ctx_modMeter, State.ctx_modCtx_self]
  rfl

/-- R68: where the pump does not run, a RUN ended leaves the other contexts, the tanks and the configuration. -/
theorem endLow_frame (hin : (s.ctx n).state.inDemand = true)
    (hp : (s.tank (s.config.nozzles.read n).tank).pump.state ≠ .running) :
    (s.endLow n).config = s.config ∧ (s.endLow n).tanks = s.tanks ∧ ∀ m, m ≠ n → (s.endLow n).ctx m = s.ctx m := by
  by_cases hx : (s.ctx n).state = .priming
  · rw [endLow_priming hp hx]
    refine ⟨rfl, rfl, fun m hm => ?_⟩
    rw [State.heldByFault, State.enterHeld, State.ctx_postOwner, State.ctx_modCtx, if_neg hm, State.addFault,
      State.modDelivery, State.ctx_modCtx, if_neg hm, State.ctx_postOwner]
  · rw [endLow_flowing hin hx, stopFlow_idle hp]
    refine ⟨rfl, rfl, fun m hm => ?_⟩
    rw [State.postRunEnded, State.ctx_postOwner, State.abandonProving, State.ctx_modMeter, State.ctx_modCtx, if_neg hm]

/-- R68: one nozzle of the demand, its own context not yet reached. -/
theorem endLow_eq (hconfig : y.config = s.config) (hctx : y.ctx n = s.ctx n) (hin : (s.ctx n).state.inDemand = true)
    (hp : (y.tank (y.config.nozzles.read n).tank).pump.state ≠ .running) : y.endLow n = lowEnded s y n := by
  rw [lowEnded]
  split
  · next hx =>
    have hnote : runEndedNote y n .tankLow = runEndedNote s n .tankLow :=
      runEndedNote_congr (by rw [State.delivery, State.delivery, hctx])
    rw [endLow_priming hp (by rw [hctx]; exact hx), hnote, State.postOwner, State.owner, State.nozzleConfig, hconfig]
    rfl
  · next hx => rw [endLow_flowing (by rw [hctx]; exact hin) (by rw [hctx]; exact hx)]

/-- R68: the nozzles of a demand, the pump HELD_LOW: ending one RUN leaves the pump and the contexts of the others. -/
theorem endLows_eq {ns : List NozzleId} (hns : ns.Nodup) (hmem : ∀ n ∈ ns, n ∈ s.demand t)
    (hconfig : y.config = s.config) (hp : (y.tank t).pump.state = .heldLow) (hctx : ∀ n ∈ ns, y.ctx n = s.ctx n) :
    ns.foldl State.endLow y = ns.foldl (lowEnded s) y := by
  induction ns generalizing y with
  | nil => rfl
  | cons n ns ih =>
    obtain ⟨hn, hrest⟩ := List.nodup_cons.1 hns
    obtain ⟨hfirst, hothers⟩ := List.forall_mem_cons.1 hmem
    obtain ⟨hctxn, hctxs⟩ := List.forall_mem_cons.1 hctx
    obtain ⟨htank, hin⟩ := mem_demand.1 hfirst
    have hpump : (y.tank (y.config.nozzles.read n).tank).pump.state ≠ .running := by
      rw [hconfig, htank, hp]
      exact PumpState.noConfusion
    obtain ⟨hc, ht, hx⟩ := endLow_frame (by rw [hctxn]; exact hin) hpump
    rw [List.foldl_cons, List.foldl_cons, ← endLow_eq hconfig hctxn hin hpump]
    refine ih hrest hothers (hc.trans hconfig) (by rw [State.tank, ht]; exact hp) fun m hm => ?_
    rw [hx m (ne_of_mem_of_not_mem hm hn), hctxs m hm]

end

/-! ### The low-stock state (R68) -/

section
variable {s : State} {t : TankId}

theorem evaluateLow_stays
    (h : (s.tank t).usable ≤ ((s.tankConfig t).floor : Int) ↔ (s.tank t).pump.state = .heldLow) : s.evaluateLow t = s := by
  by_cases hp : (s.tank t).pump.state = .heldLow
  · simp only [State.evaluateLow, if_pos (h.2 hp), if_pos hp]
  · simp only [State.evaluateLow, if_neg (mt h.1 hp), if_neg hp]

theorem evaluateLow_recovers (hu : ((s.tankConfig t).floor : Int) < (s.tank t).usable)
    (hp : (s.tank t).pump.state = .heldLow) : s.evaluateLow t = s.setPump t .stopped none := by
  simp only [State.evaluateLow, if_neg (not_le.2 hu), if_pos hp]

section
variable (hu : (s.tank t).usable ≤ ((s.tankConfig t).floor : Int)) (hp : (s.tank t).pump.state ≠ .heldLow)
include hu hp

theorem evaluateLow_holds_ready (hr : s.startUp.stage = .ready) :
    s.evaluateLow t = (s.demand t).foldl (lowEnded s) (s.setPump t .heldLow none) := by
  have hready : s.ready = true := decide_eq_true hr
  have hpump : ((s.setPump t .heldLow none).tank t).pump.state = .heldLow := by
    rw [State.setPump, State.tank_modTank_self]
  rw [← endLows_eq (s := s) (y := s.setPump t .heldLow none) (nodup_demand s t) (fun _ hn => hn) rfl hpump
    fun _ _ => rfl]
  simp only [State.evaluateLow, if_pos hu, if_neg hp, hready, if_true]

theorem evaluateLow_holds_starting (hr : s.startUp.stage ≠ .ready) :
    s.evaluateLow t = s.setPump t .heldLow none := by
  simp only [State.evaluateLow, if_pos hu, if_neg hp, ready_eq_false.2 hr, Bool.false_eq_true, if_false]

end

/-- R63: of the tank, a tier's evaluation changes the tier alone. -/
theorem tank_evaluateTier (s : State) (t : TankId) : ∃ x, (s.evaluateTier t).tank t = { s.tank t with tier := x } := by
  simp only [State.evaluateTier]
  split
  · exact ⟨_, rfl⟩
  · exact ⟨_, (State.tank_postAll ..).trans (State.tank_modTank_self ..)⟩

end

/-- Settles O55: a tier is its falling or rising tier or stays (`rank_nextTier`, `nextTier_between`); a tank's
evaluation is that of the tier and then the law of `evaluateLow` for its stock and pump, which sees the tank but for its
tier, and the contexts, as they were. -/
theorem tierAndLowStockFollowUsableStock : Obligations.TierAndLowStockFollowUsableStock := by
  unfold Obligations.TierAndLowStockFollowUsableStock
  refine ⟨fun c u t h2 h1 => ?_, fun t s => ?_⟩
  · intro falling rising new
    have hf : (fallingTier c u).rank = falling := rank_fallingTier c u
    have hr : (risingTier c u).rank = rising := rank_risingTier c u
    have hle := falling_le_rising (u := u) h2 h1
    obtain ⟨hlow, hhigh⟩ := rank_nextTier (t := t) hle
    have hsettled : nextTier c u new = new := nextTier_between hlow hhigh
    rw [← hf, ← hr]
    exact ⟨hle, hlow, hhigh, nextTier_between, hsettled⟩
  · intro cfg k usable new told pump ended
    have htold : s.evaluateTier t = told := rfl
    obtain ⟨x, htank⟩ : ∃ x, told.tank t = { k with tier := x } := tank_evaluateTier s t
    have hframe : told = { s with tanks := told.tanks, ports := told.ports } := evaluateTier_frame s t s.table
    have hu : (told.tank t).usable = usable := by rw [htank]; rfl
    have hp : (told.tank t).pump = k.pump := by rw [htank]
    have hfloor : (told.tankConfig t).floor = cfg.floor :=
      (congrArg (fun y : State => (y.config.tanks.read t).floor) hframe :)
    have hstage : told.startUp = s.startUp := (congrArg State.startUp hframe :)
    have hdemand : told.demand t = s.demand t := (congrArg (fun y : State => y.demand t) hframe :)
    have hended : lowEnded told = ended := (congrArg lowEnded hframe :)
    rw [← hu, ← hp, ← hfloor]
    refine ⟨fun he => if_neg (by rw [State.tankConfig, he]; exact Bool.false_ne_true), fun he => ?_⟩
    have heval : s.evaluateTank t = told.evaluateLow t := if_pos he
    rw [heval]
    refine ⟨fun h hl => evaluateLow_stays (iff_of_true h hl), fun h hl => ⟨fun hr => ?_, fun hr => ?_⟩,
      fun h hl => evaluateLow_recovers h hl, fun h hl => evaluateLow_stays (iff_of_false (not_le.2 h) hl)⟩
    · rw [evaluateLow_holds_ready h hl (by rw [hstage]; exact hr), hended, hdemand]
      rfl
    · exact evaluateLow_holds_starting h hl (by rw [hstage]; exact hr)

end Sys2Proof.Proofs

namespace Sys2Proof.Proofs
open Sys2Proof Sys2Proof.Machine

/-! ### Requests answered at once, and figures outside their range -/

theorem fromOne_outside {k n : Nat} (h : n = 0 ∨ k < n) : fromOne k n = none := dif_neg (by omega)

section
variable {s : State} {p : Port} {code : ReqCode} {tag : Byte} {k : Nat}

theorem withTank_succ (t : TankId) (f : TankId → State) : s.withTank p code tag (t.val + 1) f = f t := by
  simp only [State.withTank, fromOne_succ]

theorem withTank_outside (h : k = 0 ∨ 4 < k) (f : TankId → State) :
    s.withTank p code tag k f = s.badField p code tag := by
  simp only [State.withTank, fromOne_outside h]

theorem withNozzle_outside (h : k = 0 ∨ 8 < k) (f : NozzleId → State) :
    s.withNozzle p code tag k f = s.badField p code tag := by
  simp only [State.withNozzle, fromOne_outside h]

/-- R191: DEVICE_STATUS has no section above 4. -/
theorem section_outside (h : 4 < k) : s.section k = none := by
  rw [section_eq]
  exact List.getElem?_eq_none h

/-- A request whose block answers it and does nothing else. -/
theorem exec_answered {i : Instr} {nozzle : Option Nat} {b : State → State} {st : Status} {f : Payload}
    (h : s.Accepts p) (hp : s.permits p code nozzle = true)
    (he : exec i s = s.event fun x => x.admission p code tag nozzle b)
    (hb : b (s.idleAssembler p) = (s.idleAssembler p).reply p code tag st f) :
    exec i s = .next (s.answered p code tag st f).startStore := by
  have ⟨⟨_, hready⟩, hline, _⟩ := h
  rw [he, event_accepts h hp (by rw [hb]; exact hready), hb, reply_idleAssembler hline]

end

/-- Settles O19: `fromOne` names no nozzle or tank outside its range and `section_outside` no section, and CONFIG_READ
tests its group. -/
theorem numbersOutOfRangeAreBadField : Obligations.NumbersOutOfRangeAreBadField := by
  intro p tag k s h
  refine ⟨fun hk => ?_, fun hk => ?_, fun hk => ?_, fun hk hw => ?_, fun hk hw => ?_,
    fun hk hw => ⟨fun docket => ?_, ?_, fun amount => ?_⟩⟩
  · exact exec_answered h (permits_all rfl) rfl (withNozzle_outside hk _)
  · exact exec_answered h (permits_all rfl) rfl (withTank_outside hk _)
  · refine exec_answered h (permits_all rfl) rfl ?_
    simp only [section_outside hk]
    rfl
  · exact exec_answered h (permits_meterClear_workshop hw _) rfl (withNozzle_outside hk _)
  · exact exec_answered h (permits_workshop hw rfl) rfl (if_neg (by omega))
  · exact exec_answered h (permits_workshop hw rfl) rfl (withTank_outside hk _)
  · exact exec_answered h (permits_workshop hw rfl) rfl (withTank_outside hk _)
  · exact exec_answered h (permits_workshop hw rfl) rfl (withTank_outside hk _)

/-! ### The shift (R73, R180) -/

/-- R180: a rollover leaves start-up alone. -/
theorem rollover_startUp (s : State) : s.rollover.startUp = s.startUp :=
  ((Within.refl (fed := False) _).reconcileAll .rollover).startUp

/-- Settles O28: a due rollover is `State.rollover`, written out; CLOCK_SET compares the ticks with the shift length. -/
theorem shiftRollsOverAndIsSet : Obligations.ShiftRollsOverAndIsSet := by
  refine ⟨fun s h hdue => ?_, fun p tag shift ticks s h hw => ⟨fun ht => ?_, fun ht => ?_⟩⟩
  · have hroll : (if s.clock.rolloverDue then s.rollover else s) = s.rollover := if_pos hdue
    have hexec : exec .shiftRollover s = _ :=
      event_of_up (k := fun x => if x.clock.rolloverDue then x.rollover else x) h
        (by rw [hroll, rollover_startUp]; exact h.2)
    rw [hexec, hroll]
    rfl
  · refine exec_of_block h (permits_workshop hw rfl) rfl ((if_neg (Nat.not_le.2 ht)).trans ?_) rfl
    obtain ⟨-, hline, -⟩ := h
    exact reply_idleAssembler (s := s.setClock shift ticks) hline
  · exact exec_answered h (permits_workshop hw rfl) rfl (if_pos ht)

end Sys2Proof.Proofs

namespace Sys2Proof.Proofs
open Sys2Proof Sys2Proof.Machine

/-! ### Receipts and adjustments, test by test (R70, R71, R75) -/

section
variable {s : State} {p : Port} {tag : Byte} {t : TankId} {docket : Nat} {amount : Int}

theorem openReceipt_badField (h : (s.tankConfig t).enabled = false ∨ docket = 0 ∨ 1000000000 < docket) :
    s.openReceipt p tag docket t = s.badField p .receiptOpen tag := if_pos (by simpa using h)

section
variable (he : (s.tankConfig t).enabled = true) (h1 : 1 ≤ docket) (h2 : docket ≤ 1000000000)
include he h1 h2

theorem openReceipt_open (hr : (s.tank t).receipt.isSome = true) :
    s.openReceipt p tag docket t = s.reply p .receiptOpen tag .receiptOpen .nothing := by
  rw [State.openReceipt, if_neg (by simp [he]; omega), if_pos hr]

variable (hr : (s.tank t).receipt = none)
include hr

theorem openReceipt_ungauged (hg : (s.tank t).gauge.net = none) :
    s.openReceipt p tag docket t = s.reply p .receiptOpen tag .gaugeInvalid .nothing := by
  rw [State.openReceipt, if_neg (by simp [he]; omega), if_neg (by simp [hr])]
  simp only [hg]

theorem openReceipt_gauged {g : Nat} (hg : (s.tank t).gauge.net = some g) : s.openReceipt p tag docket t =
    if (s.tankConfig t).capacity < g + docket then s.badField p .receiptOpen tag
    else (s.modTank t fun x => { x with receipt := some (openedReceipt docket g (s.tank t).gauge) }).reply p
      .receiptOpen tag .ok (.receiptOpened g) := by
  rw [State.openReceipt, if_neg (by simp [he]; omega), if_neg (by simp [hr])]
  simp only [hg]
  rfl

end

theorem closeReceipt_none (hr : (s.tank t).receipt = none) :
    s.closeReceipt p tag t = s.badField p .receiptClose tag := by
  simp only [State.closeReceipt, hr]

theorem closeReceipt_some {r : Receipt} (hr : (s.tank t).receipt = some r) : s.closeReceipt p tag t =
    let received := r.received (s.tank t).gauge.net
    let book := (s.tank t).book.map fun b => satBook (b + received)
    (((s.modTank t fun x => { x with book := book, receipt := none }).postOffice (.receiptResult t .closed r.docket
      received (received - (r.docket : Int)) (s.tank t).gauge.net.isNone (r.closingFlags (s.tank t).gauge))).reply p
        .receiptClose tag .ok (.receiptClosed t .closed r.docket received (received - (r.docket : Int))
          (s.tank t).gauge.net.isNone (r.closingFlags (s.tank t).gauge) book)).evaluateTank t := by
  simp only [State.closeReceipt, hr]

/-- R71: the flags of the closing gauge join those of the opening when there is a gauge to use. -/
theorem closingFlags_eq (r : Receipt) (g : Gauge) : r.closingFlags g =
    { substituted := r.substituted || (g.net.isSome && g.substituted),
      overGauge := r.overGauge || (g.net.isSome && g.overGauge),
      clamped := r.clamped || (g.net.isSome && g.clamped) } := by
  rw [Receipt.closingFlags]
  cases g.net <;> simp

theorem adjustStock_badField (h : amount < -1000000000 ∨ 1000000000 < amount) :
    s.adjustStock p tag amount t = s.badField p .stockAdjust tag := if_pos h

section
variable (h1 : -1000000000 ≤ amount) (h2 : amount ≤ 1000000000)
include h1 h2

theorem adjustStock_open (hr : (s.tank t).receipt.isSome = true) :
    s.adjustStock p tag amount t = s.reply p .stockAdjust tag .receiptOpen .nothing := by
  rw [State.adjustStock, if_neg (by omega), if_pos hr]

theorem adjustStock_booked (hr : (s.tank t).receipt = none) : s.adjustStock p tag amount t =
    ((s.modTank t fun x => { x with book := some (adjusted (s.tank t).book amount) }).reply p .stockAdjust tag .ok
      (.book (adjusted (s.tank t).book amount))).evaluateTank t := by
  rw [State.adjustStock, if_neg (by omega), if_neg (by simp [hr])]

end

/-- R75: an unknown book is set by an adjustment that is not negative, and else to 0. -/
theorem adjusted_eq (book : Option Int) (amount : Int) : adjusted book amount =
    match book with
    | some x => satBook (x + amount)
    | none => if amount < 0 then 0 else amount := by
  cases book with
  | some x => rfl
  | none =>
    show max 0 amount = if amount < 0 then 0 else amount
    split <;> omega

end

/-! ### What reconciliation finds of a tank (R73, R74) -/

/-- R73: a finding of tank `t`, whose gauge and flags are those of the moment. -/
def foundOf (s : State) (t : TankId) (o : ReconcileOutcome) (cause : Option SkipCause) (book : Option Int) (v : Int) :
    TankFinding :=
  { tank := t, outcome := o, cause := cause, book := book, gauged := (s.tank t).gauge.net, variance := v,
    flags := (s.tank t).gauge.flags }

section
variable {s : State} {t : TankId}

theorem finding_disabled (he : (s.tankConfig t).enabled = false) :
    s.finding t = foundOf s t .notEnabled none (s.tank t).book 0 := if_pos (by rw [he]; rfl)

section
variable (he : (s.tankConfig t).enabled = true)
include he

theorem finding_receipt (hr : (s.tank t).receipt.isSome = true) :
    s.finding t = foundOf s t .skipped (some .receipt) (s.tank t).book 0 := by
  rw [State.finding, if_neg (by simp [he]), if_pos hr]
  rfl

variable (hr : (s.tank t).receipt = none)
include hr

theorem finding_ungauged (hg : (s.tank t).gauge.net = none) :
    s.finding t = foundOf s t .skipped (some .gauge) (s.tank t).book 0 := by
  rw [State.finding, if_neg (by simp [he]), if_neg (by simp [hr])]
  simp only [foundOf, hg]

variable {g : Nat} (hg : (s.tank t).gauge.net = some g)
include hg

theorem finding_unbooked (hb : (s.tank t).book = none) :
    s.finding t = foundOf s t .setFromGauge none (some (g : Int)) 0 := by
  rw [State.finding, if_neg (by simp [he]), if_neg (by simp [hr])]
  simp only [foundOf, hg, hb]

theorem finding_booked {b : Int} (hb : (s.tank t).book = some b) : s.finding t =
    if ((s.tankConfig t).tolerance : Int) < |(g : Int) - b| then foundOf s t .variance none (some b) ((g : Int) - b)
    else foundOf s t .within none (some b) 0 := by
  rw [State.finding, if_neg (by simp [he]), if_neg (by simp [hr])]
  simp only [foundOf, hg, hb, Int.abs_eq_natAbs, Nat.cast_lt]

end

/-- R73: every finding is of its tank, with the gauge and flags of the moment. -/
theorem finding_eq (s : State) (t : TankId) : ∃ o cause book v, s.finding t = foundOf s t o cause book v := by
  simp only [State.finding]
  split
  · exact ⟨_, _, _, _, rfl⟩
  · split
    · exact ⟨_, _, _, _, rfl⟩
    · cases hg : (s.tank t).gauge.net with
      | none => exact ⟨_, _, _, _, by rw [foundOf, hg]⟩
      | some g =>
        cases hb : (s.tank t).book with
        | none => exact ⟨_, _, _, _, by rw [foundOf, hg]⟩
        | some b =>
          by_cases hv : (s.tankConfig t).tolerance < ((g : Int) - b).natAbs
          · exact ⟨_, _, _, _, (if_pos hv).trans (by rw [foundOf, hg])⟩
          · exact ⟨_, _, _, _, (if_neg hv).trans (by rw [foundOf, hg])⟩

/-! ### What reconciliation does to a tank (R73) -/

variable {o : Occasion}

theorem reconcileTank_quiet (h : (s.finding t).outcome = .notEnabled ∨ (s.finding t).outcome = .within) :
    s.reconcileTank o t = s := by
  rcases h with h | h <;> simp only [State.reconcileTank, h]

theorem reconcileTank_told (h : (s.finding t).outcome = .skipped ∨ (s.finding t).outcome = .variance) :
    s.reconcileTank o t = s.postOffice (.stockVariance (s.finding t) o) := by
  rcases h with h | h <;> simp only [State.reconcileTank, h]

theorem reconcileTank_booked (h : (s.finding t).outcome = .setFromGauge) : s.reconcileTank o t =
    ((s.postOffice (.stockVariance (s.finding t) o)).modTank t fun x =>
      { x with book := (s.finding t).book }).evaluateTank t := by
  simp only [State.reconcileTank, h]
  rfl

end

/-! ### The requests of the tank manager (R70, R71, R75) -/

section
variable {s : State} {p : Port} {tag : Byte} {t : TankId} {code : ReqCode} {i : Instr} {b : State → TankId → State}

/-- A request of the WORKSHOP row that names a tank, its block leaving start-up alone. -/
theorem exec_ofTank {y : State} (h : s.Accepts p) (hw : s.role p = .workshop) (hc : code.ofWorkshop = true)
    (he : exec i s = s.event fun x => x.admission p code tag none fun z => z.withTank p code tag (t.val + 1) (b z))
    (hy : b (s.idleAssembler p) t = y) (hst : y.startUp = s.startUp) : exec i s = .next y.startStore :=
  exec_of_block h (permits_workshop hw hc) he ((withTank_succ t _).trans hy) hst

/-- Such a request that its block answers and does nothing else. -/
theorem exec_ofTank_answered {st : Status} {f : Payload} (h : s.Accepts p) (hw : s.role p = .workshop)
    (hc : code.ofWorkshop = true)
    (he : exec i s = s.event fun x => x.admission p code tag none fun z => z.withTank p code tag (t.val + 1) (b z))
    (hb : b (s.idleAssembler p) t = (s.idleAssembler p).reply p code tag st f) :
    exec i s = .next (s.answered p code tag st f).startStore :=
  exec_answered h (permits_workshop hw hc) he ((withTank_succ t _).trans hb)

/-- R73: RECONCILE answers what it found of the tanks as they stood before it; the assembler is no part of a finding. -/
theorem exec_reconcile (h : s.Accepts p) (hw : s.role p = .workshop) : exec (.reconcile p tag) s =
    .next (((s.idleAssembler p).reconcileAll .request).reply p .reconcile tag .ok
      (.reconciled [s.finding 0, s.finding 1, s.finding 2, s.finding 3])).startStore := by
  have hfound : allTanks.map (s.idleAssembler p).finding = [s.finding 0, s.finding 1, s.finding 2, s.finding 3] := rfl
  have hstart : ((s.idleAssembler p).reconcileAll .request).startUp = s.startUp :=
    ((Within.refl (fed := False) (s.idleAssembler p)).reconcileAll .request).startUp
  rw [← hfound]
  exact exec_of_block (k := fun x => (x.reconcileAll .request).reply p .reconcile tag .ok
    (.reconciled (allTanks.map x.finding))) h (permits_workshop hw rfl) rfl rfl
      ((State.reply_startUp ..).trans hstart)

end

/-- Settles O56: each request is handed its tank (`exec_ofTank`), and its block is the law above for the test
that decides; a reconciliation does what the outcome of `finding` says, and that is decided by the laws of `finding`. -/
theorem receiptsAndStockAreBooked : Obligations.ReceiptsAndStockAreBooked := by
  intro p tag t s h hw k cfg sat
  have hline : (s.port p).line = [] := h.2.1
  have hstart (y : State) : (y.evaluateTank t).startUp = y.startUp := ((Quiet.refl y).evaluateTank t).startUp
  refine ⟨fun docket => ?_, fun hr => ?_, fun r hr => ?_, fun amount => ⟨fun ha => ?_, fun h1 h2 hr => ?_,
    fun h1 h2 hr => ?_⟩, ?_, ?_, fun o => ⟨rfl, fun he => ?_, fun he => ?_⟩⟩
  · intro opened
    have hopened {st : Status} (hst : (s.idleAssembler p).openReceipt p tag docket t =
        (s.idleAssembler p).reply p .receiptOpen tag st .nothing) : opened st :=
      exec_ofTank_answered h hw rfl rfl hst
    refine ⟨fun hbad => hopened (openReceipt_badField hbad), fun he h1 h2 => ⟨fun hr => ?_, fun hr hg => ?_,
      fun g hr hg hover => ?_, fun g hr hg hfits => ?_⟩⟩
    · exact hopened (openReceipt_open he h1 h2 hr)
    · exact hopened (openReceipt_ungauged he h1 h2 hr hg)
    · refine hopened ?_
      rw [openReceipt_gauged (s := s.idleAssembler p) he h1 h2 hr hg]
      exact if_pos hover
    · refine exec_ofTank h hw rfl rfl ?_ rfl
      rw [openReceipt_gauged (s := s.idleAssembler p) he h1 h2 hr hg]
      refine (if_neg (Nat.not_lt.2 hfits)).trans ?_
      exact reply_idleAssembler
        (s := s.modTank t fun x => { x with receipt := some (openedReceipt docket g k.gauge) }) hline
  · exact exec_ofTank_answered h hw rfl rfl (closeReceipt_none hr)
  · intro received flags book
    refine exec_ofTank h hw rfl rfl ?_ (hstart _)
    rw [closeReceipt_some (s := s.idleAssembler p) hr, closingFlags_eq]
    rfl
  · exact exec_ofTank_answered h hw rfl rfl (adjustStock_badField ha)
  · exact exec_ofTank_answered h hw rfl rfl (adjustStock_open h1 h2 hr)
  · intro b
    have hb : adjusted k.book amount = b := adjusted_eq ..
    refine exec_ofTank h hw rfl rfl ?_ (hstart _)
    rw [adjustStock_booked (s := s.idleAssembler p) h1 h2 hr, ← hb]
    exact congrArg (fun y : State => y.evaluateTank t)
      (reply_idleAssembler (s := s.modTank t fun x => { x with book := some (adjusted k.book amount) }) hline)
  · exact exec_reconcile h hw
  · obtain ⟨o, cause, book, v, hf⟩ := finding_eq s t
    rw [hf]
    exact ⟨rfl, rfl, rfl⟩
  · have hf := finding_disabled he
    have ho : (s.finding t).outcome = .notEnabled := by rw [hf]; rfl
    exact ⟨ho, reconcileTank_quiet (.inl ho)⟩
  · intro found
    refine ⟨fun hr => ?_, fun hr hg => ?_, fun g hr hg hb => ?_, fun g b hr hg hb => ⟨fun hv => ?_, fun hv => ?_⟩⟩
    · have hf := finding_receipt he hr
      have ho : (s.finding t).outcome = .skipped := by rw [hf]; rfl
      exact ⟨ho, by rw [hf]; rfl, reconcileTank_told (.inl ho)⟩
    · have hf := finding_ungauged he hr hg
      have ho : (s.finding t).outcome = .skipped := by rw [hf]; rfl
      exact ⟨ho, by rw [hf]; rfl, reconcileTank_told (.inl ho)⟩
    · have hf := finding_unbooked he hr hg hb
      have ho : (s.finding t).outcome = .setFromGauge := by rw [hf]; rfl
      have hbook : (s.finding t).book = some (g : Int) := by rw [hf]; rfl
      exact ⟨ho, hbook, by rw [reconcileTank_booked ho, hbook]⟩
    · have hf := (finding_booked he hr hg hb).trans (if_pos hv)
      have ho : (s.finding t).outcome = .variance := by rw [hf]; rfl
      exact ⟨ho, by rw [hf]; rfl, by rw [hf]; rfl, reconcileTank_told (.inr ho)⟩
    · have hf := (finding_booked he hr hg hb).trans (if_neg (not_lt.2 hv))
      have ho : (s.finding t).outcome = .within := by rw [hf]; rfl
      exact ⟨ho, reconcileTank_quiet (.inr ho)⟩

end Sys2Proof.Proofs

namespace Sys2Proof.Proofs
open Sys2Proof Sys2Proof.Machine

/-! ### The terms of an AUTH step (R109 to R114) -/

theorem pastIdent_iff (x : NozzleState) : x.pastIdent = true ↔ x ∉ [.free, .loaded, .fetching] := by
  cases x <;> decide

theorem parkedLimit_eq (t : TankId) (x : ParkSlot) : parkedLimit t x = (match x with
    | .holding p => if p.delivery.tank = t then p.delivery.limit else 0
    | _ => 0) := by
  cases x <;> rfl

/-- R113: the limits of the other open deliveries on a tank, as sums over nozzles and park slots. -/
theorem otherLimits_eq (s : State) (n : NozzleId) (t : TankId) : s.otherLimits n t =
    (∑ m : NozzleId,
      if m ≠ n ∧ (s.ctx m).state ∉ [.free, .loaded, .fetching] ∧ (s.delivery m).tank = t then (s.delivery m).limit
      else 0)
    + ∑ k : ParkId, parkedLimit t (s.slot k) := by
  simp only [State.otherLimits, allNozzles_eq, allSlots_eq, pastIdent_iff, Fin.sum_univ_def]

/-- R109: an allowance as a tier scales it. -/
def tierAllowance (a : AuthSettings) (t : Tier) (allowance : Nat) : Nat :=
  match t with
  | .normal => allowance
  | .tier1 => allowance * a.tier1 / 100
  | .tier2 => allowance * a.tier2 / 100
  | .reserve => allowance

/-- R109: only in RESERVE, and for a class that is not essential, there is no effective allowance. -/
theorem effective_some {a : AuthSettings} {c : ClassConfig} {t : Tier} (h : t ≠ .reserve ∨ c.essential = true)
    (allowance : Nat) : effective a c t allowance = some (tierAllowance a t allowance) := by
  cases t with
  | reserve => exact if_pos (h.resolve_left fun hne => hne rfl)
  | _ => rfl

/-- R110: the cap, and the name of the term built on it. -/
theorem capOf_eq (c : ClassConfig) (restricted : Bool) (e : Nat) : capOf c restricted e =
    (if restricted then min e c.ration else e,
     if restricted = true ∧ c.ration < e then .restriction else .allowance) := by
  cases restricted <;> simp [capOf]

theorem refusalOf_eq (g : Nat) (f : Factor) : refusalOf g f =
    if g = 0 then (if f = .stock then .noStock else .noAllowance) else .belowMinimum := by
  cases f <;> rfl

theorem firstAuth_eq (d : Delivery) : d.firstAuth = decide (d.limit = 0 ∧ d.factor = none) := by
  rw [Delivery.firstAuth, Bool.decide_and]
  cases d.factor <;> rfl

/-! ### What an AUTH step does (R90, R115 to R117) -/

/-- The part with another delivery in a nozzle's context. -/
def withDelivery (s : State) (n : NozzleId) (d : Delivery) : State := s.modCtx n fun y => { y with delivery := some d }

section
variable {s : State} {n : NozzleId} {d : Delivery} (hd : (s.ctx n).delivery = some d)
include hd

theorem modDelivery_eq (f : Delivery → Delivery) : s.modDelivery n f = withDelivery s n (f d) :=
  modCtx_congr (by rw [hd]; rfl)

theorem stockTerm_eq : s.stockTerm n = if (s.config.tanks.read d.tank).enabled then
    ((s.tank d.tank).usable - ((s.config.tanks.read d.tank).floor : Int) - (s.otherLimits n d.tank : Int)
      - (d.running : Int)).toNat
  else 0 := by
  rw [State.stockTerm, delivery_of_ctx hd]
  rfl

theorem authorise_eq (issue a : Nat) (f : Factor) (restricted first : Bool) :
    let limit := if a = 0 ∧ first = false then min d.limit d.running else d.running + issue
    s.authorise n issue a f restricted first =
      (withDelivery s n
        { d with limit := limit, factor := some f, restrictedAtAuth := restricted, wait := none }).postTo
        (s.config.nozzles.read n).owner (.deliveryStage (.authorised d.ticket limit (some f))) := by
  simp only [State.authorise, delivery_of_ctx hd, modDelivery_eq hd]
  rfl

theorem awaitGrant_eq {l : LineId} {r : MachineRecord} (hl : d.line = some l) (hr : s.recordAt l = some r)
    (w : WaitTerms) : s.awaitGrant n w =
      ({ s.modCtx n (fun y => { y with state := .awaitGrant, grant := some s.config.authorisation.grantTimer,
                                       delivery := some { d with wait := some w } }) with
        expired := s.expired.filter fun x => !decide (x = d.ticket) } : State).postRole .fleet (.grantWanted
          { ticket := d.ticket, fleet := d.fleet, cls := r.cls, name := (s.config.classes.read r.cls).name, nozzle := n,
            tank := d.tank, tier := (s.tank d.tank).tier, restricted := w.restricted, first := w.first,
            netSoFar := d.running, a := w.a, b := w.b, shortfall := min w.a (s.stockTerm n) - w.b,
            timer := s.config.authorisation.grantTimer }) := by
  have hctx : s.modCtx n (fun c => { c with
        state := .awaitGrant, grant := some s.config.authorisation.grantTimer,
        delivery := c.delivery.map fun d => { d with wait := some w } }) =
      s.modCtx n fun c => { c with
        state := .awaitGrant, grant := some s.config.authorisation.grantTimer,
        delivery := some { d with wait := some w } } := modCtx_congr (by rw [hd]; rfl)
  have hrecord : s.pinnedRecord n = some r := by simp only [State.pinnedRecord, delivery_of_ctx hd, hl, hr]
  simp only [State.awaitGrant, State.grantWanted, hrecord, delivery_of_ctx hd, hctx]
  rfl

theorem refuseAuth_first (why : Reason) : s.refuseAuth n why true =
    (withDelivery s n { d with wait := none, refusal := some why }).finishNozzle n .refused := by
  simp only [State.refuseAuth, if_true, State.finishRefused, State.modDelivery, State.modCtx_modCtx]
  exact congrArg (fun y : State => y.finishNozzle n .refused) (modCtx_congr (by rw [hd]; rfl))

theorem refuseAuth_later (why : Reason) : s.refuseAuth n why false =
    ((withDelivery s n { d with wait := none }).postTo (s.config.nozzles.read n).owner
      (.deliveryStage (.authRefused d.ticket why d.limit))).enterHeld n .authRefused := by
  simp only [State.refuseAuth, delivery_of_ctx hd, modDelivery_eq hd, Bool.false_eq_true, if_false]
  rfl

end

/-! ### The decision of an AUTH step (R115) -/

/-- R161: a delivery as its AUTH step finds it, the requested amount recorded when the step is its first. -/
def authAsked (d : Delivery) (req : Requested) : Delivery :=
  if d.limit = 0 ∧ d.factor = none then { d with requested := some req } else d

theorem authAsked_frame (d : Delivery) (req : Requested) : (authAsked d req).line = d.line
    ∧ (authAsked d req).tank = d.tank ∧ (authAsked d req).running = d.running := by
  unfold authAsked
  split <;> exact ⟨rfl, rfl, rfl⟩

section
variable {s : State} {n : NozzleId}

theorem ctx_withDelivery (d : Delivery) (m : NozzleId) :
    (withDelivery s n d).ctx m = if m = n then { s.ctx n with delivery := some d } else s.ctx m := State.ctx_modCtx ..

theorem delivery_withDelivery (d : Delivery) : (withDelivery s n d).delivery n = d :=
  delivery_of_ctx (by rw [ctx_withDelivery, if_pos rfl])

/-- R113: what a nozzle's own delivery says is nothing to the other deliveries' limits. -/
theorem otherLimits_withDelivery (d : Delivery) (t : TankId) :
    (withDelivery s n d).otherLimits n t = s.otherLimits n t := by
  rw [otherLimits_eq, otherLimits_eq]
  refine congrArg (· + _) (Finset.sum_congr rfl fun m _ => ?_)
  by_cases hm : m = n
  · rw [if_neg fun h => h.1 hm, if_neg fun h => h.1 hm]
  · have hctx : (withDelivery s n d).ctx m = s.ctx m := (ctx_withDelivery d m).trans (if_neg hm)
    have hdelivery : (withDelivery s n d).delivery m = s.delivery m := by rw [State.delivery, hctx, State.delivery]
    exact if_congr (by rw [hctx, hdelivery]) (by rw [hdelivery]) rfl

theorem effective_withDelivery {d d' : Delivery} (htank : d'.tank = d.tank) (c : ClassId) (allowance : Nat) :
    effective (withDelivery s n d').config.authorisation ((withDelivery s n d').classConfig c)
      ((withDelivery s n d').tank d'.tank).tier allowance =
    effective s.config.authorisation (s.config.classes.read c) (s.tank d.tank).tier allowance := by
  rw [htank]
  rfl

variable {d : Delivery} (hd : (s.ctx n).delivery = some d)
include hd

theorem stockTerm_withDelivery {d' : Delivery} (htank : d'.tank = d.tank) (hrun : d'.running = d.running) :
    (withDelivery s n d').stockTerm n = s.stockTerm n := by
  have hd' : ((withDelivery s n d').ctx n).delivery = some d' := by rw [ctx_withDelivery, if_pos rfl]
  rw [stockTerm_eq hd', stockTerm_eq hd, otherLimits_withDelivery, htank, hrun]
  rfl

/-- R161: the part as the decision finds it. -/
theorem asked_eq (req : Requested) : (if decide (d.limit = 0 ∧ d.factor = none) = true then
      s.modDelivery n fun d => { d with requested := some req } else s) = withDelivery s n (authAsked d req) := by
  by_cases h : d.limit = 0 ∧ d.factor = none
  · rw [if_pos (decide_eq_true h), authAsked, if_pos h, modDelivery_eq hd]
  · have hself : withDelivery s n d = s := by
      rw [withDelivery, State.modCtx, ← hd]
      exact congrArg (fun x => { s with nozzles := x }) (write_read s.nozzles n)
    rw [if_neg (by simpa using h), authAsked, if_neg h, hself]

variable {l : LineId} {r : MachineRecord} (hl : d.line = some l) (hr : s.recordAt l = some r)
include hl hr

omit hd in
theorem pinnedRecord_asked (req : Requested) : (withDelivery s n (authAsked d req)).pinnedRecord n = some r := by
  have ⟨hline, _, _⟩ := authAsked_frame d req
  rw [State.pinnedRecord, delivery_withDelivery]
  simp only [hline, hl]
  exact hr

theorem authStep_reserved {req : Requested}
    (he : effective s.config.authorisation (s.config.classes.read r.cls) (s.tank d.tank).tier r.allowance = none) :
    s.authStep n req =
      (withDelivery s n (authAsked d req), .refused .reserveOnly (decide (d.limit = 0 ∧ d.factor = none))) := by
  have ⟨_, htank, _⟩ := authAsked_frame d req
  simp only [State.authStep, asked_eq hd, pinnedRecord_asked hl hr, delivery_withDelivery, effective_withDelivery htank,
    he, delivery_of_ctx hd, firstAuth_eq]

theorem authStep_capped {req : Requested} {e cap c : Nat} {name : Factor}
    (he : effective s.config.authorisation (s.config.classes.read r.cls) (s.tank d.tank).tier r.allowance = some e)
    (hcap : capOf (s.config.classes.read r.cls) r.restricted e = (cap, name)) (hc : s.stockTerm n = c) :
    let cls := s.config.classes.read r.cls
    let set := s.config.authorisation
    let first := decide (d.limit = 0 ∧ d.factor = none)
    let asked := withDelivery s n (authAsked d req)
    let a := requestTerm req r.capacity d.running
    let b := allowanceTerm cap (usedNow s.clock.shift r) d.running
    let g := min a (min b c)
    s.authStep n req =
      if b < min a c ∧ cls.grantEligible ∧ set.grantsEnabled then
        (asked.awaitGrant n { a := a, b := b, name := name, restricted := r.restricted, first := first }, .deferred)
      else if set.minIssue ≤ g ∨ g = a then
        (asked.authorise n g a (factorOf g a b name) r.restricted first, .authorised)
      else (asked, .refused (refusalOf g (factorOf g a b name)) first) := by
  have ⟨_, htank, hrun⟩ := authAsked_frame d req
  have hcap' : capOf ((withDelivery s n (authAsked d req)).classConfig r.cls) r.restricted e = (cap, name) := hcap
  simp only [State.authStep, asked_eq hd, pinnedRecord_asked hl hr, delivery_withDelivery, effective_withDelivery htank,
    he, hcap', delivery_of_ctx hd, firstAuth_eq, stockTerm_withDelivery hd htank hrun, hrun, hc]
  rfl

end

/-- Settles O42: the terms are the laws above, and the decision is `authStep_capped` read clause by clause, or
`authStep_reserved` where the tier leaves no allowance. -/
theorem authStepDecides : Obligations.AuthStepDecides := by
  intro n req d l r s hd hl hr cls set first asked e cap name wanted a b tank usable others c g factor now owner
  have hc : s.stockTerm n = c := by
    rw [stockTerm_eq hd, otherLimits_eq]
    simp only [parkedLimit_eq]
    rfl
  have hasked : asked = withDelivery s n (authAsked d req) := by
    rw [← asked_eq hd, modDelivery_eq hd]
    rfl
  have hcap : capOf cls r.restricted e = (cap, name) := capOf_eq ..
  refine ⟨hc, authorise_eq hd, fun w => ?_, fun why => ⟨refuseAuth_first hd why, refuseAuth_later hd why⟩,
    fun htier hess => ?_, fun htier => ?_⟩
  · rw [awaitGrant_eq hd hl hr, hc]
  · rw [hasked]
    refine authStep_reserved hd hl hr ?_
    rw [htier]
    exact if_neg (by simpa using hess)
  · have he : effective set cls tank.tier r.allowance = some e := effective_some htier r.allowance
    have hstep : s.authStep n req =
        if b < min a c ∧ cls.grantEligible ∧ set.grantsEnabled then
          (asked.awaitGrant n { a := a, b := b, name := name, restricted := r.restricted, first := first }, .deferred)
        else if set.minIssue ≤ g ∨ g = a then (asked.authorise n g a factor r.restricted first, .authorised)
        else (asked, .refused (refusalOf g factor) first) := by
      rw [hasked]
      exact authStep_capped hd hl hr he hcap hc
    have hnow (h : min a c ≤ b ∨ cls.grantEligible = false ∨ set.grantsEnabled = false) :
        ¬ (b < min a c ∧ cls.grantEligible = true ∧ set.grantsEnabled = true) := by
      rintro ⟨hlt, helig, hon⟩
      rw [helig, hon] at h
      exact h.elim (fun hle => absurd hlt (not_lt.2 hle)) fun hb => hb.elim Bool.noConfusion Bool.noConfusion
    refine ⟨fun hlt helig hon => ?_, fun h hg => ?_, fun h hlow hne => ?_⟩
    · rw [hstep, if_pos ⟨hlt, helig, hon⟩]
    · rw [hstep, if_neg (hnow h), if_pos hg]
    · rw [hstep, if_neg (hnow h), if_neg (not_or.2 ⟨not_le.2 hlow, hne⟩), refusalOf_eq]

end Sys2Proof.Proofs

namespace Sys2Proof.Proofs
open Sys2Proof Sys2Proof.Machine

/-! ### The park table (R125, R128, R129) -/

theorem allSlots_sorted : allSlots.Pairwise (· < ·) := by decide
theorem mem_allSlots (k : ParkId) : k ∈ allSlots := by revert k; decide

section
variable {s : State}

theorem freePark_eq_some_iff (k : ParkId) :
    s.freePark = some k ↔ s.slot k = .empty ∧ ∀ j, j < k → s.slot j ≠ .empty := by
  simp only [State.freePark, find?_eq_some_of_sorted allSlots_sorted mem_allSlots, decide_eq_true_eq,
    decide_eq_false_iff_not, ne_eq]

theorem reservedFor_eq_some_iff (n : NozzleId) (k : ParkId) :
    s.reservedFor n = some k ↔ s.slot k = .reserved n ∧ ∀ j, j < k → s.slot j ≠ .reserved n := by
  simp only [State.reservedFor, find?_eq_some_of_sorted allSlots_sorted mem_allSlots, decide_eq_true_eq,
    decide_eq_false_iff_not, ne_eq]

/-! ### Timers of deliveries that have run out (R94, R96, R102, R131) -/

theorem ready_of_up (h : s.Up) : s.ready = true := decide_eq_true h.2

theorem exec_stallTimerExpiry (h : s.Up) {n : NozzleId} (ht : (s.ctx n).stall = some 0) :
    exec (.stallTimerExpiry n) s = .next (s.stopFlow n .stalled).startStore :=
  event_of_due (c := fun x => x.ready ∧ (x.ctx n).stall = some 0) (g := fun x => x.stopFlow n .stalled) h
    ⟨ready_of_up h, ht⟩ ((Within.refl s).stopFlow ..)

theorem exec_drainSettleExpiry (h : s.Up) {n : NozzleId} (ht : (s.ctx n).drain = some 0) :
    exec (.drainSettleExpiry n) s = .next (s.drainSettled n).startStore :=
  event_of_due (c := fun x => x.ready ∧ (x.ctx n).drain = some 0) (g := fun x => x.drainSettled n) h
    ⟨ready_of_up h, ht⟩ ((Within.refl s).drainSettled n)

theorem exec_holdTimerExpiry (h : s.Up) {n : NozzleId} (ht : (s.ctx n).hold = some 0) :
    exec (.holdTimerExpiry n) s = .next (s.holdExpired n).startStore :=
  event_of_due (c := fun x => x.ready ∧ (x.ctx n).hold = some 0) (g := fun x => x.holdExpired n) h
    ⟨ready_of_up h, ht⟩ ((Within.refl s).holdExpired n)

theorem exec_parkTimerExpiry (h : s.Up) (k : ParkId) :
    exec (.parkTimerExpiry k) s = .next (s.parkExpires k).startStore :=
  event_of_due (c := fun x => x.ready = true) (g := fun x => x.parkExpires k) h (ready_of_up h)
    ((Within.refl s).parkExpires k)

/-! ### A hold that has expired (R102) -/

section
variable {n : NozzleId} {d : Delivery} (hd : (s.ctx n).delivery = some d)
include hd

theorem holdExpired_parked {k : ParkId} (hlegs : d.legs.length < 4) (hk : s.freePark = some k) :
    s.holdExpired n = s.moveToPark n k .holdExpired := by
  simp only [State.holdExpired, delivery_of_ctx hd, if_pos hlegs, hk]

theorem holdExpired_finished (h : 4 ≤ d.legs.length ∨ s.freePark = none) :
    s.holdExpired n = s.finishNozzle n .expired := by
  simp only [State.holdExpired, delivery_of_ctx hd]
  split
  · next hlegs => simp only [h.resolve_left (Nat.not_le.2 hlegs)]
  · rfl

end

/-- R131: the delivery of a park slot whose timer stands at 0 finishes there. -/
theorem parkExpires_due {k : ParkId} {x : Parked} (hx : s.slot k = .holding x) (ht : x.timer = 0) :
    s.parkExpires k = s.finishParked k x .expired := by
  simp only [State.parkExpires, hx, if_pos ht]

end

/-- Settles O35: the slots are the first found in ascending order; an expiry that is due is its block's own law. -/
theorem holdsAndParksExpire : Obligations.HoldsAndParksExpire := by
  intro s h
  refine ⟨freePark_eq_some_iff, reservedFor_eq_some_iff, fun n k why => rfl, fun n d ht hd => ⟨fun k hlegs hk => ?_,
    fun hend => ?_⟩, fun k x hx ht => ?_⟩
  · rw [exec_holdTimerExpiry h ht, holdExpired_parked hd hlegs hk, State.moveToPark, delivery_of_ctx hd]
    rfl
  · rw [exec_holdTimerExpiry h ht, holdExpired_finished hd hend]
  · rw [exec_parkTimerExpiry h, parkExpires_due hx ht]
    rfl

end Sys2Proof.Proofs

namespace Sys2Proof.Proofs
open Sys2Proof Sys2Proof.Machine

/-! ### The set of pending faults (R98) -/

theorem has_add (f g : PendingFault) (x : FaultSet) : (x.add f).has g = (decide (g = f) || x.has g) := by
  cases f <;> cases g <;> rfl

theorem has_add_iff (f g : PendingFault) (x : FaultSet) : (x.add f).has g = true ↔ g = f ∨ x.has g = true := by
  rw [has_add, Bool.or_eq_true, decide_eq_true_eq]

/-! ### A step list carried on (R84) -/

section
variable {s y : State} {n : NozzleId} {k : Nat} {rest : List Step} {req : Requested}

theorem runFrom_auth_authorised (h : (s.modCtx n fun c => { c with pointer := k }).authStep n req = (y, .authorised)) :
    s.runFrom n k (.auth req :: rest) = y.runFrom n (k + 1) rest := by
  simp only [State.runFrom, h]

theorem runFrom_auth_deferred (h : (s.modCtx n fun c => { c with pointer := k }).authStep n req = (y, .deferred)) :
    s.runFrom n k (.auth req :: rest) = y := by
  simp only [State.runFrom, h]

theorem runFrom_auth_refused {why : Reason} {first : Bool}
    (h : (s.modCtx n fun c => { c with pointer := k }).authStep n req = (y, .refused why first)) :
    s.runFrom n k (.auth req :: rest) = y.refuseAuth n why first := by
  simp only [State.runFrom, h]

theorem runFrom_run (a : Nat) :
    s.runFrom n k (.run a :: rest) = (s.modCtx n fun c => { c with pointer := k }).beginRun n := rfl

theorem runFrom_hold :
    s.runFrom n k (.hold :: rest) = (s.modCtx n fun c => { c with pointer := k }).enterHeld n .hold := rfl

theorem runFrom_finish :
    s.runFrom n k (.finish :: rest) = (s.modCtx n fun c => { c with pointer := k }).finishNozzle n .complete := rfl

/-- R97: a HOLD that closes the list, met after the step under way. -/
theorem runRest_closing_hold (h : (s.ctx n).steps.drop ((s.ctx n).pointer + 1) = [.hold]) :
    s.runRest n = (s.modCtx n fun c => { c with pointer := c.pointer + 1 }).enterHeld n .hold := by
  rw [State.runRest, h, runFrom_hold]
  exact congrArg (fun x : State => x.enterHeld n .hold) (modCtx_congr rfl)

end

/-! ### A drain that has settled (R96, R97, R128) -/

section
variable {s : State} {n : NozzleId}

/-- R97: a RUN that ended TARGET, LIMIT or STOPPED goes on with the list. -/
theorem goOn_of_mem {r : RunEnd} (h : r ∈ [RunEnd.target, .limit, .stopped]) : s.goOn n r = s.runRest n := by
  simp only [List.mem_cons, List.not_mem_nil, or_false] at h
  rcases h with rfl | rfl | rfl <;> rfl

theorem drainSettled_abort (h : (s.ctx n).move = .abort) :
    s.drainSettled n = (s.modCtx n fun c => { c with drain := none }).finishNozzle n .aborted := by
  simp only [State.drainSettled, h]

theorem drainSettled_park {k : ParkId} (h : (s.ctx n).move = .park) (hk : s.reservedFor n = some k) :
    s.drainSettled n = ((s.modCtx n fun c => { c with drain := none }).addEndFault n).moveToPark n k .preempt := by
  have hk' : (s.modCtx n fun c => { c with drain := none }).reservedFor n = some k := hk
  simp only [State.drainSettled, h, hk']

theorem drainSettled_goOn {r : RunEnd} (h : (s.ctx n).move = .none) (hr : (s.ctx n).endReason = some r) :
    s.drainSettled n = (s.modCtx n fun c => { c with drain := none, endReason := none }).goOn n r := by
  simp only [State.drainSettled, h, hr, Option.getD_some, State.modCtx_modCtx]

end

/-- Settles O34: an expiry that is due is its block's own law, and `drainSettled` goes on by the pending move, then by
the reason. -/
theorem stallsAndDrainsEnd : Obligations.StallsAndDrainsEnd := by
  intro n s h
  refine ⟨fun cause => rfl, fun f => ⟨rfl, fun x g => has_add_iff f g x⟩, exec_stallTimerExpiry h, fun ht => ?_⟩
  intro still done
  rw [exec_drainSettleExpiry h ht]
  refine ⟨fun hm => ?_, fun k r hm hk hr => ?_, fun r hm hr hin => ?_, fun hm hr => ?_, fun r hm hr hin hrest => ?_,
    fun hm hr => ?_, fun hm hr => ?_⟩
  · rw [drainSettled_abort hm]
  · rw [drainSettled_park hm hk, State.addEndFault, State.ctx_modCtx_self, hr]
    cases r <;> rfl
  · rw [drainSettled_goOn hm hr, goOn_of_mem hin]
  · rw [drainSettled_goOn hm hr]
    rfl
  · rw [drainSettled_goOn hm hr, goOn_of_mem hin, runRest_closing_hold]
    rw [State.ctx_modCtx_self]
    exact hrest
  · rw [drainSettled_goOn hm hr]
    rfl
  · rw [drainSettled_goOn hm hr]
    rfl

end Sys2Proof.Proofs

namespace Sys2Proof.Proofs
open Sys2Proof Sys2Proof.Machine

/-! ### The steps of a list and their figures (R82) -/

/-- R82, R191: a step of a STEPS request and the step its figures stand for. -/
def StepMeans (r : RawStep) (x : Step) : Prop :=
  (∃ f t v, r = .ident f t v ∧ 1 ≤ f ∧ f ≤ 9999 ∧ v ≤ 1 ∧ x = .ident f t (decide (v = 1)))
  ∨ (r = .auth 0 ∧ x = .auth .fill)
  ∨ (∃ a, 1 ≤ a ∧ a ≤ 4294967295 ∧ r = .auth a ∧ x = .auth (.amount a))
  ∨ (∃ a, a ≤ 2500000 ∧ r = .run a ∧ x = .run a)
  ∨ (r = .hold ∧ x = .hold) ∨ (r = .finish ∧ x = .finish)

theorem stepOf_ident_iff (f : Nat) (t : Word32) (v : Nat) (x : Step) : stepOf (.ident f t v) = some x ↔
    1 ≤ f ∧ f ≤ 9999 ∧ v ≤ 1 ∧ x = .ident f t (decide (v = 1)) := by
  by_cases hf : 1 ≤ f ∧ f ≤ 9999
  · obtain ⟨h1, h2⟩ := hf
    simp only [stepOf, fleetOk_of_range h1 h2, if_true, Option.map_eq_some_iff, flagOf_eq_some_iff, h1, h2, true_and]
    refine ⟨fun ⟨b, ⟨hv, hb⟩, hx⟩ => ⟨hv, by rw [← hx, hb]⟩, fun ⟨hv, hx⟩ => ⟨_, ⟨hv, rfl⟩, hx.symm⟩⟩
  · have hbad : fleetOk f = false := decide_eq_false hf
    simp only [stepOf, hbad, Bool.false_eq_true, if_false]
    exact iff_of_false (by simp) fun ⟨h1, h2, _⟩ => hf ⟨h1, h2⟩

theorem stepOf_auth_iff (a : Nat) (x : Step) : stepOf (.auth a) = some x ↔
    a = 0 ∧ x = .auth .fill ∨ 1 ≤ a ∧ a ≤ 4294967295 ∧ x = .auth (.amount a) := by
  by_cases ha : a = 0
  · subst ha
    simp [stepOf, eq_comm]
  · rw [stepOf, if_neg ha]
    simp only [Option.map_eq_some_iff, inRange_iff, figureIn, ha, false_and, false_or]
    exact ⟨fun ⟨b, ⟨h1, h2, hb⟩, hx⟩ => ⟨h1, h2, by rw [← hx, hb]⟩, fun ⟨h1, h2, hx⟩ => ⟨a, ⟨h1, h2, rfl⟩, hx.symm⟩⟩

theorem stepOf_run_iff (a : Nat) (x : Step) : stepOf (.run a) = some x ↔ a ≤ 2500000 ∧ x = .run a := by
  simp only [stepOf, Option.map_eq_some_iff, inRange_iff, figureIn]
  exact ⟨fun ⟨b, ⟨_, h, hb⟩, hx⟩ => ⟨h, by rw [← hx, hb]⟩, fun ⟨h, hx⟩ => ⟨a, ⟨Nat.zero_le a, h, rfl⟩, hx.symm⟩⟩

theorem stepOf_eq_some_iff (r : RawStep) (x : Step) : stepOf r = some x ↔ StepMeans r x := by
  cases r with
  | ident f t v => rw [stepOf_ident_iff]; simp [StepMeans]
  | auth a => rw [stepOf_auth_iff]; simp [StepMeans]
  | run a => rw [stepOf_run_iff]; simp [StepMeans]
  | hold => simp [StepMeans, stepOf, eq_comm]
  | finish => simp [StepMeans, stepOf, eq_comm]
  | other k => simp [StepMeans, stepOf]

theorem stepsOf_eq_some_iff (raw : List RawStep) (l : List Step) :
    stepsOf raw = some l ↔ List.Forall₂ StepMeans raw l := by
  induction raw generalizing l with
  | nil => simp [stepsOf, eq_comm]
  | cons r rs ih =>
    rw [List.forall₂_cons_left_iff]
    simp only [← stepOf_eq_some_iff, ← ih, stepsOf]
    cases stepOf r <;> cases stepsOf rs <;> simp [eq_comm]

/-! ### Valid lists (R82) -/

theorem isEnd_iff (x : Step) : x.isEnd = true ↔ x = .hold ∨ x = .finish := by cases x <;> simp [Step.isEnd]

theorem isIdent_iff (x : Step) : x.isIdent = true ↔ ∃ f t v, x = .ident f t v := by cases x <;> simp [Step.isIdent]

/-- What holds of every entry of a list with one more at its end. -/
theorem forall_getElem?_concat {P : Nat → Step → Prop} (xs : List Step) (y : Step) :
    (∀ i x, (xs ++ [y])[i]? = some x → P i x) ↔ (∀ i x, xs[i]? = some x → P i x) ∧ P xs.length y := by
  refine ⟨fun h => ⟨fun i x hx => h i x ?_, h _ _ List.getElem?_concat_length⟩, fun ⟨hxs, hy⟩ i x hx => ?_⟩
  · rw [List.getElem?_append_left (List.getElem?_eq_some_iff.1 hx).1, hx]
  · by_cases hi : i < xs.length
    · exact hxs i x (by rwa [List.getElem?_append_left hi] at hx)
    · have hlt := (List.getElem?_eq_some_iff.1 hx).1
      rw [List.length_append, List.length_singleton] at hlt
      obtain rfl : i = xs.length := by omega
      rw [List.getElem?_concat_length, Option.some_inj] at hx
      exact hx ▸ hy

theorem wellEnded_iff (l : List Step) : wellEnded l = true ↔
    1 ≤ l.length ∧ l.length ≤ 8 ∧ ∀ i x, l[i]? = some x → ((x = .hold ∨ x = .finish) ↔ i + 1 = l.length) := by
  rcases List.eq_nil_or_concat' l with rfl | ⟨xs, y, rfl⟩
  · simp [wellEnded]
  · have hinner : (∀ i x, xs[i]? = some x → (x.isEnd = true ↔ i + 1 = (xs ++ [y]).length)) ↔
        ∀ x ∈ xs, x.isEnd = false := by
      rw [List.length_append, List.length_singleton]
      refine ⟨fun h x hx => ?_, fun h i x hx => ?_⟩
      · obtain ⟨i, hi, rfl⟩ := List.mem_iff_getElem.1 hx
        have hend := h i _ (List.getElem?_eq_getElem hi)
        exact Bool.eq_false_iff.2 fun he => absurd (hend.1 he) (by omega)
      · have hi := (List.getElem?_eq_some_iff.1 hx).1
        exact iff_of_false (by rw [h x (List.mem_of_getElem? hx)]; exact Bool.noConfusion) (by omega)
    simp only [← isEnd_iff, forall_getElem?_concat, hinner]
    simp only [wellEnded, List.getLast?_concat, List.dropLast_concat, Option.map_some, Option.getD_some,
      Bool.and_eq_true, decide_eq_true_eq, List.all_eq_true, Bool.not_eq_true', List.length_append, List.length_singleton, iff_true]
    exact ⟨fun ⟨⟨⟨h1, h8⟩, hy⟩, hxs⟩ => ⟨h1, h8, hxs, hy⟩, fun ⟨h1, h8, hxs, hy⟩ => ⟨⟨⟨h1, h8⟩, hy⟩, hxs⟩⟩

/-- R82: no step of a list is an IDENT. -/
theorem all_not_isIdent_iff (l : List Step) :
    (l.all fun x => !x.isIdent) = true ↔ ∀ (i : Nat) f t v, l[i]? ≠ some (Step.ident f t v) := by
  simp only [List.all_eq_true, Bool.not_eq_true', Bool.eq_false_iff, ne_eq, isIdent_iff]
  refine ⟨fun h i f t v hx => h _ (List.mem_of_getElem? hx) ⟨f, t, v, rfl⟩, fun h x hx ⟨f, t, v, he⟩ => ?_⟩
  obtain ⟨i, hi⟩ := List.mem_iff_getElem?.1 hx
  exact h i f t v (he ▸ hi)

theorem validLater_iff (l : List Step) : validLater l = true ↔
    wellEnded l = true ∧ ∀ (i : Nat) f t v, l[i]? ≠ some (Step.ident f t v) := by
  rw [validLater, Bool.and_eq_true, all_not_isIdent_iff]

theorem validFirst_identAuth (f : Nat) (t : Word32) (v : Bool) (a : Requested) (rest : List Step) :
    validFirst (.ident f t v :: .auth a :: rest) = true ↔ wellEnded (.ident f t v :: .auth a :: rest) = true
      ∧ (rest.all fun x => !x.isIdent) = true := by
  rw [validFirst, Bool.and_eq_true]

/-- R82: a list that begins IDENT, AUTH. -/
theorem begins_identAuth_iff (l : List Step) :
    ((∃ f t v, l[0]? = some (.ident f t v)) ∧ ∃ a, l[1]? = some (.auth a)) ↔
      ∃ f t v a rest, l = .ident f t v :: .auth a :: rest := by
  match l with
  | [] => simp
  | [x] => simp
  | x :: y :: rest => simp

theorem validFirst_iff (l : List Step) : validFirst l = true ↔ wellEnded l = true
    ∧ ((∃ f t v, l[0]? = some (.ident f t v)) ∧ ∃ a, l[1]? = some (.auth a))
    ∧ ∀ i f t v, l[i]? = some (.ident f t v) → i = 0 := by
  rw [begins_identAuth_iff]
  by_cases hl : ∃ f t v a rest, l = .ident f t v :: .auth a :: rest
  · obtain ⟨f, t, v, a, rest, rfl⟩ := hl
    rw [validFirst_identAuth, all_not_isIdent_iff]
    refine and_congr_right fun _ => ⟨fun h => ⟨⟨f, t, v, a, rest, rfl⟩, fun i f' t' v' hx => ?_⟩,
      fun ⟨_, h⟩ i f' t' v' hx => absurd (h (i + 2) f' t' v' hx) (by omega)⟩
    match i, hx with
    | 0, _ => rfl
    | i + 2, hx => exact absurd hx (h i f' t' v')
  · refine iff_of_false (fun hv => ?_) fun ⟨_, hbegins, _⟩ => hl hbegins
    unfold validFirst at hv
    obtain ⟨-, hmatch⟩ := Bool.and_eq_true_iff.1 hv
    split at hmatch
    · exact hl ⟨_, _, _, _, _, rfl⟩
    · exact Bool.noConfusion hmatch

theorem loadedList_eq_some_iff (first : Bool) (raw : List RawStep) (l : List Step) : loadedList first raw = some l ↔
    List.Forall₂ StepMeans raw l ∧ (if first then validFirst l else validLater l) = true := by
  rw [← stepsOf_eq_some_iff, loadedList]
  cases hs : stepsOf raw with
  | none => simp
  | some l' =>
    simp only [Option.ite_none_right_eq_some, Option.some_inj]
    exact ⟨fun ⟨hv, hl⟩ => ⟨hl, hl ▸ hv⟩, fun ⟨hl, hv⟩ => ⟨hl.symm ▸ hv, hl⟩⟩

/-- R82, R83: the lists that are loaded. -/
theorem loadedList_iff (first : Bool) (raw : List RawStep) (l : List Step) : loadedList first raw = some l ↔
    1 ≤ l.length ∧ l.length ≤ 8 ∧ List.Forall₂ StepMeans raw l
    ∧ (∀ i x, l[i]? = some x → ((x = .hold ∨ x = .finish) ↔ i + 1 = l.length))
    ∧ (first = true → (∃ f t v, l[0]? = some (.ident f t v)) ∧ (∃ a, l[1]? = some (.auth a)))
    ∧ (∀ i f t v, l[i]? = some (.ident f t v) → first = true ∧ i = 0) := by
  rw [loadedList_eq_some_iff]
  cases first with
  | true =>
    rw [if_pos rfl, validFirst_iff, wellEnded_iff]
    simp only [true_imp_iff, true_and]
    tauto
  | false =>
    rw [if_neg Bool.false_ne_true, validLater_iff, wellEnded_iff]
    simp only [Bool.false_eq_true, false_imp_iff, false_and, imp_false, true_and]
    tauto

/-! ### STEPS by the state of its nozzle (R83) -/

section
variable {s : State} {n : NozzleId} (p : Port) (tag : Byte) (raw : List RawStep)

theorem loadSteps_free_loaded {l : List Step} (hx : (s.ctx n).state = .free)
    (he : (s.config.nozzles.read n).enabled = true) (hl : loadedList true raw = some l) : s.loadSteps p tag raw n =
      (s.modCtx n fun _ => { freeContext with state := .loaded, steps := l }).reply p .steps tag .ok .nothing := by
  have he' : (s.nozzleConfig n).enabled = true := he
  simp only [State.loadSteps, hx, he', hl, if_true]

theorem loadSteps_held_loaded {l : List Step} (hx : (s.ctx n).state = .held) (hl : loadedList false raw = some l) :
    s.loadSteps p tag raw n =
      (s.modCtx n fun c => { c with steps := l, pointer := 0 }).reply p .steps tag .ok .nothing := by
  simp only [State.loadSteps, hx, hl]

theorem loadSteps_badList (h : (s.ctx n).state = .free ∧ (s.config.nozzles.read n).enabled = true
      ∧ loadedList true raw = none ∨ (s.ctx n).state = .held ∧ loadedList false raw = none) :
    s.loadSteps p tag raw n = s.reply p .steps tag .badList .nothing := by
  rcases h with ⟨hx, he, hl⟩ | ⟨hx, hl⟩
  · have he' : (s.nozzleConfig n).enabled = true := he
    simp only [State.loadSteps, hx, he', hl, if_true]
  · simp only [State.loadSteps, hx, hl]

theorem loadSteps_nozzleState (h : (s.ctx n).state = .free ∧ (s.config.nozzles.read n).enabled = false
      ∨ (s.ctx n).state ≠ .free ∧ (s.ctx n).state ≠ .held) :
    s.loadSteps p tag raw n = s.reply p .steps tag .nozzleState .nothing := by
  rcases h with ⟨hx, he⟩ | ⟨hf, hh⟩
  · have he' : (s.nozzleConfig n).enabled = false := he
    simp only [State.loadSteps, hx, he', Bool.false_eq_true, if_false]
  · cases hx : (s.ctx n).state with
    | free => exact absurd hx hf
    | held => exact absurd hx hh
    | _ => simp only [State.loadSteps, hx]

end

/-! ### The island port's requests for its nozzle (R168, R170) -/

section
variable {s y : State} {p : Port} {tag : Byte} {n : NozzleId} {code : ReqCode} {i : Instr}

theorem withNozzle_succ (x : State) (f : NozzleId → State) : x.withNozzle p code tag (n.val + 1) f = f n := by
  simp only [State.withNozzle, fromOne_succ]

/-- A request of the island port that owns the nozzle, in terms of what its block makes of the part. -/
theorem exec_ofIsland {b : State → NozzleId → State} (h : s.Accepts p) (hi : s.role p = .island)
    (ho : (s.config.nozzles.read n).owner = p) (hc : code.ofIsland = true)
    (he : exec i s = s.event fun x => x.admission p code tag (some (n.val + 1)) fun z =>
      z.withNozzle p code tag (n.val + 1) (b z))
    (hb : b (s.idleAssembler p) n = y) (hst : y.startUp = s.startUp) : exec i s = .next y.startStore := by
  have hwith : (s.idleAssembler p).withNozzle p code tag (n.val + 1) (b (s.idleAssembler p)) = y := by
    rw [withNozzle_succ, hb]
  rw [he, event_accepts h (permits_island hi ho hc), hwith]
  rw [hwith, hst]
  exact h.1.2

/-- One that its block answers at once. -/
theorem exec_ofIsland_answered {b : State → NozzleId → State} {st : Status} {f : Payload} (h : s.Accepts p)
    (hi : s.role p = .island) (ho : (s.config.nozzles.read n).owner = p) (hc : code.ofIsland = true)
    (he : exec i s = s.event fun x => x.admission p code tag (some (n.val + 1)) fun z =>
      z.withNozzle p code tag (n.val + 1) (b z))
    (hb : b (s.idleAssembler p) n = (s.idleAssembler p).reply p code tag st f) :
    exec i s = .next (s.answered p code tag st f).startStore := by
  have ⟨_, hline, _⟩ := h
  exact exec_ofIsland h hi ho hc he (hb.trans (reply_idleAssembler hline)) rfl

end

/-- Settles O39: a list is loaded when each of its steps is named and the whole is valid; the request is the law of
`loadSteps` for the state of its nozzle. -/
theorem stepsLoadTheirList : Obligations.StepsLoadTheirList := by
  refine ⟨loadedList_iff, fun p tag n raw s h hi ho => ⟨fun l hx he hl => ?_, fun l hx hl => ?_, fun hbad => ?_,
    fun hbad => ?_⟩⟩
  · have ⟨_, hline, _⟩ := h
    refine exec_ofIsland h hi ho rfl rfl
      ((loadSteps_free_loaded (s := s.idleAssembler p) p tag raw hx he hl).trans ?_) rfl
    exact reply_idleAssembler (s := s.modCtx n fun _ => { freeContext with state := .loaded, steps := l }) hline
  · have ⟨_, hline, _⟩ := h
    refine exec_ofIsland h hi ho rfl rfl
      ((loadSteps_held_loaded (s := s.idleAssembler p) p tag raw hx hl).trans ?_) rfl
    exact reply_idleAssembler (s := s.modCtx n fun c => { c with steps := l, pointer := 0 }) hline
  · exact exec_ofIsland_answered h hi ho rfl rfl (loadSteps_badList p tag raw hbad)
  · exact exec_ofIsland_answered h hi ho rfl rfl (loadSteps_nozzleState p tag raw hbad)

end Sys2Proof.Proofs

namespace Sys2Proof.Proofs
open Sys2Proof Sys2Proof.Machine

/-! ### STOP by the state of its nozzle (R99) -/

section
variable {s : State} {n : NozzleId} (p : Port) (tag : Byte)

theorem stopNozzle_flowing (hx : (s.ctx n).state ∈ [.proving, .flowFull, .flowSlow]) :
    s.stopNozzle p tag n = (s.stopFlow n .stopped).reply p .stop tag .ok .nothing := by
  simp only [List.mem_cons, List.not_mem_nil, or_false] at hx
  rcases hx with hx | hx | hx <;> simp only [State.stopNozzle, hx]

theorem stopNozzle_priming (hx : (s.ctx n).state = .priming) :
    s.stopNozzle p tag n = ((s.quitPriming n .stopped).runRest n).reply p .stop tag .ok .nothing := by
  simp only [State.stopNozzle, hx]
  rfl

theorem stopNozzle_refused (hx : (s.ctx n).state ∈ [.free, .loaded, .fetching, .awaitGrant, .draining, .held]) :
    s.stopNozzle p tag n = s.reply p .stop tag .nozzleState .nothing := by
  simp only [List.mem_cons, List.not_mem_nil, or_false] at hx
  rcases hx with hx | hx | hx | hx | hx | hx <;> simp only [State.stopNozzle, hx]

end

/-! ### ABORT by the state of its nozzle (R100) -/

section
variable {s : State} {n : NozzleId}

theorem recordAbort_unreserved (h : s.reservedFor n = none) :
    s.recordAbort n = s.modCtx n fun c => { c with move := .abort } := by
  have h' : (s.modCtx n fun c => { c with move := .abort }).reservedFor n = none := h
  simp only [State.recordAbort, State.unreserve, h']

theorem recordAbort_reserved {k : ParkId} (h : s.reservedFor n = some k) :
    s.recordAbort n = (s.modCtx n fun c => { c with move := .abort }).setSlot k .empty := by
  have h' : (s.modCtx n fun c => { c with move := .abort }).reservedFor n = some k := h
  simp only [State.recordAbort, State.unreserve, h']

theorem reservedFor_congr {t : State} (h : t.park = s.park) : t.reservedFor n = s.reservedFor n :=
  congrArg (fun v : Tab ParkSlot 4 => allSlots.find? fun k => decide (v.read k = .reserved n)) h

/-- R128: the end of a RUN keeps the park table. -/
theorem reservedFor_stopFlow (r : RunEnd) : (s.stopFlow n r).reservedFor n = s.reservedFor n := by
  have hpark (y : State) : (y.leftDemand n).park = y.park := by
    simp only [State.leftDemand, State.runOnPump]
    split
    · split <;> rfl
    · rfl
  exact reservedFor_congr (hpark _)

theorem abortNozzle_loaded (hx : (s.ctx n).state = .loaded) : s.abortNozzle n = s.modCtx n fun _ => freeContext := by
  simp only [State.abortNozzle, hx]

theorem abortNozzle_held (hx : (s.ctx n).state = .held) : s.abortNozzle n = s.finishNozzle n .aborted := by
  simp only [State.abortNozzle, hx]

theorem abortNozzle_fetching (hx : (s.ctx n).state = .fetching) :
    s.abortNozzle n = (s.withdrawRequester (.ident n)).finishNozzle n .aborted := by
  simp only [State.abortNozzle, hx]

theorem abortNozzle_waiting (hx : (s.ctx n).state = .awaitGrant) :
    s.abortNozzle n = ((s.modCtx n fun c => { c with grant := none }).postRole .fleet
      (.grantClosed (s.delivery n).ticket .aborted none none (s.delivery n).grantExtra)).finishNozzle n .aborted := by
  have hdelivery : (s.modCtx n fun c => { c with grant := none }).delivery n = s.delivery n := delivery_modCtx rfl n
  simp only [State.abortNozzle, hx, State.cancelWait, State.postClosed, hdelivery]

theorem abortNozzle_priming (hx : (s.ctx n).state = .priming) :
    s.abortNozzle n = (s.quitPriming n .aborted).finishNozzle n .aborted := by
  simp only [State.abortNozzle, hx]
  rfl

theorem abortNozzle_draining (hx : (s.ctx n).state = .draining) : s.abortNozzle n = s.recordAbort n := by
  simp only [State.abortNozzle, hx]

theorem abortNozzle_flowing (hx : (s.ctx n).state ∈ [.proving, .flowFull, .flowSlow]) (hk : s.reservedFor n = none) :
    s.abortNozzle n = (s.stopFlow n .aborted).modCtx n fun c => { c with move := .abort } := by
  rw [← recordAbort_unreserved ((reservedFor_stopFlow .aborted).trans hk)]
  simp only [List.mem_cons, List.not_mem_nil, or_false] at hx
  rcases hx with hx | hx | hx <;> simp only [State.abortNozzle, hx]

end

/-! ### CONTINUE by the state and the list of its nozzle (R102) -/

/-- R102: the part with nozzle `n` at the first step of its list, its hold over and the CONTINUE answered. -/
def listContinued (s : State) (p : Port) (tag : Byte) (n : NozzleId) : State :=
  (s.modCtx n fun c => { c with hold := none, pointer := 0 }).reply p .continueList tag .ok .nothing

section
variable {s : State} {n : NozzleId} (p : Port) (tag : Byte)

theorem continueNozzle_unheld (hx : (s.ctx n).state ≠ .held) :
    s.continueNozzle p tag n = s.reply p .continueList tag .nozzleState .nothing := if_neg hx

theorem continueNozzle_empty (hx : (s.ctx n).state = .held) (hsteps : (s.ctx n).steps = []) :
    s.continueNozzle p tag n = s.reply p .continueList tag .badList .nothing := (if_pos hx).trans (if_pos hsteps)

theorem continueNozzle_runs (hx : (s.ctx n).state = .held) (hsteps : (s.ctx n).steps ≠ []) : s.continueNozzle p tag n =
    ((s.modCtx n fun c => { c with hold := none }).reply p .continueList tag .ok .nothing).runAll n :=
  (if_pos hx).trans (if_neg hsteps)

section
variable (hx : (s.ctx n).state = .held)
include hx

/-- R84, R102: the list carried on from its first step. -/
theorem continueNozzle_from {x : Step} {rest : List Step} (hsteps : (s.ctx n).steps = x :: rest) :
    ∃ y : State, s.continueNozzle p tag n = y.runFrom n 0 (x :: rest)
      ∧ (y.modCtx n fun c => { c with pointer := 0 }) = listContinued s p tag n := by
  refine ⟨(s.modCtx n fun c => { c with hold := none }).reply p .continueList tag .ok .nothing, ?_, ?_⟩
  · rw [continueNozzle_runs p tag hx (by rw [hsteps]; exact List.cons_ne_nil x rest), State.runAll, State.ctx_reply,
      State.ctx_modCtx_self, hsteps]
  · exact congrArg (fun y : State => y.reply p .continueList tag .ok .nothing)
      (State.modCtx_modCtx s n (fun c => { c with hold := none }) fun c => { c with pointer := 0 })

theorem continueNozzle_run {a : Nat} {rest : List Step} (hsteps : (s.ctx n).steps = .run a :: rest) :
    s.continueNozzle p tag n = (listContinued s p tag n).beginRun n := by
  obtain ⟨y, hy, hon⟩ := continueNozzle_from p tag hx hsteps
  rw [hy, runFrom_run, hon]

theorem continueNozzle_hold {rest : List Step} (hsteps : (s.ctx n).steps = .hold :: rest) :
    s.continueNozzle p tag n = (listContinued s p tag n).enterHeld n .hold := by
  obtain ⟨y, hy, hon⟩ := continueNozzle_from p tag hx hsteps
  rw [hy, runFrom_hold, hon]

theorem continueNozzle_finish {rest : List Step} (hsteps : (s.ctx n).steps = .finish :: rest) :
    s.continueNozzle p tag n = (listContinued s p tag n).finishNozzle n .complete := by
  obtain ⟨y, hy, hon⟩ := continueNozzle_from p tag hx hsteps
  rw [hy, runFrom_finish, hon]

section
variable {req : Requested} {rest : List Step} {z : State} (hsteps : (s.ctx n).steps = .auth req :: rest)
include hsteps

theorem continueNozzle_authorised (hz : (listContinued s p tag n).authStep n req = (z, .authorised)) :
    s.continueNozzle p tag n = z.runFrom n 1 rest := by
  obtain ⟨y, hy, hon⟩ := continueNozzle_from p tag hx hsteps
  rw [hy, runFrom_auth_authorised (by rw [hon, hz])]

theorem continueNozzle_deferred (hz : (listContinued s p tag n).authStep n req = (z, .deferred)) :
    s.continueNozzle p tag n = z := by
  obtain ⟨y, hy, hon⟩ := continueNozzle_from p tag hx hsteps
  rw [hy, runFrom_auth_deferred (by rw [hon, hz])]

theorem continueNozzle_authRefused {why : Reason} {first : Bool}
    (hz : (listContinued s p tag n).authStep n req = (z, .refused why first)) :
    s.continueNozzle p tag n = z.refuseAuth n why first := by
  obtain ⟨y, hy, hon⟩ := continueNozzle_from p tag hx hsteps
  rw [hy, runFrom_auth_refused (by rw [hon, hz])]

end
end
end

/-! ### STOP, ABORT and CONTINUE as commands (R99, R100, R102) -/

section
variable {s : State} {p : Port} (tag : Byte) {n : NozzleId} (h : s.Accepts p) (hi : s.role p = .island)
  (ho : (s.config.nozzles.read n).owner = p)
include h hi ho

theorem exec_stop {y : State} (hy : (s.idleAssembler p).stopNozzle p tag n = y) :
    exec (.stop p tag (n.val + 1)) s = .next y.startStore :=
  exec_ofIsland h hi ho rfl rfl hy (hy ▸ ((Within.refl (fed := False) (s.idleAssembler p)).stopNozzle p tag n).startUp)

theorem exec_continueList {y : State} (hy : (s.idleAssembler p).continueNozzle p tag n = y) :
    exec (.continueList p tag (n.val + 1)) s = .next y.startStore :=
  exec_ofIsland h hi ho rfl rfl hy
    (hy ▸ ((Within.refl (fed := False) (s.idleAssembler p)).continueNozzle p tag n).startUp)

theorem exec_abort {y : State} (hx : (s.ctx n).state ≠ .free) (hy : (s.idleAssembler p).abortNozzle n = y) :
    exec (.abort p tag (n.val + 1)) s = .next (y.reply p .abort tag .ok .nothing).startStore := by
  subst hy
  exact exec_ofIsland (b := fun x n => if (x.ctx n).state = .free then x.reply p .abort tag .nozzleState .nothing
      else (x.abortNozzle n).reply p .abort tag .ok .nothing) h hi ho rfl rfl (if_neg hx)
    (((Within.refl (fed := False) (s.idleAssembler p)).abortNozzle n).reply p .abort tag .ok .nothing).startUp

theorem exec_abort_free (hx : (s.ctx n).state = .free) : exec (.abort p tag (n.val + 1)) s =
    .next (s.answered p .abort tag .nozzleState .nothing).startStore :=
  exec_ofIsland_answered (b := fun x n => if (x.ctx n).state = .free then x.reply p .abort tag .nozzleState .nothing
      else (x.abortNozzle n).reply p .abort tag .ok .nothing) h hi ho rfl rfl (if_pos hx)

end

/-- R99: leaving PRIMING changes of the context its state alone. -/
theorem ctx_quitPriming (s : State) (n : NozzleId) (r : RunEnd) :
    (s.quitPriming n r).ctx n = { s.ctx n with state := .held } := by
  obtain ⟨-, hctx, -⟩ := runEnded_of_left (s := s) (n := n) (f := fun c => { c with state := .held }) rfl rfl
    (fun m => m) r
  rw [modMeter_eq_self rfl] at hctx
  exact hctx

/-- Settles O41: each request is its block's law for the state of its nozzle, CONTINUE going on by the
laws of the list. -/
theorem stopAbortContinueTakeEffect : Obligations.StopAbortContinueTakeEffect := by
  refine ⟨fun n k rest s => ⟨rfl, rfl, fun req y => runFrom_auth_authorised, fun req y => runFrom_auth_deferred,
    fun req y why first => runFrom_auth_refused, fun a => rfl, rfl, rfl, rfl⟩, fun p tag n s h hi ho => ?_⟩
  have ⟨_, hline, _⟩ := h
  intro x i
  refine ⟨fun hx => ?_, fun hx => ?_, fun hx hrest => ?_, fun hx => ?_, exec_abort_free tag h hi ho, fun hx => ?_,
    fun hx => ?_, fun hx => ?_, fun hx => ?_, fun hx => ?_, fun hx hk => ?_, fun hx hk => ?_, fun k hx hk => ?_,
    fun hx hsteps => ?_, ?_, fun hx hsteps => ?_, fun hx hsteps => ?_, fun hx hsteps => ?_, fun hx => ?_⟩
  · exact exec_stop tag h hi ho (stopNozzle_flowing p tag hx)
  · exact exec_stop tag h hi ho (stopNozzle_priming p tag hx)
  · have hclose := runRest_closing_hold (s := i.quitPriming n .stopped) (n := n) (by rw [ctx_quitPriming]; exact hrest)
    rw [← hclose]
    exact exec_stop tag h hi ho (stopNozzle_priming p tag hx)
  · exact exec_stop tag h hi ho ((stopNozzle_refused (s := i) p tag hx).trans (reply_idleAssembler hline))
  · rw [exec_abort tag h hi ho (ne_of_eq_of_ne hx (by decide)) (abortNozzle_loaded hx)]
    exact congrArg (fun y : State => Host.Outcome.next y.startStore)
      (reply_idleAssembler (s := s.modCtx n fun _ => freeContext) hline)
  · exact exec_abort tag h hi ho (ne_of_eq_of_ne hx (by decide)) (abortNozzle_held hx)
  · exact exec_abort tag h hi ho (ne_of_eq_of_ne hx (by decide)) (abortNozzle_fetching hx)
  · exact exec_abort tag h hi ho (ne_of_eq_of_ne hx (by decide)) (abortNozzle_waiting hx)
  · exact exec_abort tag h hi ho (ne_of_eq_of_ne hx (by decide)) (abortNozzle_priming hx)
  · exact exec_abort tag h hi ho (ne_of_mem_of_not_mem hx (by decide)) (abortNozzle_flowing hx hk)
  · rw [exec_abort tag h hi ho (ne_of_eq_of_ne hx (by decide))
      ((abortNozzle_draining (s := i) hx).trans (recordAbort_unreserved hk))]
    exact congrArg (fun y : State => Host.Outcome.next y.startStore)
      (reply_idleAssembler (s := s.modCtx n fun c => { c with move := .abort }) hline)
  · rw [exec_abort tag h hi ho (ne_of_eq_of_ne hx (by decide))
      ((abortNozzle_draining (s := i) hx).trans (recordAbort_reserved hk))]
    exact congrArg (fun y : State => Host.Outcome.next y.startStore)
      (reply_idleAssembler (s := (s.modCtx n fun c => { c with move := .abort }).setSlot k .empty) hline)
  · exact exec_continueList tag h hi ho (continueNozzle_runs p tag hx hsteps)
  · refine ⟨fun a rest hx hsteps => ?_, fun req rest hx hsteps => ⟨fun y hy => ?_, fun y hy => ?_,
      fun y why first hy => ?_⟩⟩
    · exact exec_continueList tag h hi ho (continueNozzle_run (s := i) p tag hx hsteps)
    · exact exec_continueList tag h hi ho (continueNozzle_authorised (s := i) p tag hx hsteps hy)
    · exact exec_continueList tag h hi ho (continueNozzle_deferred (s := i) p tag hx hsteps hy)
    · exact exec_continueList tag h hi ho (continueNozzle_authRefused (s := i) p tag hx hsteps hy)
  · exact exec_continueList tag h hi ho (continueNozzle_finish (s := i) p tag hx hsteps)
  · exact exec_continueList tag h hi ho (continueNozzle_hold (s := i) p tag hx hsteps)
  · exact exec_continueList tag h hi ho
      ((continueNozzle_empty (s := i) p tag hx hsteps).trans (reply_idleAssembler hline))
  · exact exec_continueList tag h hi ho ((continueNozzle_unheld (s := i) p tag hx).trans (reply_idleAssembler hline))

end Sys2Proof.Proofs

namespace Sys2Proof.Proofs
open Sys2Proof Sys2Proof.Machine

/-! ### What the end of an event leaves of the clock (R12, R185) -/

/-- The clock and the configuration stand as they were. -/
structure SameTime (s t : State) : Prop where
  clock : t.clock = s.clock
  config : t.config = s.config

section
variable {s t u : State}

theorem SameTime.refl (s : State) : SameTime s s := ⟨rfl, rfl⟩

theorem SameTime.trans (h : SameTime s t) (k : SameTime t u) : SameTime s u :=
  ⟨k.clock.trans h.clock, k.config.trans h.config⟩

theorem SameTime.of_within (h : Within False s t) : SameTime s t := ⟨h.clock, h.config⟩

theorem SameTime.foldl {α : Type} {f : State → α → State} (hf : ∀ x a, SameTime x (f x a)) (l : List α) (s : State) :
    SameTime s (l.foldl f s) := by
  induction l generalizing s with
  | nil => exact .refl s
  | cons a l ih => exact (hf s a).trans (ih _)

theorem sameTime_setStage (s : State) (x : Stage) : SameTime s (s.setStage x) := ⟨rfl, rfl⟩

theorem sameTime_interruptNozzle (s : State) (n : NozzleId) : SameTime s (s.interruptNozzle n) := by
  unfold State.interruptNozzle
  split
  · exact (SameTime.of_within ((Within.refl s).finishNozzle ..)).trans ⟨rfl, rfl⟩
  · exact .refl s

theorem sameTime_interruptSlot (s : State) (k : ParkId) : SameTime s (s.interruptSlot k) := by
  unfold State.interruptSlot
  split
  · exact (SameTime.of_within ((Within.refl s).finishParked ..)).trans ⟨rfl, rfl⟩
  all_goals exact .refl s

theorem sameTime_openBusiness (s : State) : SameTime s s.openBusiness :=
  (SameTime.foldl (fun x n => .of_within ((Within.refl x).freeLoaded n)) allNozzles s).trans <|
    (SameTime.foldl (fun x k => .of_within ((Within.refl x).freeReserved k)) allSlots _).trans <|
    (SameTime.foldl sameTime_interruptNozzle allNozzles _).trans <|
    (SameTime.foldl sameTime_interruptSlot allSlots _).trans <|
    SameTime.foldl (fun x t => .of_within ((Within.refl x).cancelReceipt t)) allTanks _

theorem sameTime_indexDone (s : State) : SameTime s s.indexDone := by
  simp only [State.indexDone]
  split
  · exact sameTime_setStage ..
  · exact (SameTime.foldl (fun x l => .of_within ((Within.refl x).queueDirty l)) allLines s).trans <|
      (sameTime_openBusiness _).trans (sameTime_setStage ..)

theorem sameTime_leaveEpoch (s : State) : SameTime s s.leaveEpoch := by
  unfold State.leaveEpoch
  split
  · split
    · exact (sameTime_setStage s .index).trans <|
        (SameTime.of_within ((Within.refl _).giveUpHeaders 0)).trans (sameTime_indexDone _)
    · split
      · exact .refl s
      · exact ⟨rfl, rfl⟩
  · exact .refl s

theorem sameTime_leaveWrites (s : State) : SameTime s s.leaveWrites := by
  unfold State.leaveWrites
  split
  · exact ⟨rfl, rfl⟩
  · exact .refl s

theorem sameTime_settle (s : State) : SameTime s s.settle :=
  (sameTime_leaveEpoch s).trans <| (sameTime_leaveWrites _).trans (.of_within (Within.refl _).startStore)

end

/-! ### The tick (R179, R180) -/

/-- R180: a rollover that is carried out late sets the shift clock as one in time does. -/
theorem lateRollover_time (s : State) : s.lateRollover.clock = settledClock s.clock
    ∧ s.lateRollover.config = s.config := by
  unfold State.lateRollover settledClock
  split
  · have hroll : SameTime { s with clock := rolledClock s.clock } s.rollover :=
      .of_within (((Within.refl _).postAll _).reconcileAll _)
    have ⟨hclock, hconfig⟩ := hroll.trans (sameTime_settle _)
    exact ⟨hclock, hconfig⟩
  · exact ⟨rfl, rfl⟩

theorem rolloverDue_settledClock (c : Clock) : (settledClock c).rolloverDue = false := by
  unfold settledClock
  split
  · rfl
  · next h => exact Bool.eq_false_iff.2 h

section
variable {s : State}

theorem exec_tick (h : s.running = true) :
    exec .tick s = .next s.lateRollover.countTick.tickDeliveries.tickField := by
  obtain ⟨hpower, hreset⟩ := running_iff.1 h
  exact (if_pos hpower).trans (if_neg (by rw [hreset]; exact Bool.false_ne_true))

/-- R106, R136: what a tick makes of the deliveries of a READY part. -/
theorem tickDeliveries_ready (h : s.startUp.stage = .ready) : s.tickDeliveries =
    { s with nozzles := Tab.mapWith (fun _ c => tickContext c) s.nozzles,
             park := Tab.mapWith (fun _ x => tickSlot x) s.park } := if_pos (decide_eq_true h)

theorem tickDeliveries_starting (h : s.startUp.stage ≠ .ready) : s.tickDeliveries = s :=
  if_neg (by simpa [State.ready] using h)

theorem tickReceive_eq (x : ReceiveLine) : tickReceive x = if x = .low then .lowBefore else .high := by
  cases x <;> rfl

theorem tickSlot_kept {x : ParkSlot} (h : ∀ p, x ≠ .holding p) : tickSlot x = x := by
  cases x with
  | holding p => exact absurd rfl (h p)
  | _ => rfl

end

/-- A part with its clock, its field timers and its ports' timers one tick on, its deliveries as given. -/
def tickedWith (x : State) (nozzles : Tab Context 8) (park : Tab ParkSlot 4) : State :=
  { x with
    clock := tickClock x.config.time.shiftLength x.clock, nozzles := nozzles, park := park,
    meters := Tab.mapWith (fun _ m => tickMeter m) x.meters, tanks := Tab.mapWith (fun _ t => tickPump t) x.tanks,
    scanner := { x.scanner with timer := x.scanner.timer - 1 }, ports := Tab.mapWith (fun _ p => tickPort p) x.ports }

theorem ticked_ready {x : State} (h : x.startUp.stage = .ready) : x.countTick.tickDeliveries.tickField =
    tickedWith x (Tab.mapWith (fun _ c => tickContext c) x.nozzles) (Tab.mapWith (fun _ k => tickSlot k) x.park) :=
  congrArg State.tickField (tickDeliveries_ready (s := x.countTick) h)

theorem ticked_starting {x : State} (h : x.startUp.stage ≠ .ready) :
    x.countTick.tickDeliveries.tickField = tickedWith x x.nozzles x.park :=
  congrArg State.tickField (tickDeliveries_starting (s := x.countTick) h)

/-- R106, R136: whatever the stage of start-up, a tick differs in what it makes of the deliveries alone. -/
theorem ticked_frame (x : State) :
    ∃ nozzles park, x.countTick.tickDeliveries.tickField = tickedWith x nozzles park := by
  by_cases h : x.startUp.stage = .ready
  · exact ⟨_, _, ticked_ready h⟩
  · exact ⟨_, _, ticked_starting h⟩

/-- Settles O27: a tick counts the clock and every timer of the part that `lateRollover` leaves, in which no rollover is
due. -/
theorem tickCountsTime : Obligations.TickCountsTime := by
  intro s hrun x
  have hx : x = s.lateRollover := rfl
  obtain ⟨hclock, hconfig⟩ := lateRollover_time s
  rw [← hx] at hclock hconfig
  have hdue : x.clock.rolloverDue = false := by rw [hclock, rolloverDue_settledClock]
  refine ⟨x.countTick.tickDeliveries.tickField, exec_tick hrun, ?_⟩
  obtain ⟨nozzles, park, hframe⟩ := ticked_frame x
  refine ⟨?_, fun hr n => ?_, fun hr k p hk => ?_, fun hr k hk => ?_, fun hr => ?_, fun n => ?_, fun k => ?_, ?_,
    fun p => ?_, ?_⟩
  · rw [hframe, ← hconfig]
    show tickClock x.config.time.shiftLength x.clock = _
    rw [tickClock, hdue, Bool.false_or]
  · rw [ticked_ready hr]
    exact read_mapWith ..
  · rw [ticked_ready hr]
    exact (read_mapWith ..).trans (congrArg tickSlot hk)
  · rw [ticked_ready hr]
    exact (read_mapWith ..).trans (tickSlot_kept hk)
  · rw [ticked_starting hr]
    exact ⟨rfl, rfl⟩
  · rw [hframe]
    exact read_mapWith ..
  · rw [hframe]
    exact read_mapWith ..
  · rw [hframe]
    rfl
  · rw [hframe, ← tickReceive_eq]
    exact (read_mapWith ..).trans rfl
  · rw [hframe]
    rfl

end Sys2Proof.Proofs

namespace Sys2Proof.Proofs
open Sys2Proof Sys2Proof.Machine

/-! ### What the stock term reads (R113) -/

/-- R113: the other deliveries' limits are read from the park table and the other nozzles' contexts. -/
theorem otherLimits_congr {s y : State} {n : NozzleId} (hpark : y.park = s.park)
    (hctx : ∀ m, m ≠ n → y.ctx m = s.ctx m) (t : TankId) : y.otherLimits n t = s.otherLimits n t := by
  have hslot (k : ParkId) : y.slot k = s.slot k := by rw [State.slot, hpark, State.slot]
  simp only [otherLimits_eq, hslot]
  refine congrArg (· + _) (Finset.sum_congr rfl fun m _ => ?_)
  by_cases hm : m = n
  · rw [if_neg fun h => h.1 hm, if_neg fun h => h.1 hm]
  · have hdelivery : y.delivery m = s.delivery m := by rw [State.delivery, hctx m hm, State.delivery]
    rw [hctx m hm, hdelivery]

/-- R113: a delivery's stock term reads of its own context the tank and the running net alone. -/
theorem stockTerm_congr {s y : State} {n : NozzleId} (hconfig : y.config = s.config) (htanks : y.tanks = s.tanks)
    (hpark : y.park = s.park) (hctx : ∀ m, m ≠ n → y.ctx m = s.ctx m)
    (htank : (y.delivery n).tank = (s.delivery n).tank) (hrun : (y.delivery n).running = (s.delivery n).running) :
    y.stockTerm n = s.stockTerm n := by
  simp only [State.stockTerm, State.tankConfig, State.tank, hconfig, htanks, htank, hrun, otherLimits_congr hpark hctx]
  rfl

/-! ### What the end of a wait tells and leaves (R116, R118, R122) -/

section
variable {s : State} {n : NozzleId} {d : Delivery} (hd : (s.ctx n).delivery = some d)
include hd

theorem postClosed_eq (o : GrantOutcome) (l : Option Nat) (r : Option Reason) :
    s.postClosed n o l r = s.postRole .fleet (.grantClosed d.ticket o l r d.grantExtra) := by
  rw [State.postClosed, delivery_of_ctx hd]

variable (issue a : Nat) (f : Factor) (restricted first : Bool)

theorem delivery_authorise : (s.authorise n issue a f restricted first).delivery n =
    { d with limit := if a = 0 ∧ first = false then min d.limit d.running else d.running + issue, factor := some f,
             restrictedAtAuth := restricted, wait := none } := by
  rw [authorise_eq hd]
  exact delivery_withDelivery _

theorem limit_authorise : ((s.authorise n issue a f restricted first).delivery n).limit =
    if a = 0 ∧ first = false then min d.limit d.running else d.running + issue := by rw [delivery_authorise hd]

/-- R122: an authorisation keeps what GRANT_CLOSED tells of its delivery. -/
theorem postClosed_authorise (o : GrantOutcome) (l : Option Nat) (r : Option Reason) :
    (s.authorise n issue a f restricted first).postClosed n o l r =
      (s.authorise n issue a f restricted first).postRole .fleet (.grantClosed d.ticket o l r d.grantExtra) := by
  rw [State.postClosed, delivery_authorise hd]

end

/-! ### A grant timer that has run out (R119, R120) -/

theorem exec_grantTimerExpiry {s : State} (h : s.Up) {n : NozzleId} (ht : (s.ctx n).grant = some 0) :
    exec (.grantTimerExpiry n) s = .next (s.grantExpired n).startStore :=
  event_of_due (c := fun x => x.ready ∧ (x.ctx n).grant = some 0) (g := fun x => x.grantExpired n) h
    ⟨ready_of_up h, ht⟩ ((Within.refl s).grantExpired n)

/-- R119: the part with a nozzle's grant timer stopped and a ticket last on the expired-wait list. -/
def waitExpired (s : State) (n : NozzleId) (ticket : Nat) : State :=
  { s.modCtx n (fun c => { c with grant := none }) with expired := joinExpired ticket s.expired }

section
variable {s : State} {n : NozzleId}

theorem ctx_waitExpired (ticket : Nat) (m : NozzleId) :
    (waitExpired s n ticket).ctx m = if m = n then { s.ctx n with grant := none } else s.ctx m :=
  State.ctx_modCtx s n m fun c => { c with grant := none }

theorem delivery_waitExpired (ticket : Nat) : (waitExpired s n ticket).delivery n = s.delivery n :=
  delivery_modCtx (s := s) (f := fun c => { c with grant := none }) rfl n

theorem stockTerm_waitExpired (ticket : Nat) : (waitExpired s n ticket).stockTerm n = s.stockTerm n :=
  stockTerm_congr rfl rfl rfl (fun m hm => (ctx_waitExpired ticket m).trans (if_neg hm))
    (by rw [delivery_waitExpired]) (by rw [delivery_waitExpired])

variable {d : Delivery} {w : WaitTerms} (hd : (s.ctx n).delivery = some d) (hw : d.wait = some w)
include hd

theorem waitExpired_holds (ticket : Nat) : ((waitExpired s n ticket).ctx n).delivery = some d := by
  rw [ctx_waitExpired, if_pos rfl]
  exact hd

/-- R120: a wait that ends refused. -/
theorem timeOut_waitExpired : (waitExpired s n d.ticket).timeOut n w = ((waitExpired s n d.ticket).postRole .fleet
    (.grantClosed d.ticket .timedOut none (some .grantTimeout) d.grantExtra)).refuseAuth n .grantTimeout w.first := by
  rw [State.timeOut, postClosed_eq (waitExpired_holds hd d.ticket)]

include hw

theorem grantExpired_refuse (hp : s.config.authorisation.policy = .refuse) :
    s.grantExpired n = (waitExpired s n d.ticket).timeOut n w := by
  simp only [State.grantExpired, delivery_of_ctx hd, hw, hp]
  rfl

section
variable (hp : s.config.authorisation.policy = .partialIssue)
include hp

theorem grantExpired_belowMinimum (hlow : min w.b (s.stockTerm n) < s.config.authorisation.minIssue) :
    s.grantExpired n = (waitExpired s n d.ticket).timeOut n w := by
  rw [← stockTerm_waitExpired d.ticket] at hlow
  simp only [State.grantExpired, delivery_of_ctx hd, hw, hp]
  exact if_neg (Nat.not_le.2 hlow)

/-- R120: a wait that ends with the lesser of the allowance and stock terms issued. -/
theorem grantExpired_issue {issue : Nat} {f : Factor} (hissue : min w.b (s.stockTerm n) = issue)
    (hf : (if issue = w.b then w.name else .stock) = f) (hmin : s.config.authorisation.minIssue ≤ issue)
    (ha : w.a ≠ 0) : s.grantExpired n =
      (((waitExpired s n d.ticket).authorise n issue w.a f w.restricted w.first).postRole .fleet
        (.grantClosed d.ticket .timedOut (some (d.running + issue)) none d.grantExtra)).runRest n := by
  have hholds := waitExpired_holds hd d.ticket
  have hlimit : (((waitExpired s n d.ticket).authorise n issue w.a f w.restricted w.first).delivery n).limit =
      d.running + issue := by rw [limit_authorise hholds, if_neg fun hz => ha hz.1]
  rw [← postClosed_authorise hholds, ← hlimit]
  rw [← stockTerm_waitExpired d.ticket] at hissue
  subst hissue hf
  simp only [State.grantExpired, delivery_of_ctx hd, hw, hp]
  exact if_pos hmin

end
end

/-- Settles O36: the timer's expiry is `grantExpired`, which the policy and the issue decide. -/
theorem grantTimerEndsWait : Obligations.GrantTimerEndsWait := by
  intro n d w s h ht hd hw others late closed
  rw [exec_grantTimerExpiry h ht]
  refine ⟨fun hp => ?_, fun hp hlow => ?_, fun hp hmin ha => ?_⟩
  · rw [grantExpired_refuse hd hw hp, timeOut_waitExpired hd]
    rfl
  · rw [grantExpired_belowMinimum hd hw hp hlow, timeOut_waitExpired hd]
    rfl
  · rw [grantExpired_issue hd hw hp rfl rfl hmin ha]
    rfl

end Sys2Proof.Proofs

namespace Sys2Proof.Proofs
open Sys2Proof Sys2Proof.Machine

/-! ### The context that waits with a ticket (R118) -/

theorem allNozzles_sorted : allNozzles.Pairwise (· < ·) := by decide
theorem mem_allNozzles (n : NozzleId) : n ∈ allNozzles := by revert n; decide

section
variable {s : State} {ticket : Nat}

theorem waitingFor_eq_some_iff (n : NozzleId) : s.waitingFor ticket = some n ↔
    ((s.ctx n).state = .awaitGrant ∧ (s.delivery n).ticket = ticket)
      ∧ ∀ m, m < n → ¬ ((s.ctx m).state = .awaitGrant ∧ (s.delivery m).ticket = ticket) := by
  simp only [State.waitingFor, find?_eq_some_of_sorted allNozzles_sorted mem_allNozzles, ← Bool.decide_and,
    decide_eq_true_eq, decide_eq_false_iff_not]

theorem waitingFor_eq_none_iff : s.waitingFor ticket = none ↔
    ∀ n, ¬ ((s.ctx n).state = .awaitGrant ∧ (s.delivery n).ticket = ticket) := by
  simp only [State.waitingFor, List.find?_eq_none, mem_allNozzles, forall_const, ← Bool.decide_and, decide_eq_true_eq]

end

/-! ### A GRANT by what it finds (R118, R119) -/

/-- R118: the part with a nozzle's grant timer stopped and a grant extra added to its delivery `d`. -/
def extraGranted (s : State) (n : NozzleId) (d : Delivery) (extra : Nat) : State :=
  s.modCtx n fun c => { c with grant := none, delivery := some { d with grantExtra := addedExtra d.grantExtra extra } }

section
variable {s : State} {n : NozzleId} {d : Delivery} {extra : Nat}

theorem ctx_extraGranted (m : NozzleId) : (extraGranted s n d extra).ctx m = if m = n then
    { s.ctx n with grant := none, delivery := some { d with grantExtra := addedExtra d.grantExtra extra } }
    else s.ctx m :=
  State.ctx_modCtx s n m fun c =>
    { c with grant := none, delivery := some { d with grantExtra := addedExtra d.grantExtra extra } }

theorem extraGranted_holds : ((extraGranted s n d extra).ctx n).delivery =
    some { d with grantExtra := addedExtra d.grantExtra extra } := by rw [ctx_extraGranted, if_pos rfl]

variable (hd : (s.ctx n).delivery = some d)
include hd

theorem stockTerm_extraGranted : (extraGranted s n d extra).stockTerm n = s.stockTerm n := by
  have hdelivery := delivery_of_ctx (extraGranted_holds (s := s) (n := n) (d := d) (extra := extra))
  refine stockTerm_congr rfl rfl rfl (fun m hm => (ctx_extraGranted m).trans (if_neg hm)) ?_ ?_
  · rw [hdelivery, delivery_of_ctx hd]
  · rw [hdelivery, delivery_of_ctx hd]
    rfl

variable (p : Port) (tag : Byte) {w : WaitTerms} {issue : Nat}
  (hissue : min w.a (min (w.b + extra) (s.stockTerm n)) = issue)
include hissue

theorem takeGrant_eq {f : Factor} (hf : factorOf issue w.a (w.b + extra) w.name = f) : s.takeGrant p tag n w extra =
    let x := extraGranted s n d extra
    if s.config.authorisation.minIssue ≤ issue ∨ issue = w.a then
      (((x.authorise n issue w.a f w.restricted w.first).postClosed n .granted
        (some ((x.authorise n issue w.a f w.restricted w.first).delivery n).limit) none).reply p .grant tag .ok
          (.grantDecision .granted (some ((x.authorise n issue w.a f w.restricted w.first).delivery n).limit) none
            f)).runRest n
    else ((x.postClosed n .denied none (some .grantDenied)).reply p .grant tag .ok
      (.grantDecision .denied none (some .grantDenied) f)).refuseAuth n .grantDenied w.first := by
  have hctx : (s.modCtx n fun c => { c with
      grant := none,
      delivery := c.delivery.map fun d => { d with grantExtra := addedExtra d.grantExtra extra } }) =
      extraGranted s n d extra := modCtx_congr (by rw [hd]; rfl)
  subst hissue hf
  simp only [State.takeGrant, hctx, stockTerm_extraGranted hd]

/-- R118: the wait ends authorised. -/
theorem takeGrant_granted {f : Factor} (hf : factorOf issue w.a (w.b + extra) w.name = f)
    (h : s.config.authorisation.minIssue ≤ issue ∨ issue = w.a) :
    let limit := if w.a = 0 ∧ w.first = false then min d.limit d.running else d.running + issue
    s.takeGrant p tag n w extra =
      ((((extraGranted s n d extra).authorise n issue w.a f w.restricted w.first).postRole .fleet
        (.grantClosed d.ticket .granted (some limit) none (addedExtra d.grantExtra extra))).reply p .grant tag .ok
          (.grantDecision .granted (some limit) none f)).runRest n := by
  rw [takeGrant_eq hd p tag hissue hf]
  refine (if_pos h).trans ?_
  rw [postClosed_authorise extraGranted_holds, limit_authorise extraGranted_holds]
  rfl

/-- R118, R122: the wait ends denied. -/
theorem takeGrant_denied {f : Factor} (hf : factorOf issue w.a (w.b + extra) w.name = f)
    (hlow : issue < s.config.authorisation.minIssue) (hne : issue ≠ w.a) : s.takeGrant p tag n w extra =
      (((extraGranted s n d extra).postRole .fleet
        (.grantClosed d.ticket .denied none (some .grantDenied) (addedExtra d.grantExtra extra))).reply p .grant tag .ok
          (.grantDecision .denied none (some .grantDenied) f)).refuseAuth n .grantDenied w.first := by
  rw [takeGrant_eq hd p tag hissue hf]
  refine (if_neg (not_or.2 ⟨Nat.not_le.2 hlow, hne⟩)).trans ?_
  rw [postClosed_eq extraGranted_holds]

end

/-! ### GRANT as a command (R118, R119) -/

section
variable {s : State} {p : Port} (tag : Byte) {ticket extra : Nat} (h : s.Accepts p) (hf : s.role p = .fleet)
include h hf

theorem exec_grant_outOfRange (hbad : ticket = 0 ∨ 2500000 < extra) : exec (.grant p tag ticket extra) s =
    .next (s.answered p .grant tag .badField .nothing).startStore := by
  have ⟨_, hline, _⟩ := h
  exact exec_of_block h (permits_fleet hf rfl) rfl ((if_pos hbad).trans (reply_idleAssembler hline)) rfl

variable (ht : ticket ≠ 0) (hx : extra ≤ 2500000)
include ht hx

theorem exec_grant {y : State} (hy : (s.idleAssembler p).grantFor p tag ticket extra = y) :
    exec (.grant p tag ticket extra) s = .next y.startStore :=
  exec_of_block h (permits_fleet hf rfl) rfl
    ((if_neg (not_or.2 ⟨ht, Nat.not_lt.2 hx⟩)).trans hy)
    (hy ▸ ((Within.refl (fed := False) (s.idleAssembler p)).grantFor p tag ticket extra).startUp)

theorem exec_grant_late (hnone : s.waitingFor ticket = none) : exec (.grant p tag ticket extra) s =
    .next (s.answered p .grant tag (if ticket ∈ s.expired then .tooLate else .noSuchTicket) .nothing).startStore := by
  have ⟨_, hline, _⟩ := h
  have hnone' : (s.idleAssembler p).waitingFor ticket = none := hnone
  refine exec_grant tag h hf ht hx (Eq.trans ?_ (reply_idleAssembler hline))
  simp only [State.grantFor, hnone']
  rfl

theorem exec_grant_taken {n : NozzleId} {d : Delivery} {w : WaitTerms} (hn : s.waitingFor ticket = some n)
    (hd : (s.ctx n).delivery = some d) (hw : d.wait = some w) {y : State}
    (hy : (s.idleAssembler p).takeGrant p tag n w extra = y) :
    exec (.grant p tag ticket extra) s = .next y.startStore := by
  have hn' : (s.idleAssembler p).waitingFor ticket = some n := hn
  have hwait : ((s.idleAssembler p).delivery n).wait = some w := by
    rw [State.delivery_idleAssembler, delivery_of_ctx hd, hw]
  refine exec_grant tag h hf ht hx (Eq.trans ?_ hy)
  simp only [State.grantFor, hn', hwait]

end

/-- Settles O43: the ticket's context is the first found in ascending order, and its wait ends as `takeGrant` decides
by the issue. -/
theorem grantDecidesItsWait : Obligations.GrantDecidesItsWait := by
  intro p tag ticket extra s h hf
  refine ⟨exec_grant_outOfRange tag h hf, waitingFor_eq_some_iff, waitingFor_eq_none_iff, exec_grant_late tag h hf,
    ?_⟩
  intro n d w ht hx hn hd hw total x issue factor limit
  have ⟨⟨_, hticket⟩, _⟩ := (waitingFor_eq_some_iff n).1 hn
  rw [delivery_of_ctx hd] at hticket
  have hd' : ((s.idleAssembler p).ctx n).delivery = some d := hd
  refine ⟨fun hmin => ?_, fun hlow hne => ?_⟩
  · rw [exec_grant_taken tag h hf ht hx hn hd hw (takeGrant_granted hd' p tag (issue := issue) rfl rfl hmin), hticket]
    rfl
  · rw [exec_grant_taken tag h hf ht hx hn hd hw (takeGrant_denied hd' p tag (issue := issue) rfl rfl hlow hne), hticket]
    rfl

end Sys2Proof.Proofs

namespace Sys2Proof.Proofs
open Sys2Proof Sys2Proof.Machine

/-! ### The tests of a RESUME (R132) -/

/-- R132: what a park slot answers when a ticket is looked for. -/
def heldAs (ticket : Nat) (k : ParkId) : ParkSlot → Option (ParkId × Parked)
  | .holding x => if x.delivery.ticket = ticket then some (k, x) else none
  | .reserved _ => none
  | .empty => none

theorem heldAs_eq_some_iff (ticket : Nat) (j k : ParkId) (z : ParkSlot) (x : Parked) :
    heldAs ticket j z = some (k, x) ↔ j = k ∧ z = .holding x ∧ x.delivery.ticket = ticket := by
  cases z with
  | holding y =>
    simp only [heldAs, Option.ite_none_right_eq_some, Option.some.injEq, Prod.mk.injEq, ParkSlot.holding.injEq]
    exact ⟨fun ⟨ht, hj, hy⟩ => ⟨hj, hy, hy ▸ ht⟩, fun ⟨hj, hy, ht⟩ => ⟨hy ▸ ht, hj, hy⟩⟩
  | _ => simp [heldAs]

theorem heldAs_eq_none_iff (ticket : Nat) (k : ParkId) (z : ParkSlot) :
    heldAs ticket k z = none ↔ ∀ y, z = .holding y → y.delivery.ticket ≠ ticket := by
  cases z <;> simp [heldAs]

section
variable {s : State}

theorem parkedTicket_eq (ticket : Nat) :
    s.parkedTicket ticket = allSlots.findSome? fun k => heldAs ticket k (s.slot k) := rfl

theorem parkedTicket_eq_some_iff (ticket : Nat) (k : ParkId) (x : Parked) : s.parkedTicket ticket = some (k, x) ↔
    s.slot k = .holding x ∧ x.delivery.ticket = ticket
      ∧ ∀ j y, j < k → s.slot j = .holding y → y.delivery.ticket ≠ ticket := by
  rw [parkedTicket_eq, findSome?_eq_some_of_sorted allSlots_sorted mem_allSlots]
  simp only [heldAs_eq_some_iff, heldAs_eq_none_iff]
  constructor
  · rintro ⟨_, ⟨rfl, hslot, ht⟩, hmin⟩
    exact ⟨hslot, ht, fun j y hj => hmin j hj y⟩
  · rintro ⟨hslot, ht, hmin⟩
    exact ⟨k, ⟨rfl, hslot, ht⟩, fun j hj y => hmin j y hj⟩

section
variable {n : NozzleId} {x : Parked}

theorem resumeRefusal_busy (hx : (s.ctx n).state ≠ .free) : s.resumeRefusal n x = some .nozzleBusy := if_pos hx

section
variable (hx : (s.ctx n).state = .free)
include hx

theorem resumeRefusal_disabled (he : (s.config.nozzles.read n).enabled = false) :
    s.resumeRefusal n x = some .nozzleState :=
  (if_neg (not_not.2 hx)).trans (if_pos (by rw [State.nozzleConfig, he]; rfl))

variable (he : (s.config.nozzles.read n).enabled = true)
include he

/-- R132: the tests from the product on, at a FREE nozzle that is enabled. -/
theorem resumeRefusal_free : s.resumeRefusal n x =
    if (s.config.tanks.read (s.config.nozzles.read n).tank).product ≠ s.deliveryProduct x.delivery then
      some .productMismatch
    else if (s.meter n).state = .faulted then some .meterFault
    else if (s.tank (s.config.nozzles.read n).tank).tier = .reserve ∧ s.essential x.delivery = false then
      some .reserveOnly
    else none := by
  refine (if_neg (not_not.2 hx)).trans ((if_neg (by rw [State.nozzleConfig, he]; decide)).trans ?_)
  simp only [Bool.not_eq_true']
  rfl

end
end
end

/-! ### The move to the nozzle (R133) -/

/-- R133: the part with a park slot emptied into a nozzle's context. -/
def nozzleTaken (s : State) (k : ParkId) (n : NozzleId) (d : Delivery) : State :=
  (s.setSlot k .empty).modCtx n fun _ => { freeContext with state := .held, delivery := some d }

/-- R133: a delivery's limit lowered to what the stock of a tank other than its old one bears. -/
def recapped (old : TankId) (top : Nat) (d : Delivery) : Delivery :=
  if old ≠ d.tank ∧ top < d.limit then { d with limit := top, factor := some .stock } else d

theorem recapped_frame (old : TankId) (top : Nat) (d : Delivery) : (recapped old top d).ticket = d.ticket
    ∧ (recapped old top d).fleet = d.fleet ∧ (recapped old top d).tank = d.tank
    ∧ (recapped old top d).legs = d.legs ∧ (recapped old top d).faults = d.faults
    ∧ (recapped old top d).wait = d.wait := by
  unfold recapped
  split <;> exact ⟨rfl, rfl, rfl, rfl, rfl, rfl⟩

/-- R133: the part with the delivery `d` moved from a slot to a nozzle and its meter bound. -/
def movedToNozzle (s : State) (k : ParkId) (n : NozzleId) (d : Delivery) : State :=
  (nozzleTaken s k n d).modMeter n fun m => { m with bound := true, count := 0, state := .inUse }

section
variable {s : State} {k : ParkId} {n : NozzleId}

theorem withDelivery_self {d : Delivery} (hd : (s.ctx n).delivery = some d) : withDelivery s n d = s := by
  rw [withDelivery, State.modCtx, ← hd]
  exact congrArg (fun x => { s with nozzles := x }) (write_read s.nozzles n)

theorem recap_eq {d : Delivery} (hd : (s.ctx n).delivery = some d) (old : TankId) :
    s.recap n old = withDelivery s n (recapped old (d.running + s.stockTerm n) d) := by
  simp only [State.recap, delivery_of_ctx hd]
  split
  · next heq => rw [recapped, if_neg fun h => h.1 heq.symm, withDelivery_self hd]
  · next hne =>
    split
    · next hlow => rw [recapped, if_pos ⟨Ne.symm hne, hlow⟩, modDelivery_eq hd]
    · next hlow => rw [recapped, if_neg fun h => hlow h.2, withDelivery_self hd]

theorem withDelivery_nozzleTaken (d d' : Delivery) :
    withDelivery (nozzleTaken s k n d) n d' = nozzleTaken s k n d' := State.modCtx_modCtx ..

theorem ctx_nozzleTaken (d : Delivery) :
    (nozzleTaken s k n d).ctx n = { freeContext with state := .held, delivery := some d } := State.ctx_modCtx_self ..

theorem ctx_movedToNozzle (d : Delivery) :
    (movedToNozzle s k n d).ctx n = { freeContext with state := .held, delivery := some d } := ctx_nozzleTaken d

theorem slot_movedToNozzle (d : Delivery) : (movedToNozzle s k n d).slot k = .empty :=
  State.slot_setSlot_self s k .empty

theorem meter_movedToNozzle (d : Delivery) : (movedToNozzle s k n d).meter n =
    { s.meter n with bound := true, count := 0, state := .inUse } := State.meter_modMeter_self ..

theorem takeUp_eq {x : Parked} {d : Delivery} (hm : (s.meter n).state ≠ .faulted)
    (hd : takenUp (s.config.nozzles.read n).tank n x.delivery = d) : s.takeUp k x n =
      movedToNozzle s k n (recapped x.delivery.tank (d.running + (nozzleTaken s k n d).stockTerm n) d) := by
  subst hd
  have hbind (y : State) (hy : y.meters = s.meters) : y.bindMeter n = y.modMeter n fun m =>
      { m with bound := true, count := 0, state := .inUse } := by
    refine modMeter_congr ?_
    rw [State.meter, hy]
    exact congrArg (fun z => { s.meter n with bound := true, count := 0, state := z }) (if_neg hm)
  rw [movedToNozzle, ← withDelivery_nozzleTaken (takenUp (s.config.nozzles.read n).tank n x.delivery)]
  exact (congrArg (fun y : State => y.recap n x.delivery.tank) (hbind (nozzleTaken s k n _) rfl)).trans
    (recap_eq (ctx_nozzleTaken _ ▸ rfl) _)

end

/-! ### The faults replayed (R98, R134) -/

/-- R134: one FAULT_REPLAY to a port for each fault of a set, in R98's order. -/
def faultsReplayed (s : State) (p : Port) (faults : FaultSet) (ticket : Nat) (left : NozzleId) : State :=
  faultOrder.foldl (fun y f => if faults.has f = true then y.postTo p (.faultReplay ticket f left) else y) s

/-- R134: the part with the pending faults of the delivery `d` at a nozzle replayed to a port, and RESUMED posted. -/
def resumedTo (s : State) (p : Port) (n : NozzleId) (d : Delivery) (left : NozzleId) : State :=
  (withDelivery (faultsReplayed s p d.faults d.ticket left) n { d with faults := d.faults.afterReplay }).postTo p
    (.deliveryStage (.resumed d.ticket n d.tank d.limit d.legs.length))

section
variable {s : State} {p : Port} {n left : NozzleId}

/-- R133: a re-cap changes none of what is replayed. -/
theorem resumedTo_recapped {d d' : Delivery} {old : TankId} {top : Nat} (h : recapped old top d = d') :
    resumedTo s p n d' left =
      (withDelivery (faultsReplayed s p d.faults d.ticket left) n { d' with faults := d.faults.afterReplay }).postTo p
        (.deliveryStage (.resumed d.ticket n d.tank d'.limit d.legs.length)) := by
  obtain ⟨hticket, -, htank, hlegs, hfaults, -⟩ := h ▸ recapped_frame old top d
  simp only [resumedTo, hticket, htank, hlegs, hfaults]

/-- Notices to one port change the ports alone. -/
theorem posts_frame {α : Type} (c : α → Bool) (b : α → NoticeBody) (xs : List α) (s : State) : ∃ ports,
    xs.foldl (fun y a => if c a = true then y.postTo p (b a) else y) s = { s with ports := ports } := by
  induction xs generalizing s with
  | nil => exact ⟨s.ports, rfl⟩
  | cons a xs ih =>
    rw [List.foldl_cons]
    split
    · obtain ⟨ports, hrest⟩ := ih (s.postTo p (b a))
      exact ⟨ports, hrest⟩
    · exact ih s

theorem faultsReplayed_frame (s : State) (p : Port) (faults : FaultSet) (ticket : Nat) (left : NozzleId) :
    ∃ ports, faultsReplayed s p faults ticket left = { s with ports := ports } :=
  posts_frame (fun f => faults.has f) (fun f => .faultReplay ticket f left) faultOrder s

theorem resumedTo_frame (s : State) (p : Port) (n : NozzleId) (d : Delivery) (left : NozzleId) : ∃ ports,
    resumedTo s p n d left =
      { withDelivery s n { d with faults := d.faults.afterReplay } with ports := ports } := by
  obtain ⟨ports, hreplayed⟩ := faultsReplayed_frame s p d.faults d.ticket left
  rw [resumedTo, hreplayed]
  exact ⟨_, rfl⟩

theorem ctx_resumedTo (d : Delivery) : (resumedTo s p n d left).ctx n =
    { s.ctx n with delivery := some { d with faults := d.faults.afterReplay } } := by
  obtain ⟨ports, hframe⟩ := resumedTo_frame s p n d left
  rw [hframe]
  exact (ctx_withDelivery (s := s) _ n).trans (if_pos rfl)

theorem resumedTo_unchanged (d : Delivery) : (resumedTo s p n d left).park = s.park
    ∧ (resumedTo s p n d left).meters = s.meters ∧ (resumedTo s p n d left).config = s.config := by
  obtain ⟨ports, hframe⟩ := resumedTo_frame s p n d left
  rw [hframe]
  exact ⟨rfl, rfl, rfl⟩

/-- R98, R171: the replay goes to the port that owns the nozzle, member by member. -/
theorem replayed_members (ho : (s.config.nozzles.read n).owner = p) (faults : FaultSet) (ticket : Nat) :
    faults.members.foldl (fun y f => y.postOwner n (.faultReplay ticket f left)) s =
      faultsReplayed s p faults ticket left := by
  rw [FaultSet.members, List.foldl_filter]
  refine foldl_congr_within (P := fun y : State => (y.config.nozzles.read n).owner = p) (fun y f hy => ?_)
    (fun y f hy => ?_) faultOrder ho
  · rw [State.postOwner, State.owner, State.nozzleConfig, hy]
  · split
    · exact hy
    · exact hy

theorem replay_eq {d : Delivery} (hd : (s.ctx n).delivery = some d) (ho : (s.config.nozzles.read n).owner = p) :
    s.replay n left = resumedTo s p n d left := by
  obtain ⟨ports, hreplayed⟩ := faultsReplayed_frame s p d.faults d.ticket left
  have hmod : (faultsReplayed s p d.faults d.ticket left).modDelivery n
        (fun x => { x with faults := x.faults.afterReplay }) =
      withDelivery (faultsReplayed s p d.faults d.ticket left) n { d with faults := d.faults.afterReplay } :=
    modDelivery_eq (by rw [hreplayed]; exact hd) _
  have howner : (withDelivery (faultsReplayed s p d.faults d.ticket left) n
      { d with faults := d.faults.afterReplay }).owner n = p := by
    rw [hreplayed]
    exact ho
  simp only [State.replay, delivery_of_ctx hd, replayed_members ho, hmod]
  rw [State.postOwner, howner, resumedTo]

theorem resumeState_held (s : State) (n : NozzleId) : s.resumeState n false = s.enterHeld n .resumed := rfl

/-- R101: an entry to HELD keeps the delivery. -/
theorem ctx_enterHeld (s : State) (n : NozzleId) (c : HoldCause) : ((s.enterHeld n c).ctx n).state = .held
    ∧ ((s.enterHeld n c).ctx n).delivery = (s.ctx n).delivery := by
  rw [State.enterHeld, State.ctx_postOwner, State.ctx_modCtx_self]
  exact ⟨rfl, rfl⟩

theorem ctx_awaitGrant {d : Delivery} (hd : (s.ctx n).delivery = some d) (w : WaitTerms) :
    (s.awaitGrant n w).ctx n = { s.ctx n with
      state := .awaitGrant, grant := some s.config.authorisation.grantTimer,
      delivery := some { d with wait := some w } } := by
  have hread : (s.awaitGrant n w).ctx n = (s.modCtx n fun c => { c with
      state := .awaitGrant, grant := some s.config.authorisation.grantTimer,
      delivery := c.delivery.map fun d => { d with wait := some w } }).ctx n := rfl
  rw [hread, State.ctx_modCtx_self, hd]
  rfl

theorem resumeState_waits {w : WaitTerms} (hw : (s.delivery n).wait = some w) :
    s.resumeState n true = s.awaitGrant n w := by
  simp only [State.resumeState, hw]

theorem awaitGrant_unchanged (s : State) (n : NozzleId) (w : WaitTerms) :
    (s.awaitGrant n w).park = s.park ∧ (s.awaitGrant n w).meters = s.meters := ⟨rfl, rfl⟩

/-- R117, R134: a delivery taken up out of its slot that waits for its grant again. -/
theorem waits_again {k : ParkId} (d : Delivery) (w : WaitTerms) :
    let t := (resumedTo (movedToNozzle s k n d) p n d left).awaitGrant n w
    t.slot k = .empty
      ∧ t.ctx n = { freeContext with
          state := .awaitGrant, grant := some s.config.authorisation.grantTimer,
          delivery := some { d with faults := d.faults.afterReplay, wait := some w } }
      ∧ t.meter n = { s.meter n with bound := true, count := 0, state := .inUse } := by
  intro t
  obtain ⟨hpark, hmeters, hconfig⟩ := resumedTo_unchanged
    (s := movedToNozzle s k n d) (p := p) (n := n) (left := left) d
  obtain ⟨hpark', hmeters'⟩ := awaitGrant_unchanged (resumedTo (movedToNozzle s k n d) p n d left) n w
  refine ⟨?_, ?_, ?_⟩
  · rw [State.slot, hpark', hpark]
    exact slot_movedToNozzle d
  · rw [ctx_awaitGrant (by rw [ctx_resumedTo]) w, ctx_resumedTo, ctx_movedToNozzle, hconfig]
    rfl
  · rw [State.meter, hmeters', hmeters]
    exact meter_movedToNozzle d

end

/-! ### RESUME as a command (R132 to R134) -/

section
variable {s : State} {p : Port} (tag : Byte) {ticket : Nat} {n : NozzleId} {k : ParkId} {x : Parked}

section
variable (h1 : 1 ≤ ticket) (h2 : ticket ≤ 65535)
include h1 h2

theorem resumeNozzle_unknown (hk : s.parkedTicket ticket = none) :
    s.resumeNozzle p tag ticket n = s.reply p .resume tag .noSuchTicket .nothing := by
  refine (if_neg (by omega)).trans ?_
  simp only [hk]

variable (hk : s.parkedTicket ticket = some (k, x))
include hk

theorem resumeNozzle_refused {st : Status} (hr : s.resumeRefusal n x = some st) :
    s.resumeNozzle p tag ticket n = s.reply p .resume tag st .nothing := by
  refine (if_neg (by omega)).trans ?_
  simp only [hk, hr]

theorem resumeNozzle_taken (hr : s.resumeRefusal n x = none) {y : State} (hy : s.resumeAt k x n = y) {d : Delivery}
    (hd : (y.ctx n).delivery = some d) : s.resumeNozzle p tag ticket n =
      y.reply p .resume tag .ok (.resumed d.ticket d.fleet d.limit d.legs.length (y.ctx n).state) := by
  refine (if_neg (by omega)).trans ?_
  simp only [hk, hr, hy, delivery_of_ctx hd]

end

section
variable {d d' : Delivery} (hm : (s.meter n).state ≠ .faulted) (ho : (s.config.nozzles.read n).owner = p)
  (hd : takenUp (s.config.nozzles.read n).tank n x.delivery = d)
  (hd' : recapped x.delivery.tank (d.running + (nozzleTaken s k n d).stockTerm n) d = d')
include hm ho hd hd'

/-- R133, R134: the move, then the replay. -/
theorem replay_takeUp : (s.takeUp k x n).replay n x.nozzleLeft =
    resumedTo (movedToNozzle s k n d') p n d' x.nozzleLeft := by
  rw [takeUp_eq hm hd, hd']
  exact replay_eq (by rw [ctx_movedToNozzle]) ho

theorem resumeAt_held (hg : x.delivery.faults.grantWait = false) :
    s.resumeAt k x n = (resumedTo (movedToNozzle s k n d') p n d' x.nozzleLeft).enterHeld n .resumed := by
  rw [State.resumeAt, replay_takeUp hm ho hd hd', hg, resumeState_held]

theorem resumeAt_waits {w : WaitTerms} (hg : x.delivery.faults.grantWait = true) (hw : d'.wait = some w) :
    s.resumeAt k x n = (resumedTo (movedToNozzle s k n d') p n d' x.nozzleLeft).awaitGrant n w := by
  rw [State.resumeAt, replay_takeUp hm ho hd hd', hg, resumeState_waits]
  rw [State.delivery, ctx_resumedTo]
  exact hw

end

variable (h : s.Accepts p) (hi : s.role p = .island) (ho : (s.config.nozzles.read n).owner = p)
include h hi ho

theorem exec_resume {y : State} (hy : (s.idleAssembler p).resumeNozzle p tag ticket n = y) :
    exec (.resume p tag ticket (n.val + 1)) s = .next y.startStore :=
  exec_ofIsland h hi ho rfl rfl hy
    (hy ▸ ((Within.refl (fed := False) (s.idleAssembler p)).resumeNozzle p tag ticket n).startUp)

theorem exec_resume_answered {st : Status}
    (hy : (s.idleAssembler p).resumeNozzle p tag ticket n = (s.idleAssembler p).reply p .resume tag st .nothing) :
    exec (.resume p tag ticket (n.val + 1)) s = .next (s.answered p .resume tag st .nothing).startStore := by
  have ⟨_, hline, _⟩ := h
  exact exec_resume tag h hi ho (hy.trans (reply_idleAssembler hline))

variable (h1 : 1 ≤ ticket) (h2 : ticket ≤ 65535) (hk : s.parkedTicket ticket = some (k, x))
include h1 h2 hk

theorem exec_resume_refused {st : Status} (hr : s.resumeRefusal n x = some st) :
    exec (.resume p tag ticket (n.val + 1)) s = .next (s.answered p .resume tag st .nothing).startStore :=
  exec_resume_answered tag h hi ho (resumeNozzle_refused (s := s.idleAssembler p) tag h1 h2 hk hr)

variable (hr : s.resumeRefusal n x = none) {d d' : Delivery} (hm : (s.meter n).state ≠ .faulted)
  (hd : takenUp (s.config.nozzles.read n).tank n x.delivery = d)
  (hd' : recapped x.delivery.tank (d.running + (nozzleTaken (s.idleAssembler p) k n d).stockTerm n) d = d')
include hr hm hd hd'

theorem exec_resume_held (hg : x.delivery.faults.grantWait = false) :
    exec (.resume p tag ticket (n.val + 1)) s =
      .next (((resumedTo (movedToNozzle (s.idleAssembler p) k n d') p n d' x.nozzleLeft).enterHeld n .resumed).reply p
        .resume tag .ok (.resumed d'.ticket d'.fleet d'.limit d'.legs.length .held)).startStore := by
  obtain ⟨hstate, hdelivery⟩ := ctx_enterHeld
    (resumedTo (movedToNozzle (s.idleAssembler p) k n d') p n d' x.nozzleLeft) n .resumed
  rw [ctx_resumedTo] at hdelivery
  have hat := resumeAt_held (s := s.idleAssembler p) hm ho hd hd' hg
  rw [exec_resume tag h hi ho (resumeNozzle_taken (s := s.idleAssembler p) tag h1 h2 hk hr hat hdelivery), hstate]

theorem exec_resume_waits {w : WaitTerms} (hg : x.delivery.faults.grantWait = true) (hw : d'.wait = some w) :
    exec (.resume p tag ticket (n.val + 1)) s =
      .next (((resumedTo (movedToNozzle (s.idleAssembler p) k n d') p n d' x.nozzleLeft).awaitGrant n w).reply p .resume
        tag .ok (.resumed d'.ticket d'.fleet d'.limit d'.legs.length .awaitGrant)).startStore := by
  have hctx := ctx_awaitGrant
    (s := resumedTo (movedToNozzle (s.idleAssembler p) k n d') p n d' x.nozzleLeft) (n := n) (by rw [ctx_resumedTo]) w
  have hat := resumeAt_waits (s := s.idleAssembler p) hm ho hd hd' hg hw
  rw [exec_resume tag h hi ho (resumeNozzle_taken (s := s.idleAssembler p) tag h1 h2 hk hr hat (by rw [hctx])), hctx]

end

/-- Settles O45: the slot is the first found in ascending order, the tests are `resumeRefusal` read one by one, and a
RESUME that passes them is `resumeAt`, the move and the replay and then the state it enters. -/
theorem resumeTakesUpDelivery : Obligations.ResumeTakesUpDelivery := by
  intro p tag ticket n s h hi ho refused tank
  refine ⟨parkedTicket_eq_some_iff ticket, fun hbad => exec_resume_answered tag h hi ho (if_pos hbad),
    fun h1 h2 hk => exec_resume_answered tag h hi ho (resumeNozzle_unknown tag h1 h2 hk), fun k x h1 h2 hk => ?_⟩
  have hrefused {st : Status} (hr : s.resumeRefusal n x = some st) : refused st :=
    exec_resume_refused tag h hi ho h1 h2 hk hr
  refine ⟨fun hx => hrefused (resumeRefusal_busy hx), fun hx he => hrefused (resumeRefusal_disabled hx he),
    fun hx he => ⟨fun hne => hrefused ?_, fun hprod => ⟨fun hf => hrefused ?_, fun hm htier hess => hrefused ?_,
      fun hm htier => ?_⟩⟩⟩
  · rw [resumeRefusal_free hx he, if_pos hne]
  · rw [resumeRefusal_free hx he, if_neg (not_not.2 hprod), if_pos hf]
  · rw [resumeRefusal_free hx he, if_neg (not_not.2 hprod), if_neg hm, if_pos ⟨htier, hess⟩]
  · have hpass : s.resumeRefusal n x = none := by
      rw [resumeRefusal_free hx he, if_neg (not_not.2 hprod), if_neg hm, if_neg]
      rintro ⟨hreserve, hess⟩
      exact htier.elim (fun hne => hne hreserve) fun hyes => Bool.noConfusion (hess.symm.trans hyes)
    obtain ⟨d, hd⟩ : ∃ d, takenUp tank n x.delivery = d := ⟨_, rfl⟩
    obtain ⟨d', hd'⟩ : ∃ d', recapped x.delivery.tank
      (d.running + (nozzleTaken (s.idleAssembler p) k n d).stockTerm n) d = d' := ⟨_, rfl⟩
    obtain ⟨hticket, hfleet, -, hlegs, -, hwait⟩ := hd' ▸ recapped_frame x.delivery.tank _ d
    have hwait' : d'.wait = x.delivery.wait := hwait.trans (hd ▸ rfl)
    refine ⟨?_, fun w hg hw => ?_⟩
    · intro d₁ s1 d2 s2 replayed told takes
      have htold : resumedTo (movedToNozzle (s.idleAssembler p) k n d') p n d' x.nozzleLeft = told := by
        rw [resumedTo_recapped hd', movedToNozzle, ← withDelivery_nozzleTaken d d', ← hd', ← hd]
        rfl
      refine ⟨fun hg => ?_, fun w hg hw => ?_⟩
      · have hexec := exec_resume_held tag h hi ho h1 h2 hk hpass hm hd hd' hg
        rw [htold, hticket, hfleet, hlegs, ← hd', ← hd] at hexec
        exact hexec
      · have hexec := exec_resume_waits tag h hi ho h1 h2 hk hpass hm hd hd' hg (hwait'.trans hw)
        rw [htold, hticket, hfleet, hlegs, ← hd', ← hd] at hexec
        exact hexec
    · refine ⟨_, exec_resume_waits tag h hi ho h1 h2 hk hpass hm hd hd' hg (hwait'.trans hw), ?_⟩
      obtain ⟨hslot, hctx, hmeter⟩ := waits_again (s := s.idleAssembler p) (p := p) (k := k) (n := n)
        (left := x.nozzleLeft) d' w
      rw [State.slot_reply, State.ctx_reply, State.delivery_reply, State.meter_reply, State.delivery, hslot,
        hctx, hmeter]
      exact ⟨rfl, rfl, rfl, rfl, rfl, rfl, rfl⟩

end Sys2Proof.Proofs

namespace Sys2Proof.Proofs
open Sys2Proof Sys2Proof.Machine

/-! ### The tests of a PARK (R126, R128) -/

theorem parkable_iff (x : NozzleState) :
    x.parkable = true ↔ x ∈ [.held, .awaitGrant, .flowFull, .flowSlow, .draining] := by
  cases x <;> decide

theorem not_parkable_iff (x : NozzleState) :
    x.parkable = false ↔ x ∈ [.free, .loaded, .fetching, .priming, .proving] := by
  cases x <;> decide

/-- R128: the nozzle is in a state in which a PARK asks for a slot, with no move pending in DRAINING. -/
def AsksForSlot (s : State) (n : NozzleId) : Prop :=
  (s.ctx n).state ∈ [.held, .awaitGrant, .flowFull, .flowSlow] ∨ (s.ctx n).state = .draining ∧ (s.ctx n).move = .none

section
variable {s : State} {n : NozzleId} (p : Port) (tag : Byte)

theorem AsksForSlot.parkable (h : AsksForSlot s n) : (s.ctx n).state.parkable = true := by
  rw [parkable_iff]
  rcases h with hx | ⟨hx, _⟩
  · exact List.mem_append_left [NozzleState.draining] hx
  · rw [hx]
    decide

theorem AsksForSlot.not_pending (h : AsksForSlot s n) {m : PendingMove} (hm : m ≠ .none) :
    ¬((s.ctx n).state = .draining ∧ (s.ctx n).move = m) := by
  rintro ⟨hd, hpending⟩
  rcases h with hx | ⟨_, hnone⟩
  · rw [hd] at hx
    exact absurd hx (by decide)
  · exact hm (hpending.symm.trans hnone)

theorem parkNozzle_nozzleState (hx : (s.ctx n).state.parkable = false) :
    s.parkNozzle p tag n = s.reply p .park tag .nozzleState .nothing := if_pos (by rw [hx]; rfl)

section
variable (hx : (s.ctx n).state.parkable = true)
include hx

theorem parkNozzle_legLimit (hlegs : ¬(s.delivery n).legs.length < 4) :
    s.parkNozzle p tag n = s.reply p .park tag .legLimit .nothing :=
  (if_neg (by rw [hx]; decide)).trans (if_pos (not_lt.1 hlegs))

variable (hlegs : (s.delivery n).legs.length < 4)
include hlegs

/-- R128: the tests from the pending move on. -/
theorem parkNozzle_fewLegs : s.parkNozzle p tag n =
    if (s.ctx n).state = .draining ∧ (s.ctx n).move = .park then
      s.reply p .park tag .ok (.parkSlot (s.reservedFor n))
    else if (s.ctx n).state = .draining ∧ (s.ctx n).move = .abort then s.reply p .park tag .ok (.parkSlot none)
    else s.freePark.elim (s.reply p .park tag .noParkSlot .nothing) fun k =>
      (s.parkInto n k).reply p .park tag .ok (.parkSlot (some k)) := by
  refine (if_neg (by rw [hx]; decide)).trans ((if_neg (not_le.2 hlegs)).trans ?_)
  cases s.freePark with
  | none => rfl
  | some k => rfl

end

section
variable (hask : AsksForSlot s n) (hlegs : (s.delivery n).legs.length < 4)
include hask hlegs

theorem parkNozzle_asksForSlot : s.parkNozzle p tag n =
    s.freePark.elim (s.reply p .park tag .noParkSlot .nothing) fun k =>
      (s.parkInto n k).reply p .park tag .ok (.parkSlot (some k)) := by
  rw [parkNozzle_fewLegs p tag hask.parkable hlegs, if_neg (hask.not_pending (by decide)),
    if_neg (hask.not_pending (by decide))]

theorem parkNozzle_noParkSlot (hk : s.freePark = none) :
    s.parkNozzle p tag n = s.reply p .park tag .noParkSlot .nothing := by
  rw [parkNozzle_asksForSlot p tag hask hlegs, hk, Option.elim_none]

theorem parkNozzle_intoSlot {k : ParkId} (hk : s.freePark = some k) :
    s.parkNozzle p tag n = (s.parkInto n k).reply p .park tag .ok (.parkSlot (some k)) := by
  rw [parkNozzle_asksForSlot p tag hask hlegs, hk, Option.elim_some]

end

section
variable (hx : (s.ctx n).state = .draining) (hlegs : (s.delivery n).legs.length < 4)
include hx hlegs

theorem parkNozzle_alreadyParking (hm : (s.ctx n).move = .park) :
    s.parkNozzle p tag n = s.reply p .park tag .ok (.parkSlot (s.reservedFor n)) :=
  (parkNozzle_fewLegs p tag (by rw [hx]; rfl) hlegs).trans (if_pos ⟨hx, hm⟩)

theorem parkNozzle_aborting (hm : (s.ctx n).move = .abort) :
    s.parkNozzle p tag n = s.reply p .park tag .ok (.parkSlot none) := by
  have hnot : ¬((s.ctx n).state = .draining ∧ (s.ctx n).move = .park) := fun ⟨_, hpark⟩ => by simp [hm] at hpark
  rw [parkNozzle_fewLegs p tag (by rw [hx]; rfl) hlegs, if_neg hnot, if_pos ⟨hx, hm⟩]

end

/-! ### A PARK that has its slot, by the state of its nozzle (R127, R128) -/

/-- R121: GRANT_CLOSED carries the grant extra of the wait cancelled. -/
theorem cancelWait_eq (s : State) (n : NozzleId) (o : GrantOutcome) : s.cancelWait n o =
    (s.modCtx n fun c => { c with grant := none }).postRole .fleet
      (.grantClosed (s.delivery n).ticket o none none (s.delivery n).grantExtra) := by
  have hdelivery : (s.modCtx n fun c => { c with grant := none }).delivery n = s.delivery n := delivery_modCtx rfl n
  rw [State.cancelWait, State.postClosed, hdelivery]

section
variable (k : ParkId)

theorem parkInto_held (hx : (s.ctx n).state = .held) : s.parkInto n k = s.moveToPark n k .request := by
  simp only [State.parkInto, hx]

theorem parkInto_waiting (hx : (s.ctx n).state = .awaitGrant) : s.parkInto n k =
    (((s.modCtx n fun c => { c with grant := none }).postRole .fleet
      (.grantClosed (s.delivery n).ticket .parked none none (s.delivery n).grantExtra)).addFault n
        .grantWait).moveToPark n k .request := by
  rw [← cancelWait_eq]
  simp only [State.parkInto, hx]

theorem parkInto_flowing (hx : (s.ctx n).state = .flowFull ∨ (s.ctx n).state = .flowSlow) : s.parkInto n k =
    ((s.setSlot k (.reserved n)).stopFlow n .stopped).modCtx n fun c => { c with move := .park } := by
  rcases hx with hx | hx <;> simp only [State.parkInto, hx]

theorem parkInto_draining (hx : (s.ctx n).state = .draining) : s.parkInto n k =
    (s.setSlot k (.reserved n)).modCtx n fun c => { c with move := .park } := by
  simp only [State.parkInto, hx]

end
end

/-! ### PARK as a command (R126 to R128) -/

section
variable {s : State} {p : Port} (tag : Byte) {n : NozzleId} (h : s.Accepts p) (hi : s.role p = .island)
  (ho : (s.config.nozzles.read n).owner = p)
include h hi ho

theorem exec_park {y : State} (hy : (s.idleAssembler p).parkNozzle p tag n = y) :
    exec (.park p tag (n.val + 1)) s = .next y.startStore :=
  exec_ofIsland h hi ho rfl rfl hy (hy ▸ ((Within.refl (fed := False) (s.idleAssembler p)).parkNozzle p tag n).startUp)

theorem exec_park_answered {st : Status} {f : Payload}
    (hy : (s.idleAssembler p).parkNozzle p tag n = (s.idleAssembler p).reply p .park tag st f) :
    exec (.park p tag (n.val + 1)) s = .next (s.answered p .park tag st f).startStore :=
  exec_ofIsland_answered h hi ho rfl rfl hy

/-- R127, R128: a PARK into the free slot found, in terms of what is done in the state of the nozzle. -/
theorem exec_park_intoSlot {k : ParkId} {y : State} (hask : AsksForSlot s n) (hlegs : (s.delivery n).legs.length < 4)
    (hk : s.freePark = some k) (hy : (s.idleAssembler p).parkInto n k = y) :
    exec (.park p tag (n.val + 1)) s = .next (y.reply p .park tag .ok (.parkSlot (some k))).startStore :=
  exec_park tag h hi ho (hy ▸ parkNozzle_intoSlot (s := s.idleAssembler p) p tag hask hlegs hk)

end

/-- Settles O44: a PARK is refused, or answered out of the move pending in DRAINING, by the tests of `parkNozzle` in
their order; past them `parkInto` takes the free slot as the state of the nozzle says. -/
theorem parkTakesEffect : Obligations.ParkTakesEffect := by
  intro p tag n s h hi ho x i few
  have ⟨_, hline, _⟩ := h
  have hasks {z : NozzleState} (hx : (s.ctx n).state = z) (hz : z ∈ [.held, .awaitGrant, .flowFull, .flowSlow]) :
      AsksForSlot s n := .inl (hx ▸ hz)
  refine ⟨fun hx => ?_, fun hx hlegs => ?_, fun hx hlegs hk => ?_, fun hx hm hlegs => ?_, fun hx hm hlegs => ?_,
    fun k hlegs hk => ⟨fun hx => ?_, fun hx => ?_, fun hx => ?_, fun hx hm => ?_⟩⟩
  · exact exec_park_answered tag h hi ho (parkNozzle_nozzleState (s := i) p tag ((not_parkable_iff x).2 hx))
  · exact exec_park_answered tag h hi ho (parkNozzle_legLimit (s := i) p tag ((parkable_iff x).2 hx) hlegs)
  · exact exec_park_answered tag h hi ho (parkNozzle_noParkSlot (s := i) p tag hx hlegs hk)
  · exact exec_park_answered tag h hi ho (parkNozzle_alreadyParking (s := i) p tag hx hlegs hm)
  · exact exec_park_answered tag h hi ho (parkNozzle_aborting (s := i) p tag hx hlegs hm)
  · exact exec_park_intoSlot tag h hi ho (hasks hx (by decide)) hlegs hk (parkInto_held k hx)
  · exact exec_park_intoSlot tag h hi ho (hasks hx (by decide)) hlegs hk (parkInto_waiting k hx)
  · have hask : AsksForSlot s n := hx.elim (fun hx => hasks hx (by decide)) fun hx => hasks hx (by decide)
    exact exec_park_intoSlot tag h hi ho hask hlegs hk (parkInto_flowing k hx)
  · rw [exec_park_intoSlot tag h hi ho (.inr ⟨hx, hm⟩) hlegs hk (parkInto_draining (s := i) k hx)]
    exact congrArg (fun y : State => Host.Outcome.next y.startStore)
      (reply_idleAssembler (s := (s.setSlot k (.reserved n)).modCtx n fun c => { c with move := .park }) hline)

end Sys2Proof.Proofs

namespace Sys2Proof.Proofs
open Sys2Proof Sys2Proof.Machine

/-! ### A cached record written back and told of (R11, R139, R169) -/

theorem kept_touch (s : State) (p : Port) (tag : Byte) (q : WaitingRequest) (l : LineId) :
    (s.touch l).kept p tag q = ((s.idleAssembler p).touch l).takeInHand p tag q :=
  (takeInHand_idleAssembler (s := s.touch l) tag q).symm

section
variable {s : State} {p : Port} {tag : Byte} {q : WaitingRequest} {l : LineId} {st : HeldState} {k : SlotId}
  {r : MachineRecord}

theorem inHand_takeInHand : ((s.takeInHand p tag q).port p).inHand = some { tag := tag, request := q } := by
  rw [State.takeInHand, State.port_modPort_self]

/-- R169: no request is in hand at a port that takes a frame. -/
theorem inHand_used (h : s.Accepts p) (l : LineId) : (((s.idleAssembler p).touch l).port p).inHand = none := by
  show ((s.idleAssembler p).port p).inHand = none
  rw [State.idleAssembler, State.port_modPort_self]
  exact h.2.2

theorem changeRecord_takeInHand (hline : (s.line l).content = .held st k r) (g : MachineRecord → MachineRecord) :
    (s.takeInHand p tag q).changeRecord l g =
      (s.putRecord l k (g (lazyReset s.clock.shift r))).takeInHand p tag q := by
  rw [changeRecord_held (s := s.takeInHand p tag q) hline, putRecord_takeInHand]
  rfl

theorem inHand_putRecord (hi : (s.port p).inHand = none) (x : MachineRecord) :
    ((s.putRecord l k x).port p).inHand = none := by
  rw [State.port, port_putRecord]
  exact hi

/-- R169: notices posted while a request is in hand, and its answer after them. -/
theorem answer_postOffices_takeInHand (hi : (s.port p).inHand = none) (bs : List NoticeBody) (status : Status)
    (g : Payload) : ((s.takeInHand p tag q).postOffices bs).answer p status g =
      (s.postOffices bs).reply p q.code tag status g := by
  rw [postOffices_takeInHand, answer_takeInHand (((postOffices_frame bs s).2 p).1.trans hi)]

end

/-! ### What an hour post is found to be (R142 to R145) -/

section
variable {epoch now : Word32} {tolerance posted : Nat} {r : MachineRecord} {e : Stamp}

theorem usableStamp_current (hs : r.stamp = some e) (he : e.epoch = epoch) (h0 : e.epoch ≠ 0) :
    usableStamp epoch r = some e := by
  simp only [usableStamp, hs, if_pos (And.intro he (he ▸ h0))]

theorem usableStamp_none (h : r.stamp = none ∨ epoch = 0 ∨ ∃ e, r.stamp = some e ∧ e.epoch ≠ epoch) :
    usableStamp epoch r = none := by
  unfold usableStamp
  split
  · rfl
  · next e hs =>
    refine if_neg fun ⟨he, h0⟩ => ?_
    rcases h with hn | hz | ⟨e', hs', he'⟩
    · rw [hs] at hn
      cases hn
    · exact h0 hz
    · rw [hs] at hs'
      cases hs'
      exact he' he

/-- R137: a post at or above the reading, clamped or not, is refused when the lifetime hours would pass their bound. -/
def boundedVerdict (r : MachineRecord) (v : Nat) (clamp : Option (Nat × Nat)) : HoursVerdict :=
  if 99999999 < v + r.offset then .overflow else .taken v clamp

theorem boundedVerdict_overflow {v : Nat} {c : Option (Nat × Nat)} (h : 99999999 < v + r.offset) :
    boundedVerdict r v c = .overflow := if_pos h

theorem boundedVerdict_taken {v : Nat} {c : Option (Nat × Nat)} (h : v + r.offset ≤ 99999999) :
    boundedVerdict r v c = .taken v c := if_neg (not_lt.2 h)

theorem hoursVerdict_regress (h : posted < r.reading) : hoursVerdict epoch now tolerance r posted = .held := if_pos h

section
variable (hr : r.reading ≤ posted)
include hr

theorem hoursVerdict_unstamped (hu : usableStamp epoch r = none) :
    hoursVerdict epoch now tolerance r posted = boundedVerdict r posted none := by
  simp only [hoursVerdict, if_neg (not_lt.2 hr), hu, boundedVerdict]

theorem hoursVerdict_within (hu : usableStamp epoch r = some e)
    (hj : posted - r.reading ≤ jumpLimit (elapsedSince now e) tolerance) :
    hoursVerdict epoch now tolerance r posted = boundedVerdict r posted none := by
  simp only [hoursVerdict, if_neg (not_lt.2 hr), hu, if_pos hj, boundedVerdict]

theorem hoursVerdict_jump (hu : usableStamp epoch r = some e)
    (hj : jumpLimit (elapsedSince now e) tolerance < posted - r.reading) :
    hoursVerdict epoch now tolerance r posted =
      boundedVerdict r (r.reading + jumpLimit (elapsedSince now e) tolerance)
        (some (elapsedSince now e, jumpLimit (elapsedSince now e) tolerance)) := by
  simp only [hoursVerdict, if_neg (not_lt.2 hr), hu, if_neg (not_le.2 hj), boundedVerdict]

end

/-! ### The record after an hour post (R146) -/

theorem hoursApplied_same : hoursApplied epoch now r.reading r =
    { r with stamp := some { epoch := epoch, time := now } } := if_pos rfl

/-- R138, R139, R146: a reading that changes has the HOURS lines judged by the lifetime hours then reached. -/
theorem hoursApplied_moved {v : Nat} (h : v ≠ r.reading) : hoursApplied epoch now v r = { r with
    reading := v, stamp := some { epoch := epoch, time := now },
    lines := r.lines.map fun y => if y.basis = .hours then judged y ((v + r.offset : Nat) : Int) else y,
    restricted := restricts
      (r.lines.map fun y => if y.basis = .hours then judged y ((v + r.offset : Nat) : Int) else y) } := by
  have hpick (y : ServiceLine) :
      (if ofBasis .hours y then judged y
          (lifetime { r with reading := v, stamp := some { epoch := epoch, time := now } } y.basis) else y) =
        if y.basis = .hours then judged y ((v + r.offset : Nat) : Int) else y := by
    by_cases hy : y.basis = .hours
    · simp only [ofBasis, hy, decide_true, if_true, lifetime]
    · simp [ofBasis, hy]
  simp only [hoursApplied, if_neg h, monitored_eq, hpick]

/-- R137: the lifetime hours that a post reaches. -/
theorem lifetime_hoursApplied (v : Nat) : lifetime (hoursApplied epoch now v r) .hours = v + r.offset := by
  unfold hoursApplied
  split <;> rfl

end

/-! ### HOURS with its record in hand (R143 to R147) -/

/-- R143 to R145: what becomes of a post to a record, by the part's epoch, time and tolerance. -/
abbrev postVerdict (s : State) (r : MachineRecord) (posted : Nat) : HoursVerdict :=
  hoursVerdict s.config.time.epoch s.clock.siteTime s.config.service.hourTolerance r posted

section
variable {s : State} {p : Port} {tag : Byte} {q : WaitingRequest} {l : LineId} {st : HeldState} {k : SlotId}
  {r : MachineRecord} {posted : Nat}

theorem postJump_takeInHand (c : Option (Nat × Nat)) (v : Nat) :
    (s.takeInHand p tag q).postJump p r posted v c = (s.postJump p r posted v c).takeInHand p tag q := by
  cases c with
  | none => rfl
  | some x => exact postWhere_takeInHand ..

theorem postJump_frame (c : Option (Nat × Nat)) (v : Nat) :
    s.postJump p r posted v c = { s with ports := (s.postJump p r posted v c).ports }
      ∧ ((s.postJump p r posted v c).port p).inHand = (s.port p).inHand := by
  cases c with
  | none => exact ⟨rfl, rfl⟩
  | some x => exact ⟨rfl, (port_postWhere_frame ..).1⟩

variable (hi : (s.port p).inHand = none)
include hi

theorem serveHours_overflow (hv : postVerdict s r posted = .overflow) :
    (s.takeInHand p tag q).serveHours p l r posted = s.reply p q.code tag .badReading .nothing := by
  simp only [State.serveHours, State.takeInHand_config, State.takeInHand_clock, hv]
  exact answer_takeInHand hi ..

theorem serveHours_held (hv : postVerdict s r posted = .held) : (s.takeInHand p tag q).serveHours p l r posted =
      (s.postOffice (.hourAnomaly r.fleet .regress posted r.reading r.reading none none p)).reply p q.code tag .okHeld
        (.hoursHeld posted r.reading) := by
  simp only [State.serveHours, State.takeInHand_config, State.takeInHand_clock, hv]
  exact answer_postOffices_takeInHand hi [_] ..

/-- R145 to R147: a post that is taken, clamped or not, is told of when clamped, written back and answered. -/
theorem serveHours_taken (hline : (s.line l).content = .held st k r) {v : Nat} {c : Option (Nat × Nat)}
    {new : MachineRecord} (hv : postVerdict s r posted = .taken v c)
    (hnew : hoursApplied s.config.time.epoch s.clock.siteTime v (lazyReset s.clock.shift r) = new) :
    (s.takeInHand p tag q).serveHours p l r posted =
      (((s.postJump p r posted v c).putRecord l k new).postOffices
        (serviceNotes r.lines r.restricted new .hours)).reply p q.code tag (if c.isSome then .okClamped else .ok)
          (.hoursTaken posted v (lifetime new .hours) new.restricted) := by
  obtain ⟨hjump, hhand⟩ := postJump_frame (s := s) (p := p) (r := r) (posted := posted) c v
  have hput : ((s.takeInHand p tag q).postJump p r posted v c).changeRecord l
      (hoursApplied s.config.time.epoch s.clock.siteTime v) =
        ((s.postJump p r posted v c).putRecord l k new).takeInHand p tag q := by
    rw [postJump_takeInHand, changeRecord_takeInHand (st := st) (k := k) (r := r) (by rw [hjump]; exact hline), ← hnew,
      hjump]
  have hrecord : (((s.postJump p r posted v c).putRecord l k new).takeInHand p tag q).recordAt l = some new :=
    recordAt_putRecord l k new
  simp only [State.serveHours, State.takeInHand_config, State.takeInHand_clock, hv, hput, hrecord]
  exact answer_postOffices_takeInHand (inHand_putRecord (hhand.trans hi) new) ..

end

/-- R8, R143: HOURS of a cached machine has its record at once. -/
theorem exec_hours_cached {s : State} {p : Port} {f posted : Nat} {l : LineId} {st : HeldState} {k : SlotId}
    {r : MachineRecord} (tag : Byte) (h : s.Accepts p) (hf : s.role p = .fleet) (hc : s.Cached f l st k r)
    (hp : posted ≤ 999999) : exec (.hours p tag f posted) s =
      .next ((((s.idleAssembler p).touch l).takeInHand p tag (.hours f posted)).serveHours p l r posted).startStore := by
  have hline : (((s.touch l).kept p tag (.hours f posted)).line l).content = .held st k r := hc.2.2
  rw [(asks_hours s p tag f hf hp).exec_cached h hc, ← kept_touch, State.serve, inHand_kept, hline]

/-- R143: a reading out of its range is refused before the record is sought. -/
theorem exec_hours_badField {s : State} {p : Port} {posted : Nat} (tag : Byte) (f : Nat) (h : s.Accepts p)
    (hf : s.role p = .fleet) (hp : 999999 < posted) : exec (.hours p tag f posted) s =
      .next ((s.idleAssembler p).reply p .hours tag .badField .nothing).startStore := by
  rw [reply_idleAssembler h.2.1]
  refine exec_answered h (permits_fleet hf rfl) rfl (if_neg ?_)
  simp only [readingOk, decide_eq_true_eq]
  exact not_le.2 hp

/-- Settles O50: `hoursVerdict` finds by R142 to R145 what becomes of a post, `serveHours` carries it out, and
`hoursApplied_moved` says what R146 makes of the record. -/
theorem hoursPostsAreChecked : Obligations.HoursPostsAreChecked := by
  intro p tag f posted l st k r s h hf hc x done now after taken
  have hi : (x.port p).inHand = none := inHand_used h l
  have hline : (x.line l).content = .held st k r := hc.2.2
  have hafter (v : Nat) :
      hoursApplied s.config.time.epoch s.clock.siteTime v (lazyReset s.clock.shift r) = after v := by
    rw [lazyReset_eq]
    by_cases hv : v = r.reading
    · subst hv
      exact (hoursApplied_same (r := now)).trans (if_pos rfl).symm
    · exact (hoursApplied_moved (r := now) hv).trans (if_neg hv).symm
  have hlife (v : Nat) : lifetime (after v) .hours = v + r.offset := by
    rw [← hafter, lifetime_hoursApplied, lazyReset_eq]
  have hover {v : Nat} {c : Option (Nat × Nat)} (hp : posted ≤ 999999)
      (hv : postVerdict s r posted = boundedVerdict r v c) (hb : 99999999 < v + r.offset) :
      done x .badReading .nothing := by
    show exec _ s = _
    rw [exec_hours_cached tag h hf hc hp, serveHours_overflow hi (hv.trans (boundedVerdict_overflow hb))]
    rfl
  have htaken {v : Nat} {c : Option (Nat × Nat)} (hp : posted ≤ 999999)
      (hv : postVerdict s r posted = boundedVerdict r v c) (hb : v + r.offset ≤ 99999999) :
      taken (x.postJump p r posted v c) v (if c.isSome then .okClamped else .ok) := by
    show exec _ s = _
    rw [exec_hours_cached tag h hf hc hp,
      serveHours_taken hi hline (hv.trans (boundedVerdict_taken hb)) (hafter v), hlife]
    rfl
  refine ⟨exec_hours_badField tag f h hf, fun hp hlow => ?_, fun hp hr => ⟨fun e hs he h0 => ?_, fun hu => ?_⟩⟩
  · show exec _ s = _
    rw [exec_hours_cached tag h hf hc hp, serveHours_held hi (hoursVerdict_regress hlow)]
    rfl
  · have hu := usableStamp_current hs he h0
    intro elapsed limit
    have hjump (hj : limit < posted - r.reading) :
        postVerdict s r posted = boundedVerdict r (r.reading + limit) (some (elapsed, limit)) :=
      hoursVerdict_jump hr hu hj
    exact ⟨fun hj => hover hp (hoursVerdict_within hr hu hj),
      fun hj => htaken (c := none) hp (hoursVerdict_within hr hu hj),
      fun hj => hover hp (hjump hj), fun hj => htaken (c := some (elapsed, limit)) hp (hjump hj)⟩
  · have hv : postVerdict s r posted = boundedVerdict r posted none := hoursVerdict_unstamped hr (usableStamp_none hu)
    exact ⟨hover hp hv, htaken (c := none) hp hv⟩

end Sys2Proof.Proofs

namespace Sys2Proof.Proofs
open Sys2Proof Sys2Proof.Machine

/-! ### The changes of chapter 8 and the lazy shift reset (R6) -/

/-- R6: a change that neither reads nor sets what a record has used this shift. -/
def IgnoresUsage (change : MachineRecord → Status ⊕ MachineRecord) : Prop :=
  ∀ (r : MachineRecord) (used : Nat) (shift : Word32), change { r with used := used, usageShift := shift } =
    (change r).map id fun x => { x with used := used, usageShift := shift }

theorem lifetime_withUsage (r : MachineRecord) (used : Nat) (shift : Word32) (b : Basis) :
    lifetime { r with used := used, usageShift := shift } b = lifetime r b := by cases b <;> rfl

theorem ignoresUsage_meterChanged (o x : Nat) : IgnoresUsage (meterChanged o x) := fun r used shift => by
  simp only [meterChanged]
  split
  · rfl
  · split <;> rfl

theorem ignoresUsage_serviceDone (num x : Nat) : IgnoresUsage (serviceDone num x) := fun r used shift => by
  cases hl : findLine r.lines num with
  | none => simp only [serviceDone, hl, Sum.map_inl, id_eq]
  | some l =>
    simp only [serviceDone, hl, lifetime_withUsage]
    split <;> rfl

theorem ignoresUsage_waived (num x : Nat) : IgnoresUsage (waived num x) := fun r used shift => by
  cases hl : findLine r.lines num with
  | none => simp only [waived, hl, Sum.map_inl, id_eq]
  | some l =>
    simp only [waived, hl]
    split <;> rfl

theorem ignoresUsage_lineSet (y : ServiceLine) : IgnoresUsage (lineSet y) := fun r used shift => by
  simp only [lineSet, lifetime_withUsage]
  split <;> rfl

theorem ignoresUsage_lineRemoved (num : Nat) : IgnoresUsage (lineRemoved num) := fun r used shift => by
  cases hl : findLine r.lines num with
  | none => simp only [lineRemoved, hl, Sum.map_inl, id_eq]
  | some l => simp only [lineRemoved, hl, Sum.map_inr]

section
variable {change : MachineRecord → Status ⊕ MachineRecord} (hc : IgnoresUsage change) {shift : Word32}
  {r : MachineRecord}
include hc

theorem IgnoresUsage.refused {status : Status} (h : change (lazyReset shift r) = .inl status) :
    change r = .inl status := by
  rw [lazyReset_eq, hc] at h
  cases hr : change r with
  | inl w => rw [hr] at h; exact h
  | inr y => rw [hr] at h; cases h

theorem IgnoresUsage.made {new : MachineRecord} (h : change (lazyReset shift r) = .inr new) :
    ∃ y, change r = .inr y := by
  rw [lazyReset_eq, hc] at h
  cases hr : change r with
  | inl w => rw [hr] at h; cases h
  | inr y => exact ⟨y, rfl⟩

end

/-! ### A workshop change with its record in hand (R148 to R152) -/

section
variable {s : State} {p : Port} {tag : Byte} {q : WaitingRequest} {l : LineId} {st : HeldState} {k : SlotId}
  {r : MachineRecord} {num : Nat} {cause : ServiceCause} {change : MachineRecord → Status ⊕ MachineRecord}
  (hi : (s.port p).inHand = none)
include hi

theorem serveService_refused {status : Status} (hr : change r = .inl status) :
    (s.takeInHand p tag q).serveService p l r num cause change = s.reply p q.code tag status .nothing := by
  simp only [State.serveService, hr]
  exact answer_takeInHand hi ..

/-- Section 8.3: a change that is made is written back, told of and answered. -/
theorem serveService_made (hline : (s.line l).content = .held st k r) {y new : MachineRecord} (hr : change r = .inr y)
    (hnew : change (lazyReset s.clock.shift r) = .inr new) :
    (s.takeInHand p tag q).serveService p l r num cause change =
      ((s.putRecord l k new).postOffices (serviceNotes r.lines r.restricted new cause)).reply p q.code tag .ok
        (servicePayload num (((findLine r.lines num).map fun x => x.basis).getD .hours) new) := by
  have hrecord : ((s.putRecord l k new).takeInHand p tag q).recordAt l = some new := recordAt_putRecord l k new
  simp only [State.serveService, hr, changeRecord_takeInHand hline, hnew, hrecord]
  refine (answer_postOffices_takeInHand (inHand_putRecord hi new) ..).trans
    (congrArg (State.reply _ p q.code tag .ok) ?_)
  cases findLine r.lines num <;> rfl

end

/-- Section 8.3: a request in hand that makes a change to its machine's record, naming a line and giving a cause. -/
structure ChangesService (q : WaitingRequest) (num : Nat) (cause : ServiceCause)
    (change : MachineRecord → Status ⊕ MachineRecord) : Prop where
  serve : ∀ (s : State) (p : Port) (tag : Byte) (l : LineId) (st : HeldState) (k : SlotId) (r : MachineRecord),
    (s.line l).content = .held st k r →
      (s.takeInHand p tag q).serve p l = (s.takeInHand p tag q).serveService p l r num cause change
  ignores : IgnoresUsage change

/-- What a request in hand meets when its machine's line holds a record. -/
theorem held_takeInHand {s : State} {l : LineId} {st : HeldState} {k : SlotId} {r : MachineRecord}
    (hline : (s.line l).content = .held st k r) (p : Port) (tag : Byte) (q : WaitingRequest) :
    ((s.takeInHand p tag q).port p).inHand = some { tag := tag, request := q }
      ∧ ((s.takeInHand p tag q).line l).content = .held st k r := ⟨inHand_takeInHand, hline⟩

section
variable (f num x y : Nat)

theorem changesService_meterChange : ChangesService (.meterChange f x y) 0 .meterChange (meterChanged x y) where
  serve s p tag l st k r hline := by simp only [State.serve, held_takeInHand hline]
  ignores := ignoresUsage_meterChanged x y

theorem changesService_serviceDone : ChangesService (.serviceDone f num x) num .serviceDone (serviceDone num x) where
  serve s p tag l st k r hline := by simp only [State.serve, held_takeInHand hline]
  ignores := ignoresUsage_serviceDone num x

theorem changesService_waiver : ChangesService (.waiver f num x) num .waiver (waived num x) where
  serve s p tag l st k r hline := by simp only [State.serve, held_takeInHand hline]
  ignores := ignoresUsage_waived num x

theorem changesService_setLineRemove : ChangesService (.setLineRemove f num) num .setLine (lineRemoved num) where
  serve s p tag l st k r hline := by simp only [State.serve, held_takeInHand hline]
  ignores := ignoresUsage_lineRemoved num

theorem changesService_setLine {a : LineFields} {z : ServiceLine} (ha : setLineOf a = some z) :
    ChangesService (.setLine f a) a.number .setLine (lineSet z) where
  serve s p tag l st k r hline := by simp only [State.serve, held_takeInHand hline, ha]
  ignores := ignoresUsage_lineSet z

end

/-! ### A workshop change as a command (R148 to R152) -/

/-- Section 8.3: of a cached machine such a request is refused, or its change made after the lazy reset. -/
theorem exec_changesService {s : State} {p : Port} {tag : Byte} {f : Nat} {c : Instr} {q : WaitingRequest} {l : LineId}
    {st : HeldState} {k : SlotId} {r : MachineRecord} {num : Nat} {cause : ServiceCause}
    {change : MachineRecord → Status ⊕ MachineRecord} (ha : Asks s p tag f c q)
    (hq : ChangesService q num cause change) (h : s.Accepts p) (hc : s.Cached f l st k r) :
    (∀ status, change (lazyReset s.clock.shift r) = .inl status → exec c s =
      .next ((s.touch l).answered p q.code tag status .nothing).startStore)
    ∧ ∀ new, change (lazyReset s.clock.shift r) = .inr new → exec c s =
      .next (((((s.idleAssembler p).touch l).putRecord l k new).postOffices
        (serviceNotes r.lines r.restricted new cause)).reply p q.code tag .ok
          (servicePayload num (((findLine r.lines num).map fun x => x.basis).getD .hours) new)).startStore := by
  have hi := inHand_used h l
  have hline : (((s.idleAssembler p).touch l).line l).content = .held st k r := hc.2.2
  rw [ha.exec_cached h hc, kept_touch, hq.serve _ p tag l st k r hline]
  refine ⟨fun status hst => ?_, fun new hnew => ?_⟩
  · rw [serveService_refused hi (hq.ignores.refused hst)]
    exact congrArg (fun y : State => Host.Outcome.next y.startStore) (reply_idleAssembler (s := s.touch l) h.2.1)
  · obtain ⟨y, hy⟩ := hq.ignores.made hnew
    rw [serveService_made hi hline hy hnew]

theorem readingsOk_iff (x y : Nat) : (readingOk x && readingOk y) = true ↔ x ≤ 999999 ∧ y ≤ 999999 := by
  simp only [readingOk, Bool.and_eq_true, decide_eq_true_eq]

theorem lineNumberOk_iff (n : Nat) : lineNumberOk n = true ↔ 1 ≤ n ∧ n ≤ 4 := by
  simp only [lineNumberOk, decide_eq_true_eq]

theorem lineFigureOk_iff (n x : Nat) :
    (lineNumberOk n && decide (x ≤ maxWord)) = true ↔ (1 ≤ n ∧ n ≤ 4) ∧ x ≤ 4294967295 := by
  rw [Bool.and_eq_true, lineNumberOk_iff, decide_eq_true_eq]

/-- Settles O51: the figures of a SET_LINE by `lineOf_eq_some_iff`; each figure refused by the test of its
block; what a request makes of a cached machine by `exec_changesService`. -/
theorem cachedServiceRequests : Obligations.CachedServiceRequests := by
  refine ⟨fun x y => lineOf_eq_some_iff .., fun p tag f num x y line s h hw => ?_,
    fun p tag f l st k r c code cause num change s h hw hc hreq => ?_⟩
  · intro badField
    have hrefused {c : Instr} {code : ReqCode} {b : State → State} (hcode : code.ofWorkshop = true)
        (he : exec c s = s.event fun x => x.admission p code tag none b) (hb : ∀ z, b z = z.badField p code tag) :
        badField c code := exec_answered h (permits_workshop hw hcode) he (hb _)
    refine ⟨fun hxy => ?_, fun hx => ?_, fun hno => ?_, fun hnum => ?_⟩
    · exact hrefused rfl rfl fun z => if_neg (mt (readingsOk_iff x y).1 (by omega))
    · have hout := mt (lineFigureOk_iff num x).1 (by omega)
      exact ⟨hrefused rfl rfl fun z => if_neg hout, hrefused rfl rfl fun z => if_neg hout⟩
    · have hnone : ¬ (setLineOf line).isSome = true := fun hsome =>
        have ⟨z, hz⟩ := Option.isSome_iff_exists.1 hsome
        hno z ((lineOf_eq_some_iff ..).1 hz).1
      exact hrefused rfl rfl fun z => if_neg hnone
    · exact hrefused rfl rfl fun z => if_neg (mt (lineNumberOk_iff num).1 (by omega))
  · have hq : ∃ q, q.code = code ∧ Asks s p tag f c q ∧ ChangesService q num cause change := by
      rcases hreq with ⟨o, x, ho, hx, rfl, rfl, rfl, rfl, rfl⟩ | ⟨x, h1, h4, hx, rfl, rfl, rfl, rfl⟩ |
        ⟨x, h1, h4, hx, rfl, rfl, rfl, rfl⟩ | ⟨x, y, hy, rfl, rfl, rfl, rfl, rfl⟩ | ⟨h1, h4, rfl, rfl, rfl, rfl⟩
      · exact ⟨_, rfl, asks_meterChange tag f hw ho hx, changesService_meterChange f o x⟩
      · exact ⟨_, rfl, asks_serviceDone tag f hw ⟨h1, h4⟩ hx, changesService_serviceDone f num x⟩
      · exact ⟨_, rfl, asks_waiver tag f hw ⟨h1, h4⟩ hx, changesService_waiver f num x⟩
      · exact ⟨_, rfl, asks_setLine tag f hw (by rw [hy]; rfl), changesService_setLine f hy⟩
      · exact ⟨_, rfl, asks_setLineRemove tag f hw ⟨h1, h4⟩, changesService_setLineRemove f num⟩
    obtain ⟨q, rfl, ha, hq⟩ := hq
    intro now
    obtain ⟨hrefused, hmade⟩ := exec_changesService ha hq h hc
    rw [lazyReset_eq] at hrefused hmade
    refine ⟨hrefused, fun new hnew => ?_⟩
    intro found basis
    rw [hmade new hnew]
    have hbasis : (found.map fun x => x.basis).getD
        (((findLine r.lines num).map fun x => x.basis).getD .hours) = basis := by
      simp only [basis, found]
      cases findLine new.lines num with
      | some y => rfl
      | none => cases findLine r.lines num <;> rfl
    exact congrArg (fun b => Host.Outcome.next (State.reply _ p q.code tag .ok
      (.service found (lifetime new b) new.restricted)).startStore) hbasis

end Sys2Proof.Proofs

namespace Sys2Proof.Proofs
open Sys2Proof Sys2Proof.Machine

/-! ### The journal's sequence numbers (R159) -/

section
variable {j k : Journal}

/-- R159: the number of the entry at a position, counted back from the next number. -/
theorem consecutive_iff : j.Consecutive ↔ ∀ (i : Nat) (e : JournalEntry), j.entries[i]? = some e →
    e.seq = j.nextSeq - BitVec.ofNat 32 (j.entries.length - i) := by
  refine ⟨fun h i e he => ?_, fun h i => h i _ (List.getElem?_eq_getElem i.isLt)⟩
  obtain ⟨hi, rfl⟩ := List.getElem?_eq_some_iff.1 he
  exact h ⟨i, hi⟩

theorem consecutive_of_no_entries (h : j.entries = []) : j.Consecutive :=
  consecutive_iff.2 fun i e he => by simp [h] at he

/-- R159: an entry that stood `n` numbers before the next one stands `n + 1` before it once another is added. -/
theorem sub_ofNat_eq_succ_sub (x : Word32) (n : Nat) : x - BitVec.ofNat 32 n = x + 1 - BitVec.ofNat 32 (n + 1) := by
  rw [BitVec.ofNat_add]
  bv_omega

theorem consecutive_append (h : j.Consecutive) {e : JournalEntry} (he : e.seq = j.nextSeq) (r : Nat) :
    Journal.Consecutive { entries := j.entries ++ [e], reservations := r, nextSeq := j.nextSeq + 1 } := by
  refine consecutive_iff.2 fun i x hx => ?_
  dsimp only at hx ⊢
  rw [List.length_append, List.length_singleton]
  rcases lt_trichotomy i j.entries.length with hi | rfl | hi
  · rw [List.getElem?_append_left hi] at hx
    rw [consecutive_iff.1 h i x hx, sub_ofNat_eq_succ_sub, Nat.sub_add_comm hi.le]
  · obtain rfl : e = x := by simpa using hx
    simp [he]
  · simp [List.getElem?_eq_none (show (j.entries ++ [e]).length ≤ i by simpa using hi)] at hx

theorem consecutive_dropHead (h : j.Consecutive) : j.dropHead.Consecutive := by
  refine consecutive_iff.2 fun i x hx => ?_
  simp only [Journal.dropHead, List.getElem?_drop] at hx
  rw [consecutive_iff.1 h (1 + i) x hx, Journal.dropHead, List.length_drop, Nat.sub_sub]

/-- R157 to R165: each of the journal's steps keeps its numbers consecutive. -/
theorem consecutive_journalStep (hstep : JournalStep j k) (h : j.Consecutive) : k.Consecutive := by
  cases hstep with
  | append e he => exact consecutive_append h he _
  | reserve => exact h
  | release => exact consecutive_dropHead h
  | cold => exact consecutive_of_no_entries rfl

theorem consecutive_of_run (hrun : Relation.ReflTransGen JournalStep j k) (h : j.Consecutive) : k.Consecutive := by
  induction hrun with
  | refl => exact h
  | tail _ hstep ih => exact consecutive_journalStep hstep ih

end

/-- R157 to R165: what a step makes of the journal, whatever command is at the front of the queue. -/
theorem step_journal {s t : State} (h : step s = .next t) : Relation.ReflTransGen JournalStep s.journal t.journal := by
  unfold step at h
  split at h
  · cases h
    exact .refl
  · exact (exec_moves (fed := False) h fun hf => hf.elim).journal

/-- Settles O3: a step moves the journal by a run of `JournalStep`s (`step_journal`), and each of them keeps its numbers
consecutive. -/
theorem journalNumbersStayConsecutive : Obligations.JournalNumbersStayConsecutive :=
  fun _ _ hs hstep => consecutive_of_run (step_journal hstep) hs

/-! ### The cold start (R165, R178) -/

@[simp] theorem port_reset (p : Port) : State.reset.port p = resetPort := Vector.getElem_replicate p.isLt

@[simp] theorem line_reset (l : LineId) : State.reset.line l = emptyLine := Vector.getElem_replicate l.isLt

/-- Settles O6: the cold start's journal holds no entry, each of its ports is `resetPort` and each of its lines
`emptyLine`. -/
theorem resetMeetsInvariants : Obligations.ResetMeetsInvariants := by
  refine ⟨consecutive_of_no_entries rfl, rfl, rfl, fun p => ?_, fun l st k r h => ?_, fun p => ?_⟩
  · simp [resetPort, PortState.Bounded]
  · simp [emptyLine] at h
  · simp [resetPort]

/-! ### Collecting the journal (R162, R163) -/

section
variable {s : State} {p : Port} {tag : Byte} {seq : Word32}

/-- R170: FLEET and WORKSHOP both have the request in their rows. -/
theorem permits_collector (h : s.role p = .fleet ∨ s.role p = .workshop) {c : ReqCode} (hf : c.ofFleet = true)
    (hw : c.ofWorkshop = true) : s.permits p c none = true :=
  h.elim (permits_fleet · hf) (permits_workshop · hw)

theorem exec_journalFetch (h : s.Accepts p) (hr : s.role p = .fleet ∨ s.role p = .workshop) :
    exec (.journalFetch p tag) s = .next (s.answered p .journalFetch tag
      (if s.journal.entries.isEmpty then .empty else .ok) s.journalPayload).startStore :=
  exec_answered h (permits_collector hr rfl rfl) rfl rfl

/-- R163: a release of a number the head entry does not carry. -/
theorem exec_journalRelease_stale (h : s.Accepts p) (hr : s.role p = .fleet ∨ s.role p = .workshop)
    (hne : s.journal.head ≠ some seq) :
    exec (.journalRelease p tag seq) s =
      .next (s.answered p .journalRelease tag .stale (.stale s.journal.head)).startStore :=
  exec_answered h (permits_collector hr rfl rfl) rfl (if_neg hne)

/-- R163: a release of the number the head entry carries. -/
theorem exec_journalRelease_head (h : s.Accepts p) (hr : s.role p = .fleet ∨ s.role p = .workshop)
    (hh : s.journal.head = some seq) :
    exec (.journalRelease p tag seq) s =
      .next (({ s with journal := s.journal.dropHead } : State).answered p .journalRelease tag .ok
        (.released s.journal.dropHead.head s.journal.dropHead.entries.length s.journal.reservations)).startStore := by
  have ⟨⟨_, hready⟩, hline, _⟩ := h
  have hrelease : (s.idleAssembler p).release p tag seq =
      ({ s with journal := s.journal.dropHead } : State).answered p .journalRelease tag .ok
        (.released s.journal.dropHead.head s.journal.dropHead.entries.length s.journal.reservations) :=
    (if_pos hh).trans (reply_idleAssembler (s := { s with journal := s.journal.dropHead }) hline)
  exact (event_accepts h (permits_collector hr rfl rfl) (by rw [hrelease]; exact hready)).trans
    (congrArg (fun y : State => Host.Outcome.next y.startStore) hrelease)

end

/-- Settles O47: a fetch answers the head entry (`exec_journalFetch`), and a release is decided by the head entry's
number. -/
theorem journalIsCollectedFromItsHead : Obligations.JournalIsCollectedFromItsHead := by
  intro p tag seq s h hr full
  refine ⟨fun e rest hentries => ?_, fun hentries => ?_⟩
  · have hhead : s.journal.head = some e.seq := by rw [Journal.head, hentries]; rfl
    refine ⟨?_, fun hseq => ?_, fun hseq => ?_⟩
    · rw [exec_journalFetch h hr, State.journalPayload, hentries]
      rfl
    · have hdrop : s.journal.dropHead = { s.journal with entries := rest } := by rw [Journal.dropHead, hentries]; rfl
      rw [exec_journalRelease_head h hr (hhead.trans (congrArg some hseq)), hdrop]
      rfl
    · rw [exec_journalRelease_stale h hr (by simpa only [hhead, ne_eq, Option.some.injEq] using hseq), hhead]
  · have hhead : s.journal.head = none := by rw [Journal.head, hentries]; rfl
    refine ⟨?_, ?_⟩
    · rw [exec_journalFetch h hr, State.journalPayload, hentries]
      rfl
    · rw [exec_journalRelease_stale h hr (by simp [hhead]), hhead]

end Sys2Proof.Proofs

namespace Sys2Proof.Proofs
open Sys2Proof Sys2Proof.Machine

/-! ### The bounds of a notice queue (R166, R172) -/

section
variable {x y : PortState}

/-! R172: a masked notice does nothing at a port; another enters a queue with room, and is lost at a full one. -/

theorem enterNotice_masked {n : Notice} (h : maskHas x.mask n.body.kind = true) : enterNotice n x = x := if_pos h

theorem enterNotice_room {n : Notice} (h : maskHas x.mask n.body.kind = false) (hroom : x.notices.length < 32) :
    enterNotice n x = attend x { x with notices := x.notices ++ [n] } := by
  rw [enterNotice, if_neg (by simp [h]), if_pos hroom]

theorem enterNotice_full {n : Notice} (h : maskHas x.mask n.body.kind = false) (hfull : 32 ≤ x.notices.length) :
    enterNotice n x = attend x { x with lost := true } := by
  rw [enterNotice, if_neg (by simp [h]), if_neg (by omega)]

theorem bounded_enterNotice (n : Notice) (h : x.Bounded) : (enterNotice n x).Bounded := by
  obtain ⟨hlength, hlost⟩ := h
  cases hmask : maskHas x.mask n.body.kind
  · rcases Nat.lt_or_ge x.notices.length 32 with hroom | hfull
    · have hkept : x.lost = false := Bool.eq_false_iff.2 fun hl => absurd (hlost hl) hroom.ne
      simp [enterNotice_room hmask hroom, attend, PortState.Bounded, hkept]
      omega
    · simp [enterNotice_full hmask hfull, attend, PortState.Bounded]
      omega
  · rw [enterNotice_masked hmask]
    exact ⟨hlength, hlost⟩

/-- R172, R173, R177, R178: each thing that can become of a port keeps its queue within its bounds. -/
theorem bounded_portStep (hstep : PortStep x y) (h : x.Bounded) : y.Bounded := by
  cases hstep with
  | enter n => exact bounded_enterNotice n h
  | take => exact ⟨(List.length_drop ▸ Nat.sub_le ..).trans h.1, nofun⟩
  | emptied _ _ hnotices hclear => simp [PortState.Bounded, hnotices, hclear]
  | other _ _ hnotices hsame => rwa [PortState.Bounded, hnotices, hsame]

theorem bounded_of_run (hrun : Relation.ReflTransGen PortStep x y) (h : x.Bounded) : y.Bounded := by
  induction hrun with
  | refl => exact h
  | tail _ hstep ih => exact bounded_portStep hstep ih

end

/-- R172, R173, R177, R178: what a step makes of a port, whatever command is at the front of the queue. -/
theorem step_port {s t : State} (h : step s = .next t) (p : Port) :
    Relation.ReflTransGen PortStep (s.port p) (t.port p) := by
  unfold step at h
  split at h
  · cases h
    exact .refl
  · exact (exec_moves (fed := False) h fun hf => hf.elim).port p

/-- Settles O4: a step moves each port by a run of `PortStep`s (`step_port`), and each of them keeps the queue
bounded. -/
theorem noticeQueuesStayBounded : Obligations.NoticeQueuesStayBounded :=
  fun _ _ hs hstep p => bounded_of_run (step_port hstep p) (hs p)

/-! ### A notice posted (R171, R172, R175) -/

section
variable {x : PortState} {n : Notice}

/-- R175: a notice that enters can make two conditions true: NON_EMPTY with the first, AT_16 with the sixteenth. -/
theorem attend_entered : attend x { x with notices := x.notices ++ [n] } =
    { x with notices := x.notices ++ [n],
             attention := x.attention || (x.select.nonEmpty && x.notices.isEmpty)
               || (x.select.at16 && decide (x.notices.length = 15)) } := by
  have hat : (!decide (16 ≤ x.notices.length) && decide (15 ≤ x.notices.length)) = decide (x.notices.length = 15) := by
    rw [← decide_not, ← Bool.decide_and]
    exact decide_eq_decide.2 (by omega)
  have hsome : (x.notices ++ [n]).isEmpty = false := by simp
  simp [attend, attentionEdge, PortState.conditions, Bool.and_assoc, hsome, hat, Bool.or_assoc]

/-- R175: a notice that is lost can make LOST true. -/
theorem attend_lost : attend x { x with lost := true } =
    { x with lost := true, attention := x.attention || (x.select.lost && !x.lost) } := by
  simp [attend, attentionEdge, PortState.conditions, Bool.and_assoc]

end

/-- Settles O14: a port that the routing picks enters the notice (`State.port_postWhere`), which is masked, queued or
lost; each routing is its test of the ports. -/
theorem noticeEntersQueue : Obligations.NoticeEntersQueue := by
  intro s d b p n x y
  have hy : y = if d p then enterNotice n x else x := State.port_postWhere ..
  refine ⟨fun hd => ?_, fun hd hm => ?_, fun hd hm hroom => ?_, fun hd hm hfull => ?_, rfl, rfl, fun r => rfl, ?_,
    fun l => ⟨rfl, rfl⟩, rfl⟩
  · rw [hy, if_neg (by simp [hd])]
  · rw [hy, if_pos hd, enterNotice_masked hm]
  · rw [hy, if_pos hd, enterNotice_room hm hroom, attend_entered]
  · rw [hy, if_pos hd, enterNotice_full hm hfull, attend_lost]
  · simp only [State.postOffice, State.role, Bool.decide_or]
    rfl

/-! ### The requests about notices and the attention line (R173, R174, R176) -/

section
variable {s : State} {p : Port} {tag : Byte} {code : ReqCode}

/-- A request of every role that changes its port beside the assembler and the line, and is answered at once. -/
theorem exec_portChanged {i : Instr} {k : State → State} {f : PortState → PortState} {st : Status} {g : Payload}
    (h : s.Accepts p) (hc : code.ofAll = true) (he : exec i s = s.event fun x => x.admission p code tag none k)
    (hk : k (s.idleAssembler p) = ((s.idleAssembler p).modPort p f).reply p code tag st g)
    (hidle : ∀ x, f { x with assembler := .idle } = { f x with assembler := .idle })
    (hline : ∀ x, (f x).line = x.line) :
    exec i s = .next ((s.modPort p f).answered p code tag st g).startStore := by
  have ⟨_, hempty, _⟩ := h
  have hcomm : (s.idleAssembler p).modPort p f = (s.modPort p f).idleAssembler p := by
    simp only [State.idleAssembler, State.modPort_modPort, hidle]
  refine exec_of_block h (permits_all hc) he ?_ rfl
  rw [hk, hcomm, reply_idleAssembler (by rw [State.port_modPort_self, hline, hempty])]

/-! R173: both requests by whether the port's own queue is empty. -/

theorem fetchNotice_empty (hn : (s.port p).notices = []) :
    s.fetchNotice p tag = s.reply p .nextNotice tag .empty (.notice (s.port p).lost 0 none) := by
  simp only [State.fetchNotice, hn]

theorem fetchNotice_cons {n : Notice} {rest : List Notice} (hn : (s.port p).notices = n :: rest) :
    s.fetchNotice p tag = (s.modPort p fun x => { x with notices := rest, lost := false }).reply p .nextNotice tag .ok
      (.notice (s.port p).lost rest.length (some n)) := by
  have htake : s.modPort p takeNotice = s.modPort p fun x => { x with notices := rest, lost := false } :=
    State.modPort_congr _ _ _ _ (by simp [takeNotice, hn])
  simp only [State.fetchNotice, hn, htake]

theorem peek_empty (hn : (s.port p).notices = []) :
    s.peek p tag = s.reply p .peekNotice tag .empty (.notice (s.port p).lost 0 none) := by
  simp only [State.peek, hn]

theorem peek_cons {n : Notice} {rest : List Notice} (hn : (s.port p).notices = n :: rest) :
    s.peek p tag = s.reply p .peekNotice tag .ok (.notice (s.port p).lost (rest.length + 1) (some n)) := by
  simp only [State.peek, hn, List.length_cons]

end

/-- Settles O15: both requests read the queue as it stands at its port; NEXT_NOTICE alone takes the oldest out. -/
theorem noticesReadOldestFirst : Obligations.NoticesReadOldestFirst := by
  intro p tag s h
  rw [← lost_idleAssembler, ← notices_idleAssembler]
  refine ⟨fun hn => ⟨?_, ?_⟩, fun n rest hn => ⟨?_, ?_⟩⟩
  · exact exec_answered h (permits_all rfl) rfl (fetchNotice_empty hn)
  · exact exec_answered h (permits_all rfl) rfl (peek_empty hn)
  · exact exec_portChanged h rfl rfl (fetchNotice_cons hn) (fun _ => rfl) fun _ => rfl
  · exact exec_answered h (permits_all rfl) rfl (peek_cons hn)

/-- R174, R189: the kinds that a mask may name are the bits 1 to 18. -/
theorem getLsbD_maskable (i : Fin 32) : maskable.getLsbD i = decide (1 ≤ i.val ∧ i.val ≤ 18) := by
  revert i
  decide

theorem mask_allowed_iff (kinds : Word32) : kinds &&& ~~~maskable = 0 ↔
    ∀ i : Fin 32, kinds.getLsbD i = true → 1 ≤ i.val ∧ i.val ≤ 18 := by
  have hbit (i : Fin 32) : (kinds &&& ~~~maskable).getLsbD i =
      (kinds.getLsbD i && !decide (1 ≤ i.val ∧ i.val ≤ 18)) := by
    rw [BitVec.getLsbD_and, BitVec.getLsbD_not, getLsbD_maskable, decide_eq_true i.isLt, Bool.true_and]
  constructor
  · intro h i hi
    have hzero := hbit i
    rw [h] at hzero
    simpa [hi] using hzero
  · intro h
    refine BitVec.eq_of_getLsbD_eq fun i hi => ?_
    rw [hbit ⟨i, hi⟩]
    cases hk : kinds.getLsbD i
    · simp
    · simp [h ⟨i, hi⟩ hk]

/-- Settles O16: a mask is taken when it is made of the maskable kinds (`mask_allowed_iff`), and a masked notice does
not enter. -/
theorem noticeMaskReplaced : Obligations.NoticeMaskReplaced := by
  refine fun p tag kinds s h => ⟨fun hbits => ⟨?_, fun n hn => enterNotice_masked hn⟩, fun i hi hout => ?_⟩
  · exact exec_portChanged h rfl rfl (if_pos ((mask_allowed_iff kinds).2 hbits)) (fun _ => rfl) fun _ => rfl
  · have hbad : ¬ kinds &&& ~~~maskable = 0 := fun hz => by
      have := (mask_allowed_iff kinds).1 hz i hi
      omega
    exact exec_answered h (permits_all rfl) rfl (if_neg hbad)

/-- R175: the conditions of a port's own queue. -/
theorem conditions_eq (x : PortState) : x.conditions =
    { nonEmpty := decide (x.notices ≠ []), at16 := decide (16 ≤ x.notices.length), lost := x.lost } := by
  cases hn : x.notices <;> simp [PortState.conditions, hn]

/-- Settles O17: a selection of the three conditions is below 8, and both requests answer the conditions as they
stand. -/
theorem attentionSelectedAndAcknowledged : Obligations.AttentionSelectedAndAcknowledged := by
  intro p tag b s h now sel
  have hnow : ((s.idleAssembler p).port p).conditions = now := by
    rw [conditions_eq, notices_idleAssembler, lost_idleAssembler]
  have hattention : ((s.idleAssembler p).port p).attention = (s.port p).attention := by simp [State.idleAssembler]
  rw [← hnow, ← hattention]
  refine ⟨fun hb => ?_, fun hb => ?_, ?_⟩
  · exact exec_portChanged h rfl rfl (if_pos (Nat.le_of_lt_succ hb)) (fun _ => rfl) fun _ => rfl
  · exact exec_answered h (permits_all rfl) rfl (if_neg (Nat.not_le.2 hb))
  · exact exec_portChanged h rfl rfl rfl (fun _ => rfl) fun _ => rfl

end Sys2Proof.Proofs

namespace Sys2Proof.Proofs
open Sys2Proof Sys2Proof.Machine

/-! ### The rows of the roles (R170) -/

/-- R170: a port owns the nozzle that a request names from 1, and no other number names one. -/
theorem owns_iff (s : State) (p : Port) (nozzle : Option Nat) : s.owns p nozzle = true ↔
    ∃ n : NozzleId, nozzle = some (n.val + 1) ∧ (s.config.nozzles.read n).owner = p := by
  have hnamed (n : NozzleId) : nozzle.bind (fromOne 8) = some n ↔ nozzle = some (n.val + 1) := by
    simp only [Option.bind_eq_some_iff, fromOne_iff]
    exact ⟨fun ⟨k, hk, hn⟩ => hn ▸ hk, fun hk => ⟨_, hk, rfl⟩⟩
  simp only [State.owns, ← hnamed]
  cases nozzle.bind (fromOne 8) with
  | none => simp
  | some n =>
    simp only [Option.some.injEq, exists_eq_left']
    exact decide_eq_true_iff

/-- Settles O8: a port's role decides which row of R170 counts beside the last, and an ISLAND port's counts for the
nozzles it owns (`owns_iff`). -/
theorem rolesPermitTheirRow : Obligations.RolesPermitTheirRow := by
  intro s p c nozzle
  rw [State.permits, Bool.or_eq_true, ReqCode.ofAll, decide_eq_true_iff, ← owns_iff]
  refine or_congr_right ?_
  cases s.role p with
  | island => simp [ReqCode.ofIsland]
  | fleet => simp [ReqCode.ofFleet]
  | workshop => simp [ReqCode.ofWorkshop]
  | monitor => simp

/-! ### The end of a response (R169, R183, R184) -/

/-- R183: a port takes its configured baud rate when nothing is left on its line. -/
theorem takeBaud_eq (s : State) (p : Port) : s.takeBaud p = s.modPort p fun x =>
    { x with baud := if x.line = [] then (s.config.ports.read p).baud else x.baud } := by
  refine State.modPort_congr _ _ _ _ ?_
  cases hl : (s.port p).line with
  | nil => rfl
  | cons r rest =>
    rw [if_neg (by simp), if_neg (by simp)]
    exact hl ▸ rfl

/-- R184: 0xB2 is the code of the answer to INITIALISE (R187, R192). -/
theorem isInitialiseOk_eq (r : Response) : isInitialiseOk r = decide (r.code = 0xB2 ∧ r.status = .ok) :=
  (Bool.decide_and ..).symm

/-- Settles O11: the head of the line is taken off it, the baud rate is `takeBaud_eq`, and an INITIALISE answered OK
makes its reset due. -/
theorem sentResponseLeavesLine : Obligations.SentResponseLeavesLine := by
  intro p r rest s h hline
  have hsent : s.sent p = { s.modPort p fun x =>
      { x with line := rest, baud := if rest = [] then (s.config.ports.read p).baud else x.baud } with
        power := { s.power with initialiseDue :=
          s.power.initialiseDue || decide (r.code = 0xB2 ∧ r.status = .ok) } } := by
    rw [State.sent, hline]
    simp only [takeBaud_eq, State.modPort_modPort, State.modPort_config, isInitialiseOk_eq]
    by_cases hok : r.code = 0xB2 ∧ r.status = .ok
    · simp only [hok, and_self, decide_true, if_true, Bool.or_true]
      rfl
    · simp only [hok, decide_false, Bool.false_eq_true, if_false, Bool.or_false]
      rfl
  have hexec : exec (.responseSent p) s = .next (s.sent p).startStore :=
    event_of_up (k := fun x => x.sent p) h (by rw [hsent]; exact h.2)
  rw [hexec, hsent]
  rfl

/-! ### A line break with nothing waiting (R177) -/

theorem mapWith_eq_self {α : Type} {n : Nat} {f : Fin n → α → α} {v : Tab α n} (h : ∀ i, f i (v.read i) = v.read i) :
    Tab.mapWith f v = v :=
  Vector.ext fun i hi => (read_mapWith f v ⟨i, hi⟩).trans (h ⟨i, hi⟩)

/-- R25: a requester that waits on no line and in no line wait list leaves the machine table unit as it is. -/
theorem withdrawRequester_of_none {s : State} {who : Requester} (hlines : ∀ l, who ∉ (s.line l).waiters)
    (hwait : s.table.lineWait = []) : s.withdrawRequester who = s := by
  have hkept (l : LineId) :
      { s.line l with waiters := (s.line l).waiters.filter fun w => !decide (w = who) } = s.line l := by
    rw [List.filter_eq_self.2 fun w hw => ?_]
    rw [Bool.not_eq_true', decide_eq_false_iff_not]
    rintro rfl
    exact hlines l hw
  have hnone : (s.table.lineWait.map fun x => (x.1, x.2.filter fun w => !decide (w = who))).filter
      (fun x => decide (x.2 ≠ [])) = s.table.lineWait := by rw [hwait]; rfl
  rw [withdrawRequester_eq, hnone, mapWith_eq_self hkept]

/-- R25, R177: so does a port that in addition asked for no ERASE. -/
theorem withdrawPort_of_none {s : State} {p : Port} (hlines : ∀ l, Requester.port p ∉ (s.line l).waiters)
    (hwait : s.table.lineWait = []) (hqueue : ∀ op ∈ s.table.queue, op.askedBy p = false)
    (hflight : ∀ x, s.table.inFlight = some x → x.op.askedBy p = false) : s.withdrawPort p = s := by
  obtain ⟨slots, heq, hread⟩ := withdrawPort_frame s p
  have hslots : slots = s.table.slots := Vector.ext fun i hi => by
    refine (hread ⟨i, hi⟩).trans (if_neg fun hmem => ?_)
    simpa [StoreOp.askedBy] using hqueue _ hmem
  have hqueue' : s.table.queue.filter (fun op => !op.askedBy p) = s.table.queue :=
    List.filter_eq_self.2 fun op hop => by simp [hqueue op hop]
  have hflight' : s.table.inFlight.map (orphaned p) = s.table.inFlight := by
    cases hx : s.table.inFlight with
    | none => rfl
    | some x => rw [Option.map_some, orphaned_of_other (hflight x hx)]
  rw [heq, withdrawRequester_of_none hlines hwait, hslots, hqueue', hflight']

/-- Settles O12: with nothing to withdraw (`withdrawPort_of_none`) a break of a high line is `lineBreak_of_high`, and
one of a line still low is noted. -/
theorem breakResetsItsPort : Obligations.BreakResetsItsPort := by
  intro p s h hlines hwait hqueue hflight
  have hexec : exec (.portReset p) s = .next (s.lineBreak p).startStore :=
    event_of_within (k := fun x => x.lineBreak p) h ((Within.refl s).lineBreak p)
  refine ⟨fun hhigh => ?_, fun hlow => ?_⟩
  · rw [hexec, lineBreak_of_high hhigh, withdrawPort_of_none hlines hwait hqueue hflight]
    rfl
  · rw [hexec, State.lineBreak, if_neg hlow]

/-! ### The assembler byte by byte (R167) -/

section
variable {s : State} {p : Port} {b : Byte}

/-- R167: a byte at a port that hears and does not transmit goes to its assembler. -/
theorem exec_portByteReceived (hr : s.running = true) (hs : s.startUp.stage ≠ .configuration)
    (hl : (s.port p).line = []) : exec (.portByteReceived p b) s = .next (State.takeByte p b s).settle := by
  refine (event_of_running hr).trans ?_
  simp [State.heard, hs, PortState.transmitting, hl]

/-- One that changes nothing but the port. -/
theorem exec_portByteReceived_kept {f : PortState → PortState} (h : s.Up) (hl : (s.port p).line = [])
    (hf : State.takeByte p b s = s.modPort p f) :
    exec (.portByteReceived p b) s = .next (s.modPort p f).startStore := by
  obtain ⟨hrunning, hready⟩ := h
  rw [exec_portByteReceived hrunning (by simp [hready]) hl, hf, settle_of_ready (s := s.modPort p f) hready]

theorem exec_portByteReceived_transmitting (h : s.Up) (hl : (s.port p).line ≠ []) :
    exec (.portByteReceived p b) s = .next (s.modPort p fun x => { x with assembler := .idle }).startStore := by
  have hk : (if s.heard then if (s.port p).transmitting then s.idleAssembler p else State.takeByte p b s else s) =
      s.idleAssembler p := by simp [State.heard, h.2, PortState.transmitting, hl]
  exact (event_of_up h (by rw [hk]; exact h.2)).trans (by rw [hk]; rfl)

theorem takeByte_idle_other (ha : (s.port p).assembler = .idle) (hb : b ≠ 0x5A) : State.takeByte p b s = s := by
  simp only [State.takeByte, ha, if_neg hb]

theorem takeByte_lead (ha : (s.port p).assembler = .idle) (hb : b = 0x5A) : State.takeByte p b s =
    s.modPort p fun x => { x with receive := .high, assembler := .assembling [] 2 } := by
  simp only [State.takeByte, ha, if_pos hb]

theorem takeByte_length {k : Nat} (ha : (s.port p).assembler = .assembling [] k) : State.takeByte p b s =
    s.modPort p fun x => { x with assembler := if lengthOk b then .assembling [b] 2 else .idle } := by
  simp only [State.takeByte, ha]
  split <;> rfl

theorem takeByte_body {l : Byte} {rest : List Byte} {k : Nat} (ha : (s.port p).assembler = .assembling (l :: rest) k)
    (hshort : rest.length + 1 < l.toNat + 2) : State.takeByte p b s =
      s.modPort p fun x => { x with assembler := .assembling (l :: rest ++ [b]) 2 } := by
  have hlength : ¬ (l :: rest ++ [b]).length = l.toNat + 3 := by simp; omega
  simp only [State.takeByte, ha, if_neg hlength]

end

/-- R167: a frame whose timer stands at 0 is discarded. -/
theorem exec_frameTimerExpiry {s : State} {p : Port} {bytes : List Byte} (h : s.Up)
    (ha : (s.port p).assembler = .assembling bytes 0) : exec (.frameTimerExpiry p) s =
      .next (s.modPort p fun x => { x with assembler := .idle }).startStore := by
  have hk : s.modPort p expiredFrame = s.modPort p fun x => { x with assembler := .idle } :=
    State.modPort_congr _ _ _ _ (by simp only [expiredFrame, ha])
  exact (event_of_up (k := fun x => x.modPort p expiredFrame) h h.2).trans (by rw [hk])

/-- Settles O9: each byte is the law of `takeByte` for the state of the assembler; a transmitting port and a frame timer
at 0 discard the frame. -/
theorem assemblerTakesBytes : Obligations.AssemblerTakesBytes := by
  refine fun p b s h => ⟨fun bytes ha => exec_frameTimerExpiry h ha, exec_portByteReceived_transmitting h,
    fun hl => ⟨fun ha hb => ?_, fun ha hb => ?_, fun k ha hlow hhigh => ?_, fun k ha hout => ?_,
      fun k l rest ha hshort => ?_⟩⟩
  · have ⟨hrunning, hready⟩ := h
    rw [exec_portByteReceived hrunning (by simp [hready]) hl, takeByte_idle_other ha hb, settle_of_ready hready]
  · exact exec_portByteReceived_kept h hl (takeByte_lead ha hb)
  · have hok : lengthOk b = true := decide_eq_true ⟨hlow, hhigh⟩
    exact exec_portByteReceived_kept h hl (by simp only [takeByte_length ha, hok, if_true])
  · have hbad : lengthOk b = false := decide_eq_false (by omega)
    exact exec_portByteReceived_kept h hl (by simp only [takeByte_length ha, hbad, Bool.false_eq_true, if_false])
  · exact exec_portByteReceived_kept h hl (takeByte_body ha hshort)

end Sys2Proof.Proofs

namespace Sys2Proof.Proofs
open Sys2Proof Sys2Proof.Machine

/-! ### A request's command and its tests (R168) -/

section
variable {i : Instr} {p : Port} {c : ReqCode} {tag : Byte} {nozzle : Option Nat}

/-- R168: a request's command is an event whose effect is that of the request read from bytes. -/
theorem exec_request (h : i.request = some (p, c, tag, nozzle)) (s : State) : exec i s = s.event (runRequest i) := by
  cases i <;> cases h <;> rfl

/-- R168: whatever a request's block does, it does behind the tests of its frame. -/
theorem runRequest_admission (h : i.request = some (p, c, tag, nozzle)) :
    ∃ k : State → State, ∀ x, runRequest i x = x.admission p c tag nozzle k := by
  cases i <;> cases h <;> simp only [runRequest] <;> exact ⟨_, fun _ => rfl⟩

variable {s : State} {k : State → State}

/-- R178: until the configuration is loaded no port hears a frame. -/
theorem admission_unheard (hs : s.startUp.stage = .configuration) : s.admission p c tag nozzle k = s := by
  simp [State.admission, State.takeFrame, State.heard, hs]

/-- R167: a port that transmits loses the frame. -/
theorem admission_transmitting (hs : s.startUp.stage ≠ .configuration) (hl : (s.port p).line ≠ []) :
    s.admission p c tag nozzle k = s.modPort p fun x => { x with assembler := .idle } := by
  simp [State.admission, State.takeFrame, State.heard, hs, PortState.transmitting, hl, State.idleAssembler]

/-- R169: a frame behind a request in hand. -/
theorem admission_portBusy (hs : s.startUp.stage ≠ .configuration) (hl : (s.port p).line = [])
    (hi : (s.port p).inHand.isSome = true) :
    s.admission p c tag nozzle k = s.answered p c tag .portBusy .nothing := by
  rw [admission_taken hs hl, if_pos hi]
  exact refuseFrame_idleAssembler hl

/-- R168, R186: before READY every request but DEVICE_STATUS is refused. -/
theorem admission_starting (hs : s.startUp.stage ≠ .configuration) (hl : (s.port p).line = [])
    (hi : (s.port p).inHand = none) (hr : s.startUp.stage ≠ .ready) (hc : c ≠ .deviceStatus) :
    s.admission p c tag nozzle k = s.answered p c tag .starting .nothing := by
  rw [admission_taken hs hl, if_neg (by simp [hi]), if_pos ⟨hr, hc⟩]
  exact refuseFrame_idleAssembler hl

/-- R168: a frame that passes every test, whether the part is READY or is asked for its status. -/
theorem admission_passes (hs : s.startUp.stage ≠ .configuration) (hl : (s.port p).line = [])
    (hi : (s.port p).inHand = none) (hr : s.startUp.stage = .ready ∨ c = .deviceStatus)
    (hp : s.permits p c nozzle = true) : s.admission p c tag nozzle k = k (s.idleAssembler p) := by
  rw [admission_taken hs hl, if_neg (by simp [hi]), if_neg (by tauto), if_neg (by simp [hp])]

end

/-! ### The request that a body's fields are read as (R168, R187 to R195) -/

/-- What is known of a body read as a request: whose it is, its code and tag, and that its fields have their length. -/
def ReadAs (p : Port) (tag : Byte) (c : ReqCode) (l : List Byte) (i : Instr) : Prop :=
  (∃ nozzle, i.request = some (p, c, tag, nozzle)) ∧ c.Fits l

section
variable {p : Port} {tag : Byte} {c : ReqCode} {l : List Byte} {i : Instr}

theorem fits_of_length {k : Nat} (hk : c.fieldBytes = some k) (hl : l.length = k) : c.Fits l := by
  refine ⟨fun j hj => hl.trans (Option.some.inj (hk.symm.trans hj)), ?_, ?_, ?_⟩ <;>
  · rintro rfl
    cases hk

theorem readAs_of_length {nozzle : Option Nat} {k : Nat} (hi : i.request = some (p, c, tag, nozzle))
    (hk : c.fieldBytes = some k) (hl : l.length = k) : ReadAs p tag c l i :=
  ⟨⟨nozzle, hi⟩, fits_of_length hk hl⟩

theorem one_eq_some {k : Nat → Instr} (h : one l k = some i) : ∃ x : Byte, l = [x] ∧ i = k x.toNat := by
  unfold one at h
  split at h
  · next x => exact ⟨x, rfl, (Option.some.inj h).symm⟩
  · cases h

theorem oneFleet_eq_some {k : Nat → Instr} (h : oneFleet l k = some i) : ∃ f, l.length = 2 ∧ i = k f := by
  unfold oneFleet at h
  split at h
  · next f hs => exact ⟨numberOf f, splitFields_length hs, (Option.some.inj h).symm⟩
  · cases h

theorem noFields_eq_some {j : Instr} (h : noFields l j = some i) : l = [] ∧ i = j := by
  cases l with
  | nil => exact ⟨rfl, (Option.some.inj h).symm⟩
  | cons x xs => cases h

/-- R17: the fields of an ENROL take 21 bytes. -/
theorem enrolFrom_length {f : EnrolFields} (h : enrolFrom l = some f) : l.length = 21 := by
  unfold enrolFrom at h
  split at h
  · next hs => exact splitFields_length hs
  · cases h

/-- R19: so do those of a MACHINE_SET, present or absent. -/
theorem machineSetFrom_length {x : Nat × MachinePatch} (h : machineSetFrom l = some x) : l.length = 21 := by
  unfold machineSetFrom at h
  split at h
  · next hs => exact splitFields_length hs
  · cases h

/-- The byte at a place of a body, 0 past its end. -/
theorem numberOf_byteAt (l : List Byte) (k : Nat) : numberOf ((l.drop k).take 1) = (l.getD k 0).toNat := by
  rw [List.getD_eq_getElem?_getD, ← Nat.add_zero k, ← List.getElem?_drop, Nat.add_zero]
  cases l.drop k with
  | nil => rfl
  | cons x xs => simp [numberOf]

/-- R191: the size of a step by its kind byte. -/
theorem stepSize_eq (k : Byte) :
    stepSize k.toNat = if k = 0x01 then 8 else if k = 0x02 ∨ k = 0x03 then 5 else 1 := by
  have hk (x : Byte) : k.toNat = x.toNat ↔ k = x := BitVec.toNat_inj
  have h1 := hk 1
  have h2 := hk 2
  have h3 := hk 3
  simp only [stepSize, ← h1, ← h2, ← h3]
  grind

/-- R190, R191: a body read as so many steps is filled by them. -/
theorem stepsFill_of_rawSteps {n : Nat} {xs : List RawStep} (h : rawSteps n l = some xs) : StepsFill n l := by
  induction n generalizing l xs with
  | zero =>
    cases l with
    | nil => exact ⟨[], rfl, rfl, nofun⟩
    | cons k rest => cases h
  | succ n ih =>
    cases l with
    | nil => cases h
    | cons k rest =>
      simp only [rawSteps] at h
      split at h
      · cases h
      · next hlong =>
        split at h
        · next ys hrest =>
          obtain ⟨steps, hcount, hbody, hsteps⟩ := ih hrest
          obtain ⟨w, hw⟩ : ∃ w, stepSize k.toNat = w + 1 := Nat.exists_eq_succ_of_ne_zero (by
            rw [stepSize_eq]
            split_ifs <;> decide)
          rw [hw] at hlong hbody
          refine ⟨(k :: rest.take w) :: steps, by rw [List.length_cons, hcount], ?_, ?_⟩
          · rw [List.flatten_cons, ← hbody, List.drop_succ_cons, List.cons_append, List.take_append_drop]
          · refine List.forall_mem_cons.2 ⟨⟨k, rest.take w, rfl, ?_⟩, hsteps⟩
            rw [← stepSize_eq, hw, List.length_cons, List.length_take]
            simp only [List.length_cons] at hlong
            omega
        · cases h

theorem fits_steps {n k : Byte} {rest : List Byte} {xs : List RawStep} (h : rawSteps k.toNat rest = some xs) :
    ReqCode.steps.Fits (n :: k :: rest) :=
  ⟨nofun, fun _ => ⟨n, k, rest, rfl, stepsFill_of_rawSteps h⟩, nofun, nofun⟩

/-- R195: a REBUILD's fields before its lines take 33 bytes, each line 24 and the machine state one. -/
theorem fits_rebuild {f : RebuildFields} (h : rebuildFrom l = some f) : ReqCode.rebuild.Fits l := by
  refine ⟨nofun, nofun, fun _ => ?_, nofun⟩
  unfold rebuildFrom at h
  split at h
  · next hs hlines =>
    have hfront := splitFields_length hs
    have hrest := rebuildLinesFrom_length hlines
    simp only [numberOf_byteAt, List.length_take, List.length_drop, List.length_singleton, List.sum_cons,
      List.sum_nil] at hfront hrest
    omega
  · cases h

/-- R195: a SET_LINE carries a line, or the number of the one it removes, by the byte after the fleet number. -/
theorem readAs_setLine (h : setLineFrom p tag l = some i) : ReadAs p tag .setLine l i := by
  simp only [setLineFrom, numberOf_byteAt] at h
  split at h
  · cases h
  · next hthree =>
    split at h
    · next hzero =>
      split at h
      · next hs =>
        cases h
        have hlead : l.getD 2 0 = 0 := BitVec.eq_of_toNat_eq hzero
        have hrest := splitFields_length hs
        simp only [List.length_drop, List.sum_cons, List.sum_nil] at hrest
        refine ⟨⟨_, rfl⟩, nofun, nofun, nofun, fun _ => ?_⟩
        rw [if_pos hlead]
        omega
      · cases h
    · next hnonzero =>
      split at h
      · split at h
        · next hs =>
          cases h
          have hlead : l.getD 2 0 ≠ 0 := fun e => hnonzero (congrArg BitVec.toNat e)
          have hrest := congrArg List.length hs
          simp only [List.length_drop, List.length_singleton] at hrest
          refine ⟨⟨_, rfl⟩, nofun, nofun, nofun, fun _ => ?_⟩
          rw [if_neg hlead]
          omega
        · cases h
      · cases h

/-- R168, R187 to R195: what each code's fields are read as, by the form of its body. -/
theorem readAs_of_requestOf (h : requestOf p tag c l = some i) : ReadAs p tag c l i := by
  cases c <;> simp only [requestOf] at h
  case start | continueList | stop | abort | park | meterClear | receiptClose | configRead | nozzleStatus | tankStatus
      | deviceStatus =>
    obtain ⟨x, rfl, rfl⟩ := one_eq_some h
    exact readAs_of_length rfl rfl rfl
  case withdraw | standDown | returnMachine | machineRead =>
    obtain ⟨f, hlength, rfl⟩ := oneFleet_eq_some h
    exact readAs_of_length rfl rfl hlength
  case journalFetch | reconcile | storeRetry | initialise | clockRead | nextNotice | peekNotice | attentionAck =>
    obtain ⟨rfl, rfl⟩ := noFields_eq_some h
    exact readAs_of_length rfl rfl rfl
  case resume | hours | grant | journalRelease | serviceDone | waiver | meterChange | receiptOpen | stockAdjust
      | clockSet | noticeMask =>
    split at h
    · next hs =>
      cases h
      exact readAs_of_length rfl rfl (splitFields_length hs)
    · cases h
  case attentionSelect =>
    split at h
    · cases h
      exact readAs_of_length rfl rfl rfl
    · cases h
  case enrol =>
    obtain ⟨f, hf, rfl⟩ := Option.map_eq_some_iff.1 h
    exact readAs_of_length rfl rfl (enrolFrom_length hf)
  case machineSet =>
    obtain ⟨x, hx, rfl⟩ := Option.map_eq_some_iff.1 h
    exact readAs_of_length rfl rfl (machineSetFrom_length hx)
  case steps =>
    split at h
    · obtain ⟨xs, hxs, rfl⟩ := Option.map_eq_some_iff.1 h
      exact ⟨⟨_, rfl⟩, fits_steps hxs⟩
    · cases h
  case rebuild =>
    obtain ⟨f, hf, rfl⟩ := Option.map_eq_some_iff.1 h
    exact ⟨⟨_, rfl⟩, fits_rebuild hf⟩
  case setLine => exact readAs_setLine h
  case configSet =>
    obtain ⟨g, -, rfl⟩ := Option.map_eq_some_iff.1 h
    exact ⟨⟨_, rfl⟩, nofun, nofun, nofun, nofun⟩

end

/-! ### A frame completed byte by byte (R167, R168) -/

/-- R167, R168: before its last byte, a frame at a port whose two CRC bytes are about to match and whose body names a
known code. -/
structure LastByteDue (s : State) (p : Port) (b code tag : Byte) (fields : List Byte) (c : ReqCode) : Prop where
  line : (s.port p).line = []
  taken : ∃ (l high : Byte) (k : Nat), (s.port p).assembler = .assembling (l :: code :: tag :: fields ++ [high]) k
    ∧ l.toNat = fields.length + 2 ∧ numberOf [high, b] = (crc (l :: code :: tag :: fields)).toNat
  known : ReqCode.ofByte code = some c

section
variable {s : State} {p : Port} {b code tag : Byte} {fields : List Byte} {c : ReqCode}

/-- R167: the second CRC byte completes the frame. -/
theorem takeByte_last {l : Byte} {rest : List Byte} {k : Nat} (ha : (s.port p).assembler = .assembling (l :: rest) k)
    (hlast : rest.length + 1 = l.toNat + 2) : State.takeByte p b s = s.completeFrame p (l :: (rest ++ [b])) := by
  have hlength : (l :: rest ++ [b]).length = l.toNat + 3 := by simp; omega
  simp only [State.takeByte, ha, if_pos hlength]
  rfl

/-- R168, R188: a frame whose two CRC bytes match what they cover. -/
theorem completeFrame_good {covered : List Byte} {high low : Byte}
    (hcrc : numberOf [high, low] = (crc covered).toNat) :
    s.completeFrame p (covered ++ [high, low]) = s.requestFrame p (covered.drop 1) := by
  have hlength : (covered ++ [high, low]).length - 2 = covered.length := by simp
  rw [State.completeFrame, hlength, List.take_left, List.drop_left]
  exact if_pos hcrc

theorem LastByteDue.takeByte (h : LastByteDue s p b code tag fields c) :
    State.takeByte p b s = s.requestFrame p (code :: tag :: fields) := by
  obtain ⟨-, ⟨l, high, k, ha, hl, hcrc⟩, -⟩ := h
  have hbytes : l :: (code :: tag :: fields ++ [high] ++ [b]) = (l :: code :: tag :: fields) ++ [high, b] := by simp
  rw [takeByte_last (rest := code :: tag :: fields ++ [high]) ha (by simp [hl]), hbytes, completeFrame_good hcrc]
  rfl

theorem LastByteDue.exec_frame (h : LastByteDue s p b code tag fields c) (hr : s.running = true)
    (hs : s.startUp.stage ≠ .configuration) : exec (.portByteReceived p b) s =
      .next (s.requestFrame p (code :: tag :: fields)).settle := by
  rw [exec_portByteReceived hr hs h.line, h.takeByte]

/-- R168: a body of a known code that reads as no request goes through the tests of its frame, to BAD_FIELD at the
length test. -/
theorem LastByteDue.exec_unread (h : LastByteDue s p b code tag fields c) (hr : s.running = true)
    (hs : s.startUp.stage ≠ .configuration) (hread : requestOf p tag c fields = none) :
    exec (.portByteReceived p b) s = .next (s.admission p c tag (namedNozzle c fields)
      fun x => x.badField p c tag).settle := by
  rw [h.exec_frame hr hs]
  simp only [State.requestFrame, h.known, hread]

end

/-- Settles O10: the frame's body is handed on (`LastByteDue.exec_frame`), and the effect of its request is that of the
request's command (`exec_request`). -/
theorem completedFrameIsItsRequest : Obligations.CompletedFrameIsItsRequest := by
  intro p b l code tag fields crcHigh k c i s hup hline ha hl hhigh hcrc hcode hread
  obtain ⟨high, rfl⟩ := List.length_eq_one_iff.1 hhigh
  have hdue : LastByteDue s p b code tag fields c := ⟨hline, ⟨l, high, k, ha, hl, hcrc⟩, hcode⟩
  obtain ⟨hrunning, hready⟩ := hup
  obtain ⟨⟨nozzle, hrequest⟩, -⟩ := readAs_of_requestOf hread
  rw [hdue.exec_frame hrunning (by simp [hready]), exec_request hrequest, event_of_running hrunning]
  simp only [State.requestFrame, hcode, hread]

/-! ### Frames that are refused (R168, R169) -/

section
variable {s : State} {p : Port} {code tag : Byte}

/-- R168: a frame whose CRC failed is answered so, whatever is in hand. -/
theorem exec_badFrame (h : s.Up) (hl : (s.port p).line = []) : exec (.badFrame p code tag) s =
    .next (s.modPort p fun x =>
      { x with assembler := .idle, line := [⟨code + 0x80, tag, .badFrame, .nothing⟩] }).startStore := by
  have hk : State.reqBadFrame p code tag s = s.modPort p fun x =>
      { x with assembler := .idle, line := [⟨code + 0x80, tag, .badFrame, .nothing⟩] } :=
    (takeFrame_hears (by simp [h.2]) hl).trans (refuseFrame_idleAssembler hl)
  exact (event_of_up h (by rw [hk]; exact h.2)).trans (by rw [hk])

/-- R168, R169: a frame of an unknown code, by whether a request is in hand. -/
theorem exec_unknownRequest (h : s.Up) (hl : (s.port p).line = []) : exec (.unknownRequest p code tag) s =
    .next (s.modPort p fun x =>
      { x with assembler := .idle,
               line := [⟨code + 0x80, tag, if x.inHand.isSome then .portBusy else .unknownRequest, .nothing⟩] }
      ).startStore := by
  have hk : State.reqUnknown p code tag s = s.modPort p fun x =>
      { x with assembler := .idle,
               line := [⟨code + 0x80, tag, if x.inHand.isSome then .portBusy else .unknownRequest, .nothing⟩] } := by
    rw [State.reqUnknown, takeFrame_hears (by simp [h.2]) hl, inHand_idleAssembler, refuseFrame_idleAssembler hl,
      refuseFrame_idleAssembler hl]
    split
    · next hi => exact State.modPort_congr _ _ _ _ (by rw [if_pos hi])
    · next hi => exact State.modPort_congr _ _ _ _ (by rw [if_neg hi])
  exact (event_of_up h (by rw [hk]; exact h.2)).trans (by rw [hk])

/-- R170: the nozzle of a body counts for the permission of a request of the first row alone. -/
theorem permits_namedNozzle (c : ReqCode) (fields : List Byte) : s.permits p c (namedNozzle c fields) =
    s.permits p c ((if c = .resume then fields[2]? else fields[0]?).map fun x => x.toNat) := by
  unfold namedNozzle
  split
  · rfl
  · next hc =>
    rw [if_neg hc]
    cases hisland : c.ofIsland
    · simp only [State.permits, hisland, Bool.false_and]
    · rfl

end

/-- Settles O7: a request is an event whose block stands behind the tests of its frame (`exec_request`,
`runRequest_admission`), and so is a body that reads as no request (`LastByteDue.exec_unread`); each test that fails has
its law. A body that reads as a request has the length of its code (`readAs_of_requestOf`). -/
theorem refusedFramesTouchNothing : Obligations.RefusedFramesTouchNothing := by
  refine ⟨fun i p c tag nozzle s hi hr => ?_,
    fun p code tag s h hl => ⟨exec_badFrame h hl, exec_unknownRequest h hl⟩, ?_⟩
  · obtain ⟨k, hk⟩ := runRequest_admission hi
    rw [exec_request hi, event_of_running hr, hk]
    refine ⟨fun hs => ?_, fun hs hl => ?_, fun hs hl hb => ?_, fun hs hl hb hn hc => ?_, fun hs hl hb hp => ?_⟩
    · rw [admission_unheard hs, settle_of_stage_configuration hs]
    · rw [admission_transmitting hs hl]
    · rw [admission_portBusy hs hl hb]
    · rw [admission_starting hs hl hb hn hc]
    · rw [admission_notPermitted ⟨⟨hr, hs⟩, hl, hb⟩ hp]
  · intro p b l code tag fields crcHigh k c s hr hs hl ha hlength hhigh hcrc hcode nozzle refused
    refine ⟨fun hfits => Option.eq_none_iff_forall_ne_some.2 fun i hread => hfits (readAs_of_requestOf hread).2,
      fun hread => ?_⟩
    obtain ⟨high, rfl⟩ := List.length_eq_one_iff.1 hhigh
    have hdue : LastByteDue s p b code tag fields c := ⟨hl, ⟨l, high, k, ha, hlength, hcrc⟩, hcode⟩
    have hexec := hdue.exec_unread hr hs hread
    have hnozzle : s.permits p c (namedNozzle c fields) = s.permits p c nozzle := permits_namedNozzle c fields
    refine ⟨fun hb => ?_, fun hb hn hc => ?_, fun hb hready hp => ?_, fun hb hready hp => ?_⟩
    · exact hexec.trans (by rw [admission_portBusy hs hl hb])
    · exact hexec.trans (by rw [admission_starting hs hl hb hn hc])
    · exact hexec.trans (by rw [admission_notPermitted ⟨⟨hr, hready⟩, hl, hb⟩ (hnozzle.trans hp)])
    · refine hexec.trans ?_
      rw [admission_passes hs hl hb hready (hnozzle.trans hp)]
      exact congrArg (fun y : State => Host.Outcome.next y.settle) (reply_idleAssembler hl)

end Sys2Proof.Proofs

namespace Sys2Proof.Proofs
open Sys2Proof Sys2Proof.Machine

/-! ### A part that is stopped (R179, R184) -/

/-- R184: what reaches a part but ticks, resets and power changes is an event of the running part. -/
theorem exec_eq_event {i : Instr} (htick : i ≠ .tick) (hreset : i ≠ .reset) (hlow : i ≠ .resetHeldLow)
    (hdown : i ≠ .powerDown) (hup : ∀ held, i ≠ .powerUp held) : ∃ k : State → State, ∀ s, exec i s = s.event k := by
  cases i with
  | tick => exact absurd rfl htick
  | reset => exact absurd rfl hreset
  | resetHeldLow => exact absurd rfl hlow
  | powerDown => exact absurd rfl hdown
  | powerUp held => exact absurd rfl (hup held)
  | _ => exact ⟨_, fun _ => rfl⟩

section
variable {s : State}

/-- R80: a stopped part has every flow output off. -/
theorem flowOutputs_of_stopped (h : s.running = false) (n : NozzleId) : s.fullFlow n = false ∧ s.slowFlow n = false := by
  simp [State.fullFlow, State.slowFlow, h]

/-- R65: a stopped part has every pump output off. -/
theorem pumpRun_of_stopped (h : s.running = false) (k : TankId) : s.pumpRun k = false := by
  simp [State.pumpRun, h]

theorem exec_tick_unpowered (h : s.power.powered = false) : exec .tick s = .next s := if_neg (by simp [h])

theorem exec_tick_inReset (hpower : s.power.powered = true) (hlow : s.power.resetLow = true) :
    exec .tick s = .next s.countInReset := (if_pos hpower).trans (if_pos hlow)

end

theorem settledClock_of_not_due {c : Clock} (h : c.rolloverDue = false) : settledClock c = c := by
  simp [settledClock, h]

/-- R179, R180: one tick of a clock with no rollover due, the rollover of the shift carried out within it. -/
theorem settledClock_tickClock {shiftLength : Nat} {c : Clock} (h : c.rolloverDue = false) :
    settledClock (tickClock shiftLength c) =
      if c.ticks + 1 < shiftLength then { c with siteTime := c.siteTime + 1, ticks := c.ticks + 1 }
      else { c with siteTime := c.siteTime + 1, shift := c.shift + 1, ticks := 0 } := by
  split
  · next hlt => simp [settledClock, tickClock, h, Nat.not_le.2 hlt]
  · next hge => simp [settledClock, tickClock, rolledClock, h, Nat.not_lt.1 hge]

/-- R180: under a RESET held low a tick moves the clock alone. -/
theorem countInReset_eq {s : State} (h : s.clock.rolloverDue = false) : s.countInReset = { s with clock :=
    if s.clock.ticks + 1 < s.config.time.shiftLength then
      { s.clock with siteTime := s.clock.siteTime + 1, ticks := s.clock.ticks + 1 }
    else { s.clock with siteTime := s.clock.siteTime + 1, shift := s.clock.shift + 1, ticks := 0 } } := by
  rw [State.countInReset, settledClock_of_not_due h, settledClock_tickClock h]

/-- Settles O22: a RESET held low and a loss of the supply are `inReset`, every command but those that the statement
excepts is an event, which a stopped part does not take, and a tick under RESET is `countInReset`. -/
theorem stoppedPartStandsStill : Obligations.StoppedPartStandsStill := by
  intro s
  refine ⟨rfl, rfl, fun hstopped => ⟨flowOutputs_of_stopped hstopped, pumpRun_of_stopped hstopped, ?_⟩,
    exec_tick_unpowered, fun hpower hlow hdue => ?_⟩
  · intro i htick hreset hlow hdown hup
    obtain ⟨k, hevent⟩ := exec_eq_event htick hreset hlow hdown hup
    rw [hevent, event_of_stopped hstopped]
  · rw [exec_tick_inReset hpower hlow, countInReset_eq hdue]

end Sys2Proof.Proofs

namespace Sys2Proof.Proofs
open Sys2Proof Sys2Proof.Machine

/-! ### The queue of commands, and every command (logs 1, 2 and 36) -/

section
variable {s : State}

theorem step_of_idle (h : s.pending = []) : step s = .next s := by simp [step, h]

theorem step_of_front {c : Instr} {q : List Instr} (h : s.pending = c :: q) : step s = exec c (s.withPending q) := by
  simp [step, h]

theorem event_completes (s : State) (k : State → State) : ∃ t, s.event k = .next t := by
  cases hrun : s.running with
  | true => exact ⟨_, event_of_running hrun⟩
  | false => exact ⟨_, event_of_stopped hrun⟩

theorem completes_of_event {c : Instr} (h : ∃ k : State → State, ∀ x, exec c x = x.event k) :
    ∃ t, exec c s = .next t := by
  obtain ⟨k, hk⟩ := h
  simpa only [hk] using event_completes s k

/-- R179: a tick counts the part's time, or the clock alone under a RESET held low, or nothing without power. -/
theorem tick_completes (s : State) : ∃ t, exec .tick s = .next t := by
  cases hpower : s.power.powered with
  | false => exact ⟨_, exec_tick_unpowered hpower⟩
  | true =>
    cases hlow : s.power.resetLow with
    | true => exact ⟨_, exec_tick_inReset hpower hlow⟩
    | false => exact ⟨_, exec_tick (running_iff.2 ⟨hpower, hlow⟩)⟩

/-- R184: without power a released RESET starts nothing. -/
theorem exec_reset_unpowered (h : s.power.powered = false) :
    exec .reset s = .next { s with power := { s.power with resetLow := false } } := if_neg (by simp [h])

theorem reset_completes (s : State) : ∃ t, exec .reset s = .next t := by
  cases hpower : s.power.powered with
  | true => exact ⟨_, exec_reset hpower⟩
  | false => exact ⟨_, exec_reset_unpowered hpower⟩

/-- R184: under a RESET held low the supply's return starts nothing. -/
theorem exec_powerUp_inReset (held : Bool) (h : s.power.resetLow = true) : exec (.powerUp held) s = .next { s with
    power := { s.power with powered := true, checkGood := s.power.checkGood && held } } := if_pos h

theorem powerUp_completes (held : Bool) (s : State) : ∃ t, exec (.powerUp held) s = .next t := by
  cases hlow : s.power.resetLow with
  | true => exact ⟨_, exec_powerUp_inReset held hlow⟩
  | false => exact ⟨_, exec_powerUp hlow⟩

/-- Every command that is not about power, RESET or a tick is an event, and each of the others has its own law. -/
theorem exec_completes (c : Instr) (s : State) : ∃ t, exec c s = .next t := by
  cases c with
  | tick => exact tick_completes s
  | reset => exact reset_completes s
  | powerUp held => exact powerUp_completes held s
  | resetHeldLow => exact ⟨_, rfl⟩
  | powerDown => exact ⟨_, rfl⟩
  | _ => exact completes_of_event (exec_eq_event nofun nofun nofun nofun nofun)

/-- The queue's part of `exec_moves`: it needs nothing of the record that a FETCH brings. -/
theorem exec_pending {c : Instr} {t : State} (h : exec c s = .next t) : t.pending = s.pending :=
  (exec_moves (fed := False) h False.elim).pending

end

/-- Settles O1: `step_of_front` at a queue with a front command, and `step_of_idle`. -/
theorem stepTakesFrontCommand : Obligations.StepTakesFrontCommand :=
  ⟨fun _ _ _ => step_of_front rfl, fun _ => step_of_idle⟩

/-- Settles O2: a command answers a next state (`exec_completes`), whose queue is that of the state before
(`exec_pending`). -/
theorem everyCommandCompletes : Obligations.EveryCommandCompletes := by
  intro c s
  obtain ⟨t, ht⟩ := exec_completes c s
  exact ⟨t, ht, exec_pending ht⟩

end Sys2Proof.Proofs
